-- ==== Sys2Proof/Word.lean ====
section
/-! DEFINITION. The word types of the T42: what the spec itself treats as bits. -/

namespace Sys2Proof

/-- One byte on a port, and one byte of a frame (01 R1, R2). -/
abbrev Byte := BitVec 8

/-- A two-byte field as received or sent (01 R13). -/
abbrev Half := BitVec 16

/-- A count of the time base: 32 bits, wrapping (02 R24). -/
abbrev Tick := BitVec 32

end Sys2Proof
end

