-- ==== Sys2Proof/Syntax.lean ====
section
/-! DEFINITION. The commands: one constructor per row of spec/opcode_table.json. -/

namespace Sys2Proof

/-- The two serial ports (01, introduction). -/
inductive Port
  | field
  | controller
  deriving DecidableEq, Repr

/-- A frame between SYNC and CHECK: its KIND and its PAYLOAD; LEN is the payload's length (01, Envelope). -/
structure Frame where
  kind    : Byte
  payload : List Byte
  deriving DecidableEq, Repr

/-- The commands of the block, in the table's order. A request row stands for its frame arriving complete and good
on the controller port (log entry 1). A timer row stands for the tenth at which its event is due (log entry 2). -/
inductive Instr
  /-- RESET: a whole reset, by power-on or RESETn; the operand is the RATESEL level when it ends. -/
  | reset (rateselHigh : Bool)
  /-- SAMPLE: a SAMPLE frame arrives on the field port. -/
  | sample (payload : List Byte)
  /-- BAD_FRAME: the frame being received on a port is declared bad. -/
  | badFrame (port : Port)
  /-- INTER_BYTE_GAP_EXPIRY: a port's 1.0 ms inter-byte gap timer expires. -/
  | interByteGapExpiry (port : Port)
  /-- FIELD_OTHER_FRAME: a good frame of another KIND arrives on the field port. -/
  | fieldOtherFrame (kind : Byte) (payload : List Byte)
  /-- KEEPALIVE: a KEEPALIVE with LEN 0 arrives on the controller port. -/
  | keepalive
  /-- LATE_BREACH: the tenth at which the keepalive timer reaches KEEPALIVE_UPPER. -/
  | lateBreach
  /-- REQUEST_ARRIVAL: a good frame arrives on the controller port. -/
  | requestArrival (kind : Byte) (payload : List Byte)
  /-- UNKNOWN_REQUEST: a frame of unknown KIND. -/
  | unknownRequest (kind : Byte) (payload : List Byte)
  /-- PROGRAM_WRITE: TABLE_WRITE to table 00h. -/
  | programWrite (index : Byte) (data : List Byte)
  /-- PATTERN_WRITE: TABLE_WRITE to table 01h. -/
  | patternWrite (index : Byte) (data : List Byte)
  /-- CURVE_WRITE: TABLE_WRITE to table 02h. -/
  | curveWrite (index : Byte) (data : List Byte)
  /-- LIMITS_WRITE: TABLE_WRITE to table 03h. -/
  | limitsWrite (index : Byte) (data : List Byte)
  /-- ACTIONS_WRITE: TABLE_WRITE to table 04h. -/
  | actionsWrite (index : Byte) (data : List Byte)
  /-- CONFIG_WRITE: TABLE_WRITE to table 05h. -/
  | configWrite (index : Byte) (data : List Byte)
  /-- ELECTRODE_BURST_WRITE: CONFIG 0. -/
  | electrodeBurstWrite (value : Half)
  /-- ELECTRODE_TRIM_WRITE: CONFIG 2. -/
  | electrodeTrimWrite (value : Half)
  /-- SHORT_LIMIT_WRITE: CONFIG 3. -/
  | shortLimitWrite (value : Half)
  /-- LINK_ERR_LIMIT_WRITE: CONFIG 21. -/
  | linkErrLimitWrite (value : Half)
  /-- KEEPALIVE_UPPER_WRITE: CONFIG 22. -/
  | keepaliveUpperWrite (value : Half)
  /-- KEEPALIVE_LOWER_WRITE: CONFIG 23. -/
  | keepaliveLowerWrite (value : Half)
  /-- GAP_SAMPLES_WRITE: CONFIG 20. -/
  | gapSamplesWrite (value : Half)
  /-- AIRFLOW_SPEED_WRITE: CONFIG 8. -/
  | airflowSpeedWrite (value : Half)
  /-- COOL_SPEED_WRITE: CONFIG 13. -/
  | coolSpeedWrite (value : Half)
  /-- COPY_DECIMATION_WRITE: CONFIG 24. -/
  | copyDecimationWrite (value : Half)
  /-- REPORT_INTERVAL_WRITE: CONFIG 25. -/
  | reportIntervalWrite (value : Half)
  /-- UPSTREAM_LEVEL_WRITE: CONFIG 26. -/
  | upstreamLevelWrite (value : Half)
  /-- ATTN_MASK_WRITE: CONFIG 27. -/
  | attnMaskWrite (value : Half)
  /-- PROTECT_COUNT_WRITE: CONFIG 28. -/
  | protectCountWrite (value : Half)
  /-- PROTECT_SIDE_WRITE: CONFIG 29. -/
  | protectSideWrite (value : Half)
  /-- TABLE_READ, KIND 42h. -/
  | tableRead (payload : List Byte)
  /-- CYCLE_START, KIND 43h. -/
  | cycleStart (payload : List Byte)
  /-- CYCLE_PAUSE, KIND 44h. -/
  | cyclePause (payload : List Byte)
  /-- CYCLE_RESUME, KIND 45h. -/
  | cycleResume (payload : List Byte)
  /-- CYCLE_ABORT, KIND 46h. -/
  | cycleAbort (payload : List Byte)
  /-- FAULT_CLEAR, KIND 47h. -/
  | faultClear (payload : List Byte)
  /-- STATUS_READ, KIND 48h. -/
  | statusRead (payload : List Byte)
  /-- TRIM_STEP, KIND 4Ah. -/
  | trimStep (payload : List Byte)
  /-- LIMIT_LOCK, KIND 4Bh. -/
  | limitLock (payload : List Byte)
  /-- LIMIT_UNLOCK, KIND 4Ch. -/
  | limitUnlock (payload : List Byte)
  /-- UPSTREAM_FLUSH, KIND 4Dh. -/
  | upstreamFlush (payload : List Byte)
  /-- GAP_EXPIRY: the gap timer reaches its span. -/
  | gapExpiry
  /-- TENTH: the time base rises by one tenth. -/
  | tenth
  /-- SECOND_EXPIRY: the tenth that is a second expiry. -/
  | secondExpiry
  /-- DWELL_SPAN_END: the tenth at which the DWELL span ends. -/
  | dwellSpanEnd
  /-- MOTOR_STALL: the tenth at which the spinup count reaches its limit. -/
  | motorStall
  /-- DRUM_OVERRUN: the tenth at which the coast count reaches its limit. -/
  | drumOverrun
  /-- SEGMENT_END: the tenth at which a run segment completes its length. -/
  | segmentEnd
  /-- EARLY_END: the tenth at which a tangled segment ends early. -/
  | earlyEnd
  /-- TANGLE: the second expiry at which a tangle is detected. -/
  | tangle
  /-- REPORT: the second expiry at which the report timer reaches REPORT_INTERVAL. -/
  | report
  /-- SAMPLE_COPY: the SAMPLE at which the copy decimation counter reaches COPY_DECIMATION. -/
  | sampleCopy (payload : List Byte)
  /-- TIMEOUT: the second expiry at which a HEAT_TO_DRY phase reaches its duration span. -/
  | timeout
  /-- DURATION: the second expiry at which a phase of another kind reaches its duration span. -/
  | duration
  /-- COOLED: the second expiry at which the COOL settle count reaches 10. -/
  | cooled
  /-- COOLDOWN_LIMIT_REACHED: the second expiry at which the cooldown timer reaches its limit. -/
  | cooldownLimitReached
  /-- READY_RISE: the READY line rises. -/
  | readyRise
  /-- CONTROLLER_TX_END: the frame in the controller port transmitter has been sent. -/
  | controllerTxEnd
  /-- DRIVE_TX_END: the DRIVE in the field port transmitter has been sent. -/
  | driveTxEnd
  /-- SERVICE_CHANGE: the SERVICE line takes a level. -/
  | serviceChange (high : Bool)
  /-- READY_FALL: the READY line falls. -/
  | readyFall
  /-- BYTE_ARRIVAL: a byte arrives on a port, with its parity bit and its stop bit. -/
  | byteArrival (port : Port) (data : Byte) (parity stop : Bool)
  /-- KEEPALIVE_FORMAT: a KEEPALIVE with a LEN other than 0. -/
  | keepaliveFormat (payload : List Byte)
  /-- TABLE_WRITE_REFUSED: a TABLE_WRITE with a LEN outside 3 to 16 or a table id outside 00h to 05h. -/
  | tableWriteRefused (payload : List Byte)
  deriving DecidableEq, Repr

end Sys2Proof
end

