-- ==== Sys2Proof/Decode.lean ====
section
/-! DEFINITION. Decoding of command words. No row of spec/opcode_table.json gives any bits ("fields": [] in every
row, and no match or pattern), so no word spells a command. Beside it, the
form checks of frames that the rules and well-formedness share. -/

namespace Sys2Proof

/-- LEN lies within 0 to 32 (01, Envelope). -/
def Frame.fits (f : Frame) : Bool := f.payload.length ≤ 32

/-- The checks of 01 R5 on a SAMPLE's payload: LEN 19 or 27, E 4 or 8, LEN = 11 + 2 × E. -/
def samplePayloadOk (p : List Byte) : Bool :=
  match p[10]? with
  | some e => (e.toNat == 4 || e.toNat == 8) && p.length == 11 + 2 * e.toNat
  | none => false

/-- The KINDs that have a meaning as a request: 41h to 4Dh (01 R6). -/
def knownRequestKind (k : Byte) : Bool := 0x41 ≤ k.toNat && k.toNat ≤ 0x4D

/-- The payload of a TABLE_WRITE: table id, index, entry data (01, Request payloads). -/
def tableWritePayload (id index : Byte) (data : List Byte) : List Byte := id :: index :: data

/-- The command that a word of the table's bits spells: none, since the table gives no row any bits. -/
def decodeTableWord (_nbits _w : Nat) : Option Instr := none

end Sys2Proof
end

