-- ==== Sys2Proof/Config.lean ====
section
/-! DEFINITION. The free values: what the spec leaves open and the machine nevertheless produces. -/

namespace Sys2Proof

/-- What a REPORT carries in its exhaust and inlet fields when no SAMPLE has been accepted since reset:
01 R14 fills the fields, 02 R21 gives no readings. The argument counts the uses (log entry 8).
No body: nothing can be proved of a value. -/
opaque Config.unreadTemperature : Nat → Half

end Sys2Proof
end

