-- ==== Sys2Proof/Machine/Types.lean ====
section
/-! DEFINITION. The types that State is made of, block by block, as the spec lays the blocks out. -/

namespace Sys2Proof.Machine

/-! ### Shared kinds -/

/-- Heater levels, L0 < L1 < L2 (00, Heater levels). -/
inductive Level
  | l0
  | l1
  | l2
  deriving DecidableEq, Repr

/-- Fault actions in increasing order of severity (09, introduction). -/
inductive Action
  | note
  | cutback
  | heatOff
  | coolRun
  | safeStop
  deriving DecidableEq, Repr

/-- The fifteen fault sources, in the order of 09 R156. -/
inductive Source
  | exhaustHigh
  | inletHigh
  | exhaustSensor
  | inletSensor
  | heaterNoclose
  | heaterWeld
  | fuseOpen
  | motorStall
  | drumOverrun
  | overcurrent
  | electrodeShort
  | fieldSilent
  | fieldLink
  | controllerLink
  | keepalive
  deriving DecidableEq, Repr

/-- Fault record states (09 R157). -/
inductive RecordState
  | clear
  | active
  | latched
  deriving DecidableEq, Repr

/-- One fault record (09 R157). -/
structure FaultRecord where
  state  : RecordState
  sticky : Bool
  count  : Nat
  deriving DecidableEq, Repr

/-- Phase kinds (01, Table entries). -/
inductive PhaseKind
  | none
  | heatToDry
  | heatTimed
  | cool
  | tumble
  | anticrease
  deriving DecidableEq, Repr

/-- One PROGRAM record (01, Table entries; 07 R116). `untangle = none` is FFh. -/
structure PhaseRecord where
  kind     : PhaseKind
  tSet     : Int
  cap      : Level
  dryness  : Nat
  confirm  : Nat
  depth    : Nat
  duration : Nat
  start    : Nat
  wrap     : Nat
  untangle : Option Nat
  deriving DecidableEq, Repr

/-- Directions of a PATTERN entry (01, Table entries). -/
inductive PatternDir
  | empty
  | cw
  | ccw
  | pause
  deriving DecidableEq, Repr

/-- One PATTERN entry (06 R96). -/
structure PatternEntry where
  dir      : PatternDir
  speed    : Nat
  duration : Nat
  deriving DecidableEq, Repr

/-- One CURVE point with its written flag (03 R35). -/
structure CurvePoint where
  value   : Nat
  written : Bool
  deriving DecidableEq, Repr

/-- One LIMITS entry (09 R151). -/
structure LimitEntry where
  high    : Int
  restore : Int
  persist : Nat
  deriving DecidableEq, Repr

/-- The CONFIG parameters, in index order (10 R174). -/
inductive Param
  | electrodeBurst
  | contactFloor
  | electrodeTrim
  | shortLimit
  | slopeAssist
  | rampStep
  | dwellTime
  | minTurn
  | airflowSpeed
  | spinupLimit
  | coastLimit
  | stopSpeed
  | speedTolerance
  | coolSpeed
  | tangleRipple
  | tangleScore
  | tangleLimit
  | stageInterval
  | relayHold
  | regBand
  | gapSamples
  | linkErrLimit
  | keepaliveUpper
  | keepaliveLower
  | copyDecimation
  | reportInterval
  | upstreamLevel
  | attnMask
  | protectCount
  | protectSide
  | suspendReset
  | cooldownLimit
  deriving DecidableEq, Repr

/-! ### Frame interfaces (01) -/

/-- Assembly states of a receiver (01 R2). -/
inductive RxState
  | hunt
  | kind
  | len
  | payload
  | check
  deriving DecidableEq, Repr

/-- A port's receiver: its assembly state with what it has gathered (01, Receiving a frame). The inter-byte gap timer
of 01 R4 runs exactly while the state is not HUNT. -/
structure Receiver where
  state     : RxState
  kind      : Byte
  len       : Nat
  payload   : List Byte
  crc       : Byte
  remaining : Nat
  deriving DecidableEq, Repr

/-- The field port transmitter: idle, sending, or sending with one DRIVE waiting; the lists are the frames' bytes on
the line (01 R8). -/
inductive FieldTx
  | idle
  | sending (line : List Byte)
  | sendingWaiting (line waiting : List Byte)
  deriving DecidableEq, Repr

/-- The controller port's rate, sampled from RATESEL (01 R1). -/
inductive Rate
  | low115200
  | high250000
  deriving DecidableEq, Repr

/-- Causes of a keepalive breach (01 R11). -/
inductive KeepaliveCause
  | none
  | early
  | late
  deriving DecidableEq, Repr

/-- The keepalive window (01 R10, R11). -/
structure Keepalive where
  timer   : Nat
  running : Bool
  cause   : KeepaliveCause
  deriving DecidableEq, Repr

/-- What the frame interfaces hold, with the two input lines READY and SERVICE. -/
structure Links where
  fieldRx       : Receiver
  controllerRx  : Receiver
  fieldBad      : Nat
  controllerBad : Nat
  fieldTx       : FieldTx
  controllerTx  : Option (List Byte)
  rate          : Rate
  receiveQueue  : List Frame
  keepalive     : Keepalive
  ready         : Bool
  service       : Bool
  deriving DecidableEq, Repr

/-! ### Sample path (02) -/

/-- Door state (02 R20). -/
inductive Door
  | isOpen
  | isClosed
  deriving DecidableEq, Repr

/-- A decoded temperature with its validity mark (02 R17). -/
structure Temperature where
  value : Int
  valid : Bool
  deriving DecidableEq, Repr

/-- The present readings (02 R17, R18, R21). -/
structure Readings where
  exhaust    : Temperature
  inlet      : Temperature
  current    : Nat
  tacho      : Int
  e          : Nat
  electrodes : List Nat
  deriving DecidableEq, Repr

/-- The last field flags (02 R19). -/
structure FieldFlags where
  doorClosed : Bool
  h1Closed   : Bool
  h2Closed   : Bool
  fuseIntact : Bool
  mains      : Bool
  deriving DecidableEq, Repr

/-- What the sample path holds. -/
structure SamplePath where
  lastSeq    : Option Byte
  missed     : Nat
  readings   : Option Readings
  door       : Door
  flags      : Option FieldFlags
  gapMillis  : Nat
  gapSpan    : Nat
  timeBase   : Tick
  millis     : Nat
  deriving DecidableEq, Repr

/-! ### Moisture estimator (03) -/

/-- One record of the exhaust history ring (03 R45). -/
structure RingRecord where
  temperature : Int
  level       : Level
  deriving DecidableEq, Repr

/-- What the moisture estimator holds; the ring is oldest first. -/
structure Moisture where
  w16      : Nat
  streak   : Nat
  allShort : Nat
  hits     : Nat
  ring     : List RingRecord
  lowest   : Level
  deriving DecidableEq, Repr

/-! ### Heater stager (04) -/

/-- Contact feedback of one stage (04 R70 to R72). -/
structure Feedback where
  agree       : Nat
  noClose     : Nat
  weld        : Nat
  noCloseFlag : Bool
  weldFlag    : Bool
  deriving DecidableEq, Repr

/-- What the heater stager holds; `refH1`, `refH2` are the stages of the reference DRIVE (04 R70). -/
structure Heater where
  wanted    : Level
  commanded : Level
  h1Switch  : Option Tick
  h2Switch  : Option Tick
  lastUp    : Option Tick
  h1        : Feedback
  h2        : Feedback
  refH1     : Bool
  refH2     : Bool
  deriving DecidableEq, Repr

/-! ### Drum motion controller (05) -/

/-- Drum states (05 R75). -/
inductive DrumState
  | stopped
  | ramp
  | turning
  | decel
  | dwell
  deriving DecidableEq, Repr

/-- Drum directions (05 R75). -/
inductive Direction
  | stop
  | cw
  | ccw
  deriving DecidableEq, Repr

/-- The winning demand (05 R77), with its source in the constructor: STOP, the override's RUN CW, the walker's RUN,
the walker's PAUSE in seconds. -/
inductive Demand
  | stop
  | override (speed : Nat)
  | walkerRun (dir : Direction) (speed : Nat)
  | walkerPause (seconds : Nat)
  deriving DecidableEq, Repr

/-- What the drum motion controller holds; a count of `none` is idle. -/
structure Drum where
  state        : DrumState
  dir          : Direction
  setpoint     : Nat
  target       : Nat
  winner       : Demand
  spinup       : Option Nat
  coast        : Option Nat
  dwell        : Option Nat
  turningEntry : Option Tick
  stallMark    : Bool
  overrunMark  : Bool
  ocRun        : Nat
  currentMin   : Option Nat
  currentMax   : Option Nat
  deriving DecidableEq, Repr

/-! ### Pattern walker and tangle monitor (06) -/

/-- A main window: aligned base and size (06 R97). -/
structure Window where
  base : Nat
  size : Nat
  deriving DecidableEq, Repr

/-- What the pattern walker and tangle monitor hold. -/
structure Walker where
  main      : Option Window
  untangle  : Option Nat
  index     : Option Nat
  segment   : Option PatternEntry
  turning   : Nat
  early     : Bool
  pass      : Bool
  remaining : Nat
  ret       : Option Nat
  score     : Nat
  count     : Nat
  persist   : Bool
  deriving DecidableEq, Repr

/-! ### Cycle controller (07, 08) -/

/-- Cycle states (07, 08). -/
inductive CycleState
  | idle
  | active
  | suspended
  | cooldown
  | halted
  deriving DecidableEq, Repr

/-- What the cycle controller holds; a timer of `none` is idle. -/
structure Cycle where
  state      : CycleState
  slot       : Nat
  phase      : Nat
  record     : PhaseRecord
  anticrease : Bool
  elapsed    : Nat
  settle     : Nat
  notDry     : Bool
  drySeen    : Bool
  suspension : Option Nat
  cooldown   : Option Nat
  deriving DecidableEq, Repr

/-! ### Limit and fault unit (09) -/

/-- What the limit and fault unit holds, with the conditions the sources watch (09 R156), by source number. -/
structure Faults where
  limits     : Vector LimitEntry 4
  actions    : Vector Action 15
  records    : Vector FaultRecord 15
  conditions : Vector Bool 15
  effective  : Action
  deriving DecidableEq, Repr

/-! ### Request handler and table store (10) -/

/-- What the request handler holds; LIMITS and ACTIONS are in `Faults`. -/
structure Tables where
  program    : Vector PhaseRecord 128
  pattern    : Vector PatternEntry 32
  curve      : Vector CurvePoint 9
  params     : Vector Nat 32
  lock       : Bool
  inProgress : Option Frame
  deriving DecidableEq, Repr

/-! ### Upstream queue and event list (11) -/

/-- Kinds of upstream frames (11, introduction). -/
inductive UpKind
  | sampleCopy
  | report
  | event
  | response
  deriving DecidableEq, Repr

/-- A frame of the upstream queue: its kind and its payload as built (01 R14). -/
structure UpFrame where
  kind    : UpKind
  payload : List Byte
  deriving DecidableEq, Repr

/-- Event kinds (01, Enumerations). -/
inductive EventKind
  | powerUp
  | phaseBegin
  | phaseEnd
  | cycleDone
  | suspended
  | resumed
  | cooldownBegin
  | cooldownEnd
  | faultRaised
  | faultCleared
  | tangle
  | tanglePersist
  | overflow
  deriving DecidableEq, Repr

/-- An entry of the event list (11 R183). -/
structure EventEntry where
  kind  : EventKind
  arg   : Nat
  count : Nat
  deriving DecidableEq, Repr

/-- What the upstream block holds, with the ATTN line; queue and list are oldest first. -/
structure Upstream where
  queue       : List UpFrame
  events      : List EventEntry
  dropped     : Nat
  levelFlag   : Bool
  copyCounter : Nat
  reportTimer : Nat
  attn        : Bool
  deriving DecidableEq, Repr

/-! ### The model's own fields -/

/-- The blocks whose work on one accepted SAMPLE the spec leaves in any order (02 R22, 04 R67, 05 R85, 07 R127). -/
inductive SampleBlock
  | limits
  | moisture
  | contacts
  | heater
  | drum
  | cycle
  deriving DecidableEq, Repr

/-- The blocks whose work at one tenth the spec leaves in any order (02 R24, 07 R124, 11 R184). -/
inductive TenthBlock
  | keepalive
  | drum
  | moisture
  | walker
  | cycle
  | report
  deriving DecidableEq, Repr

/-- The order taken at one event with coinciding blocks (log entry 5): the blocks named first come first, the others
follow in the default order. `overcurrentLate`: the OVERCURRENT hand-over of a SAMPLE is taken after the drum's work
and not before its step 2 (05 R85). `gapFirst`: a gap expiry and a tenth of one millisecond, gap first. -/
structure Choice where
  sample          : List SampleBlock
  tenth           : List TenthBlock
  overcurrentLate : Bool
  gapFirst        : Bool
  deriving DecidableEq, Repr

/-- The model's own fields (log entries 5, 6, 8, 11, 21): none of them is the spec's. `deferred` holds the winners that a
SAMPLE's work has brought before the drum's step 2, oldest first; `airflowWaits` says that a tacho that may have reached
AIRFLOW_SPEED at this SAMPLE lifts the airflow permission at the drum's work and not before (04 R67). -/
structure Aux where
  choices       : List Choice
  drumDeferred  : Bool
  deferred      : List Demand
  airflowWaits  : Bool
  segFresh      : Bool
  freeCount     : Nat
  deriving DecidableEq, Repr

end Sys2Proof.Machine
end

