-- ==== Sys2Proof/Machine/ResetValues.lean ====
section
/-! DEFINITION. The fixed numbers of the tables (CONFIG parameters, fault sources) and the reset values of each block. -/

namespace Sys2Proof.Machine

/-! ### CONFIG (10 R174) -/

/-- One row of the CONFIG table: index, range, default, and whether it belongs to the safety set. -/
structure ParamRow where
  index  : Fin 32
  lo     : Nat
  hi     : Nat
  dflt   : Nat
  safety : Bool

/-- The CONFIG table of 10 R174. ELECTRODE_BURST stores 4 or 8 alone (03 R53). -/
def Param.row : Param → ParamRow
  | .electrodeBurst => ⟨0, 4, 8, 8, false⟩
  | .contactFloor => ⟨1, 0, 4094, 200, false⟩
  | .electrodeTrim => ⟨2, 0, 15, 8, false⟩
  | .shortLimit => ⟨3, 10, 1000, 100, false⟩
  | .slopeAssist => ⟨4, 0, 200, 40, false⟩
  | .rampStep => ⟨5, 1, 50, 5, false⟩
  | .dwellTime => ⟨6, 5, 100, 20, false⟩
  | .minTurn => ⟨7, 10, 300, 40, false⟩
  | .airflowSpeed => ⟨8, 100, 500, 300, true⟩
  | .spinupLimit => ⟨9, 2, 30, 8, false⟩
  | .coastLimit => ⟨10, 2, 30, 10, false⟩
  | .stopSpeed => ⟨11, 5, 50, 20, false⟩
  | .speedTolerance => ⟨12, 5, 100, 20, false⟩
  | .coolSpeed => ⟨13, 200, 600, 450, false⟩
  | .tangleRipple => ⟨14, 100, 10000, 900, false⟩
  | .tangleScore => ⟨15, 1, 10, 3, false⟩
  | .tangleLimit => ⟨16, 1, 50, 6, false⟩
  | .stageInterval => ⟨17, 1, 30, 3, false⟩
  | .relayHold => ⟨18, 5, 100, 20, false⟩
  | .regBand => ⟨19, 5, 200, 30, false⟩
  | .gapSamples => ⟨20, 3, 20, 5, true⟩
  | .linkErrLimit => ⟨21, 2, 15, 8, false⟩
  | .keepaliveUpper => ⟨22, 0, 100, 0, false⟩
  | .keepaliveLower => ⟨23, 0, 20, 0, false⟩
  | .copyDecimation => ⟨24, 0, 100, 0, false⟩
  | .reportInterval => ⟨25, 0, 60, 1, false⟩
  | .upstreamLevel => ⟨26, 1, 15, 12, false⟩
  | .attnMask => ⟨27, 0, 7, 7, false⟩
  | .protectCount => ⟨28, 0, 16, 0, true⟩
  | .protectSide => ⟨29, 0, 1, 0, true⟩
  | .suspendReset => ⟨30, 1, 120, 30, false⟩
  | .cooldownLimit => ⟨31, 1, 30, 10, false⟩

/-- The parameters in index order. -/
def Param.all : List Param :=
  [.electrodeBurst, .contactFloor, .electrodeTrim, .shortLimit, .slopeAssist, .rampStep,
   .dwellTime, .minTurn, .airflowSpeed, .spinupLimit, .coastLimit, .stopSpeed,
   .speedTolerance, .coolSpeed, .tangleRipple, .tangleScore, .tangleLimit, .stageInterval,
   .relayHold, .regBand, .gapSamples, .linkErrLimit, .keepaliveUpper, .keepaliveLower,
   .copyDecimation, .reportInterval, .upstreamLevel, .attnMask, .protectCount, .protectSide,
   .suspendReset, .cooldownLimit]

/-- The parameter of a CONFIG index, if there is one. -/
def Param.ofIndex? (i : Nat) : Option Param := Param.all[i]?

/-! ### Fault sources (09 R156) -/

/-- One row of the source table: number, floor, default action. -/
structure SourceRow where
  index : Fin 15
  floor : Action
  dflt  : Action

/-- The source table of 09 R156. -/
def Source.row : Source → SourceRow
  | .exhaustHigh => ⟨0, .heatOff, .heatOff⟩
  | .inletHigh => ⟨1, .cutback, .cutback⟩
  | .exhaustSensor => ⟨2, .heatOff, .heatOff⟩
  | .inletSensor => ⟨3, .heatOff, .heatOff⟩
  | .heaterNoclose => ⟨4, .note, .note⟩
  | .heaterWeld => ⟨5, .coolRun, .coolRun⟩
  | .fuseOpen => ⟨6, .safeStop, .safeStop⟩
  | .motorStall => ⟨7, .heatOff, .safeStop⟩
  | .drumOverrun => ⟨8, .note, .note⟩
  | .overcurrent => ⟨9, .heatOff, .safeStop⟩
  | .electrodeShort => ⟨10, .note, .note⟩
  | .fieldSilent => ⟨11, .heatOff, .heatOff⟩
  | .fieldLink => ⟨12, .note, .heatOff⟩
  | .controllerLink => ⟨13, .note, .note⟩
  | .keepalive => ⟨14, .heatOff, .heatOff⟩

/-- The sources in number order. -/
def Source.all : List Source :=
  [.exhaustHigh, .inletHigh, .exhaustSensor, .inletSensor, .heaterNoclose, .heaterWeld,
   .fuseOpen, .motorStall, .drumOverrun, .overcurrent, .electrodeShort, .fieldSilent,
   .fieldLink, .controllerLink, .keepalive]

/-- The source of a number, if there is one. -/
def Source.ofIndex? (i : Nat) : Option Source := Source.all[i]?

/-! ### Reset values -/

/-- The NONE record (07 R114). -/
def noneRecord : PhaseRecord :=
  { kind := .none, tSet := 300, cap := .l0, dryness := 0, confirm := 50, depth := 1, duration := 1, start := 0,
    wrap := 4, untangle := none }

/-- An EMPTY PATTERN entry (06 R96). -/
def emptyEntry : PatternEntry := { dir := .empty, speed := 0, duration := 0 }

/-- A receiver in HUNT, with nothing gathered (01 R2; log entry 15). -/
def Receiver.idle : Receiver := { state := .hunt, kind := 0, len := 0, payload := [], crc := 0, remaining := 0 }

/-- CONFIG after reset: every default (10 R180). -/
def resetParams : Vector Nat 32 := Vector.ofFn fun i => ((Param.all[i.val]?).map fun p => p.row.dflt).getD 0

/-- ACTIONS after reset: every default (09 R161). -/
def resetActions : Vector Action 15 := Vector.ofFn fun i => ((Source.all[i.val]?).map fun x => x.row.dflt).getD .note

/-- LIMITS after reset (09 R151): EXHAUST, INLET, MOTOR, ABORT_COOL. -/
def resetLimits : Vector LimitEntry 4 := #v[⟨900, 800, 1⟩, ⟨1700, 1500, 1⟩, ⟨6000, 5000, 10⟩, ⟨550, 0, 0⟩]

/-- The tables after reset (10 R180). -/
def resetTables : Tables :=
  { program := Vector.replicate 128 noneRecord, pattern := Vector.replicate 32 emptyEntry,
    curve := Vector.replicate 9 ⟨0, false⟩, params := resetParams, lock := false, inProgress := none }

/-- The limit and fault unit after reset (09 R167). -/
def resetFaults : Faults :=
  { limits := resetLimits, actions := resetActions, records := Vector.replicate 15 ⟨.clear, false, 0⟩,
    conditions := Vector.replicate 15 false, effective := .note }

/-- The frame interfaces after reset (01 R1, R2, R6 to R10); READY and SERVICE are inputs (log entry 7). -/
def resetLinks (rate : Rate) (ready service : Bool) : Links :=
  { fieldRx := .idle, controllerRx := .idle, fieldBad := 0, controllerBad := 0, fieldTx := .idle, controllerTx := none,
    rate, receiveQueue := [], keepalive := ⟨0, false, .none⟩, ready, service }

/-- The sample path after reset (02, Reset values); the gap span is 5 × 10 ms. -/
def resetPath : SamplePath :=
  { lastSeq := none, missed := 0, readings := none, door := .isOpen, flags := none, gapMillis := 0, gapSpan := 50,
    timeBase := 0, millis := 0 }

/-- The moisture estimator after reset (03 R55). -/
def resetMoisture : Moisture := { w16 := 16000, streak := 0, allShort := 0, hits := 0, ring := [], lowest := .l0 }

/-- A stage's feedback after reset (04 R73). -/
def resetFeedback : Feedback := ⟨0, 0, 0, false, false⟩

/-- The heater stager after reset (04 R73). -/
def resetHeater : Heater :=
  { wanted := .l0, commanded := .l0, h1Switch := none, h2Switch := none, lastUp := none, h1 := resetFeedback,
    h2 := resetFeedback, refH1 := false, refH2 := false }

/-- The drum motion controller after reset (05 R95). -/
def resetDrum : Drum :=
  { state := .stopped, dir := .stop, setpoint := 0, target := 0, winner := .stop, spinup := none, coast := none,
    dwell := none, turningEntry := none, stallMark := false, overrunMark := false, ocRun := 0, currentMin := none,
    currentMax := none }

/-- The pattern walker and tangle monitor after reset (06 R113). -/
def resetWalker : Walker :=
  { main := none, untangle := none, index := none, segment := none, turning := 0, early := false, pass := false,
    remaining := 0, ret := none, score := 0, count := 0, persist := false }

/-- The cycle controller after reset (07 R136, 08 R150). -/
def resetCycle : Cycle :=
  { state := .idle, slot := 0, phase := 0, record := noneRecord, anticrease := false, elapsed := 0, settle := 0,
    notDry := false, drySeen := false, suspension := none, cooldown := none }

/-- The POWER_UP EVENT frame: kind 01h, argument 0, count 1 (11 R183). -/
def powerUpFrame : UpFrame := ⟨.event, [1, 0, 1]⟩

/-- The upstream block after reset (11 R187). -/
def resetUpstream : Upstream :=
  { queue := [powerUpFrame], events := [], dropped := 0, levelFlag := false, copyCounter := 0, reportTimer := 0,
    attn := false }

/-- The model's own fields after reset (log entries 5, 6, 8, 11). -/
def resetAux : Aux :=
  { choices := [], drumDeferred := false, deferred := [], airflowWaits := false, segFresh := false, freeCount := 0 }

end Sys2Proof.Machine
end

