-- ==== Sys2Proof/Machine/State.lean ====
section
/-! DEFINITION. The state of the T42: one record per block of the spec's block overview, the queue of waiting commands,
and the model's own fields. -/

namespace Sys2Proof.Machine

/-- Everything the spec gives the part, block by block (INVENTORY.md, State), plain data throughout. -/
structure State where
  pending  : List Instr
  links    : Links
  path     : SamplePath
  moisture : Moisture
  heater   : Heater
  drum     : Drum
  walker   : Walker
  cycle    : Cycle
  faults   : Faults
  tables   : Tables
  upstream : Upstream
  aux      : Aux
  deriving DecidableEq, Repr

/-- What stops the part: nothing. No rule of the spec stops it (a dryer fault is a record, an event and an action,
09 R157 to R160), so there is no constructor, nobody raises one, and that is neither safe nor unsafe. -/
inductive Fault
  deriving DecidableEq, Repr

/-- Why a command has no meaning in the model. -/
inductive Refusal
  /-- Raised by `exec`'s own arm for a row not modelled yet, and by nothing else (no arm is left so): safe. -/
  | notModelled (mnemonic : String)
  deriving DecidableEq, Repr

/-- The part right after a reset, with no command waiting. READY and SERVICE low and RATESEL low are the model's
choice for three input lines (log entry 7); every other value is the spec's reset value. -/
def State.reset : State :=
  { pending := [], links := resetLinks .low115200 false false, path := resetPath, moisture := resetMoisture,
    heater := resetHeater, drum := resetDrum, walker := resetWalker, cycle := resetCycle, faults := resetFaults,
    tables := resetTables, upstream := resetUpstream, aux := resetAux }

end Sys2Proof.Machine
end

