-- ==== Sys2Proof/Machine/Operands.lean ====
section
/-! DEFINITION. Operand forms: clamping, byte order, the codes of enumerated fields, the layouts of entries and payloads,
and the frame check (01 R3, R13, R14). -/

namespace Sys2Proof.Machine

/-! ### Arithmetic (00, Arithmetic) -/

/-- Clamp into a range (00, Arithmetic). -/
def clampNat (lo hi v : Nat) : Nat := if v < lo then lo else if hi < v then hi else v

/-- Clamp into a range of signed values (00, Arithmetic). -/
def clampInt (lo hi v : Int) : Int := if v < lo then lo else if hi < v then hi else v

/-- A count that saturates at a maximum (00, Arithmetic). -/
def satSucc (max n : Nat) : Nat := if n < max then n + 1 else max

/-- A span of `n` tenths that began at a count has lasted (02 R25). -/
def lasted (now start : Tick) (n : Nat) : Bool := n ≤ (now - start).toNat

/-- The same for a stamp that may be none: none counts as having lasted every span (04 R56). -/
def stampLasted (now : Tick) (stamp : Option Tick) (n : Nat) : Bool :=
  match stamp with
  | none => true
  | some t => lasted now t n

/-! ### Byte order (01 R13) -/

/-- A byte of a number below 256 (higher bits dropped). -/
def byteOf (n : Nat) : Byte := BitVec.ofNat 8 n

/-- Two bytes, most significant first, as an unsigned number. -/
def read16 (hi lo : Byte) : Nat := hi.toNat * 256 + lo.toNat

/-- Two bytes, most significant first, as a two's complement number. -/
def readSigned16 (hi lo : Byte) : Int := if read16 hi lo < 32768 then (read16 hi lo : Int) else (read16 hi lo : Int) - 65536

/-- An unsigned number as two bytes, most significant first. -/
def bytes16 (n : Nat) : List Byte := [byteOf (n / 256), byteOf n]

/-- A signed number as two bytes of two's complement, most significant first. -/
def bytesSigned16 (x : Int) : List Byte := bytes16 (x % 65536).toNat

/-- A 16-bit value as two bytes, most significant first. -/
def bytesOfHalf (v : Half) : List Byte := bytes16 v.toNat

/-- The byte at an offset of a payload. -/
def byteAt (p : List Byte) (offset : Nat) : Byte := p.getD offset 0

/-- The unsigned two-byte field at an offset. -/
def field16 (p : List Byte) (offset : Nat) : Nat := read16 (byteAt p offset) (byteAt p (offset + 1))

/-- The signed two-byte field at an offset. -/
def fieldSigned16 (p : List Byte) (offset : Nat) : Int := readSigned16 (byteAt p offset) (byteAt p (offset + 1))

/-- Bit of a flag. -/
def bitOf (b : Bool) : Nat := if b then 1 else 0

/-! ### The frame check (01 R3) -/

/-- One shift of the CRC: left one place, and 07h combined when the bit shifted out is 1. -/
def crcShift (c : Byte) : Byte := if c.msb then (c <<< 1) ^^^ 0x07#8 else c <<< 1

/-- The CRC after one covered byte. -/
def crcByte (c b : Byte) : Byte :=
  crcShift (crcShift (crcShift (crcShift (crcShift (crcShift (crcShift (crcShift (c ^^^ b))))))))

/-- The CRC over covered bytes, from FFh. -/
def crcOf (bytes : List Byte) : Byte := bytes.foldl crcByte 0xFF#8

/-- The bytes of a frame on the line: SYNC, KIND, LEN, PAYLOAD, CHECK (01, Envelope). -/
def lineBytes (kind : Byte) (payload : List Byte) : List Byte :=
  0xC5#8 :: kind :: byteOf payload.length :: (payload ++ [crcOf (kind :: byteOf payload.length :: payload)])

/-- Even parity over eight data bits and the parity bit (01 R1). -/
def evenParity (data : Byte) (parity : Bool) : Bool :=
  !((data.getLsbD 0).xor ((data.getLsbD 1).xor ((data.getLsbD 2).xor ((data.getLsbD 3).xor ((data.getLsbD 4).xor
    ((data.getLsbD 5).xor ((data.getLsbD 6).xor ((data.getLsbD 7).xor parity))))))))

/-- A byte error: no even parity, or a low stop bit (01 R1). -/
def byteError (data : Byte) (parity stop : Bool) : Bool := !evenParity data parity || !stop

/-! ### Codes (01, Enumerations and Table entries) -/

/-- Heater level code; also the level's order. -/
def Level.code : Level → Nat
  | .l0 => 0
  | .l1 => 1
  | .l2 => 2

/-- A level from its code; codes above 2 are L2 (07 R116). -/
def Level.ofCode : Nat → Level
  | 0 => .l0
  | 1 => .l1
  | _ => .l2

/-- The lower of two levels (00, Heater levels). -/
def Level.lower (a b : Level) : Level := if a.code ≤ b.code then a else b

/-- One level lower; one lower than L0 is L0 (00, Heater levels). -/
def Level.oneLower : Level → Level
  | .l0 => .l0
  | .l1 => .l0
  | .l2 => .l1

/-- One level higher, for the upward step (04 R66). -/
def Level.oneHigher : Level → Level
  | .l0 => .l1
  | .l1 => .l2
  | .l2 => .l2

/-- H1 is on at L1 and L2 (04 R56). -/
def Level.h1 (l : Level) : Bool := decide (1 ≤ l.code)

/-- H2 is on at L2 (04 R56). -/
def Level.h2 (l : Level) : Bool := decide (2 ≤ l.code)

/-- Action code; also the order of severity. -/
def Action.code : Action → Nat
  | .note => 0
  | .cutback => 1
  | .heatOff => 2
  | .coolRun => 3
  | .safeStop => 4

/-- An action from its code; 05h and above is none (09 R161). -/
def Action.ofCode? : Nat → Option Action
  | 0 => some .note
  | 1 => some .cutback
  | 2 => some .heatOff
  | 3 => some .coolRun
  | 4 => some .safeStop
  | _ => none

/-- The higher of two actions. -/
def Action.higher (a b : Action) : Action := if a.code ≤ b.code then b else a

/-- Cycle state code. -/
def CycleState.code : CycleState → Nat
  | .idle => 0
  | .active => 1
  | .suspended => 2
  | .cooldown => 3
  | .halted => 4

/-- Drum state code. -/
def DrumState.code : DrumState → Nat
  | .stopped => 0
  | .ramp => 1
  | .turning => 2
  | .decel => 3
  | .dwell => 4

/-- Direction code, as in DRIVE (01, SAMPLE and DRIVE payloads). -/
def Direction.code : Direction → Nat
  | .stop => 0
  | .cw => 1
  | .ccw => 2

/-- Fault record state code. -/
def RecordState.code : RecordState → Nat
  | .clear => 0
  | .active => 1
  | .latched => 2

/-- Keepalive cause code (STATUS_READ byte 22). -/
def KeepaliveCause.code : KeepaliveCause → Nat
  | .none => 0
  | .early => 1
  | .late => 2

/-- Phase kind code. -/
def PhaseKind.code : PhaseKind → Nat
  | .none => 0
  | .heatToDry => 1
  | .heatTimed => 2
  | .cool => 3
  | .tumble => 4
  | .anticrease => 5

/-- A phase kind from its code; 06h and above is none (07 R115). -/
def PhaseKind.ofCode? : Nat → Option PhaseKind
  | 0 => some .none
  | 1 => some .heatToDry
  | 2 => some .heatTimed
  | 3 => some .cool
  | 4 => some .tumble
  | 5 => some .anticrease
  | _ => Option.none

/-- HEAT_TO_DRY and HEAT_TIMED heat (04 R57, R59). -/
def PhaseKind.heats : PhaseKind → Bool
  | .heatToDry => true
  | .heatTimed => true
  | .none => false
  | .cool => false
  | .tumble => false
  | .anticrease => false

/-- PATTERN direction code. -/
def PatternDir.code : PatternDir → Nat
  | .empty => 0
  | .cw => 1
  | .ccw => 2
  | .pause => 3

/-- A PATTERN direction from its code; 04h and above is none (06 R96). -/
def PatternDir.ofCode? : Nat → Option PatternDir
  | 0 => some .empty
  | 1 => some .cw
  | 2 => some .ccw
  | 3 => some .pause
  | _ => none

/-- Event kind code. -/
def EventKind.code : EventKind → Nat
  | .powerUp => 1
  | .phaseBegin => 2
  | .phaseEnd => 3
  | .cycleDone => 4
  | .suspended => 5
  | .resumed => 6
  | .cooldownBegin => 7
  | .cooldownEnd => 8
  | .faultRaised => 9
  | .faultCleared => 10
  | .tangle => 11
  | .tanglePersist => 12
  | .overflow => 13

/-- KIND of an upstream frame. -/
def UpKind.code : UpKind → Byte
  | .sampleCopy => 0x51
  | .report => 0x52
  | .event => 0x53
  | .response => 0x54

/-- SAMPLE_COPY and REPORT are displaceable, EVENT and RESPONSE are kept (11, introduction). -/
def UpFrame.displaceable (f : UpFrame) : Bool :=
  match f.kind with
  | .sampleCopy => true
  | .report => true
  | .event => false
  | .response => false

/-- Reasons of a phase end, the argument of PHASE_END (01, event kinds). -/
inductive EndReason
  | dry
  | timeout
  | duration
  | cooled
  deriving DecidableEq, Repr

/-- Reason code. -/
def EndReason.code : EndReason → Nat
  | .dry => 1
  | .timeout => 2
  | .duration => 3
  | .cooled => 4

/-- Results of a cycle, the argument of CYCLE_DONE (01, event kinds). -/
inductive CycleResult
  | dry
  | notDry
  | timed
  | aborted
  deriving DecidableEq, Repr

/-- Result code. -/
def CycleResult.code : CycleResult → Nat
  | .dry => 1
  | .notDry => 2
  | .timed => 3
  | .aborted => 4

/-- Causes of a suspension, the argument of SUSPENDED (01, event kinds). -/
inductive SuspendCause
  | pause
  | door
  deriving DecidableEq, Repr

/-- Cause code. -/
def SuspendCause.code : SuspendCause → Nat
  | .pause => 1
  | .door => 2

/-- Result codes of a RESPONSE (01, Result codes). -/
inductive Result
  | ok
  | clamped
  | state
  | notReady
  | locked
  | inUse
  | range
  | format
  | unknown
  | noProgram
  | patternEmpty
  | curveIncomplete
  | doorOpen
  | field
  deriving DecidableEq, Repr

/-- Code of a result. -/
def Result.code : Result → Nat
  | .ok => 0
  | .clamped => 1
  | .state => 2
  | .notReady => 3
  | .locked => 4
  | .inUse => 5
  | .range => 6
  | .format => 7
  | .unknown => 8
  | .noProgram => 9
  | .patternEmpty => 10
  | .curveIncomplete => 11
  | .doorOpen => 12
  | .field => 13

/-- What a request is answered with: a result code and the data. -/
structure Reply where
  result : Result
  data   : List Byte
  deriving DecidableEq, Repr

/-- A reply without data. -/
def Reply.plain (r : Result) : Reply := ⟨r, []⟩

/-- OK, or CLAMPED when a value was brought into range (10 R171). -/
def Result.ofChanged (changed : Bool) : Result := if changed then .clamped else .ok

/-! ### Table ids and sizes (01, Request payloads; 10 R170) -/

/-- The six tables. -/
inductive TableId
  | program
  | pattern
  | curve
  | limits
  | actions
  | config
  deriving DecidableEq, Repr

/-- Table id 00h to 05h. -/
def TableId.ofCode? : Nat → Option TableId
  | 0 => some .program
  | 1 => some .pattern
  | 2 => some .curve
  | 3 => some .limits
  | 4 => some .actions
  | 5 => some .config
  | _ => none

/-- Number of entries (10 R170, check 4). -/
def TableId.count : TableId → Nat
  | .program => 128
  | .pattern => 32
  | .curve => 9
  | .limits => 4
  | .actions => 15
  | .config => 32

/-- Entry size in bytes (10 R170, check 3). -/
def TableId.size : TableId → Nat
  | .program => 14
  | .pattern => 4
  | .curve => 2
  | .limits => 5
  | .actions => 1
  | .config => 2

/-! ### Entry layouts (01, Table entries) -/

/-- A PROGRAM record as 14 bytes. -/
def PhaseRecord.bytes (r : PhaseRecord) : List Byte :=
  byteOf r.kind.code :: bytesSigned16 r.tSet ++ [byteOf r.cap.code] ++ bytes16 r.dryness ++ bytes16 r.confirm ++
    [byteOf r.depth] ++ bytes16 r.duration ++ [byteOf r.start, byteOf r.wrap, byteOf (r.untangle.getD 255)]

/-- A PATTERN entry as 4 bytes. -/
def PatternEntry.bytes (e : PatternEntry) : List Byte :=
  byteOf e.dir.code :: bytes16 e.speed ++ [byteOf e.duration]

/-- A LIMITS entry as 5 bytes. -/
def LimitEntry.bytes (e : LimitEntry) : List Byte :=
  bytesSigned16 e.high ++ bytesSigned16 e.restore ++ [byteOf e.persist]

/-- The allowed wraps: the next allowed size up, at most 32 (07 R116). -/
def clampWrap (w : Nat) : Nat := if w ≤ 4 then 4 else if w ≤ 8 then 8 else if w ≤ 16 then 16 else 32

/-- The untangle start as stored: FFh is none, 32 to FEh become 31 (07 R116). -/
def clampUntangle (u : Nat) : Option Nat := if u = 255 then none else some (clampNat 0 31 u)

/-- The heater cap as stored: L0 for COOL, TUMBLE and ANTICREASE (07 R116). -/
def clampCap (k : PhaseKind) (c : Nat) : Level := if k.heats then Level.ofCode c else .l0

/-- The stored record of a written one whose kind is not NONE, from the 14 data bytes (07 R116). -/
def storedRecord (k : PhaseKind) (d : List Byte) : PhaseRecord :=
  { kind := k
    tSet := clampInt 300 800 (fieldSigned16 d 1)
    cap := clampCap k (byteAt d 3).toNat
    dryness := clampNat 0 1000 (field16 d 4)
    confirm := clampNat 50 12000 (field16 d 6)
    depth := clampNat 1 64 (byteAt d 8).toNat
    duration := clampNat 1 240 (field16 d 9)
    start := clampNat 0 31 (byteAt d 11).toNat
    wrap := clampWrap (byteAt d 12).toNat
    untangle := clampUntangle (byteAt d 13).toNat }

/-- The stored PATTERN entry of a written run or pause, from the 4 data bytes (06 R96). -/
def storedEntry (dir : PatternDir) (d : List Byte) : PatternEntry :=
  { dir, speed := clampNat 200 600 (field16 d 1), duration := clampNat 1 255 (byteAt d 3).toNat }

/-- The stored LIMITS entry of a written one, in the order of 09 R152, and whether any field was changed. -/
def storedLimit (index : Nat) (d : List Byte) : LimitEntry × Bool :=
  let high := fieldSigned16 d 0
  let restore := fieldSigned16 d 2
  let persist := (byteAt d 4).toNat
  match index with
  | 0 =>
    let h := clampInt 400 1200 high
    let r := clampInt (-300) (h - 10) restore
    (⟨h, r, 1⟩, h != high || r != restore || persist != 1)
  | 1 =>
    let h := clampInt 800 2200 high
    let r := clampInt (-300) (h - 10) restore
    (⟨h, r, 1⟩, h != high || r != restore || persist != 1)
  | 2 =>
    let h := clampInt 1000 20000 high
    let r := clampInt 0 (h - 10) restore
    let p := clampNat 1 100 persist
    (⟨h, r, p⟩, h != high || r != restore || p != persist)
  | _ =>
    let h := clampInt 300 800 high
    (⟨h, 0, 0⟩, h != high)

/-- ELECTRODE_BURST stores 4 or 8 (03 R53). -/
def storedBurst (v : Nat) : Nat := if v ≤ 6 then 4 else 8

/-- The stored value of a CONFIG write, before the keepalive parameters are held apart: clamped into the range of
10 R174, with ELECTRODE_BURST and ATTN_MASK by their own rules. -/
def storedParam (p : Param) (v : Nat) : Nat :=
  match p with
  | .electrodeBurst => storedBurst v
  | .attnMask => v % 8
  | p => clampNat p.row.lo p.row.hi v

/-! ### Decoding a SAMPLE (02 R17 to R19) -/

/-- A temperature and its validity mark: plausible is -300 to 1800 (02 R17). -/
def decodeTemperature (x : Int) : Temperature := { value := x, valid := decide (-300 ≤ x) && decide (x ≤ 1800) }

/-- The present readings of a SAMPLE payload (02 R17, R18). -/
def decodeReadings (p : List Byte) : Readings :=
  let e := (byteAt p 10).toNat
  { exhaust := decodeTemperature (fieldSigned16 p 2)
    inlet := decodeTemperature (fieldSigned16 p 4)
    current := clampNat 0 20000 (field16 p 6)
    tacho := clampInt (-1000) 1000 (fieldSigned16 p 8)
    e
    electrodes := (List.range e).map fun i => clampNat 0 4095 (field16 p (11 + 2 * i)) }

/-- The flags byte of a SAMPLE payload (02 R19). -/
def decodeFlags (p : List Byte) : FieldFlags :=
  let b := byteAt p 1
  { doorClosed := b.getLsbD 0, h1Closed := b.getLsbD 1, h2Closed := b.getLsbD 2, fuseIntact := b.getLsbD 3,
    mains := b.getLsbD 4 }

end Sys2Proof.Machine
end

