-- ==== Sys2Proof/Machine/Ops.lean ====
section
/-! DEFINITION. The named operations that read and write the state: one setter per block, and the accessors of tables,
parameters, fault records, conditions and clocks. Every block is written through its setter alone. -/

namespace Sys2Proof.Machine

/-! ### Setters -/

/-- The state with its `links` block replaced. -/
def State.setLinks (s : State) (b : Links) : State := { s with links := b }

/-- The state with its `path` block replaced. -/
def State.setPath (s : State) (b : SamplePath) : State := { s with path := b }

/-- The state with its `moisture` block replaced. -/
def State.setMoisture (s : State) (b : Moisture) : State := { s with moisture := b }

/-- The state with its `heater` block replaced. -/
def State.setHeater (s : State) (b : Heater) : State := { s with heater := b }

/-- The state with its `drum` block replaced. -/
def State.setDrum (s : State) (b : Drum) : State := { s with drum := b }

/-- The state with its `walker` block replaced. -/
def State.setWalker (s : State) (b : Walker) : State := { s with walker := b }

/-- The state with its `cycle` block replaced. -/
def State.setCycle (s : State) (b : Cycle) : State := { s with cycle := b }

/-- The state with its `faults` block replaced. -/
def State.setFaults (s : State) (b : Faults) : State := { s with faults := b }

/-- The state with its `tables` block replaced. -/
def State.setTables (s : State) (b : Tables) : State := { s with tables := b }

/-- The state with its `upstream` block replaced. -/
def State.setUpstream (s : State) (b : Upstream) : State := { s with upstream := b }

/-- The state with its `aux` block replaced. -/
def State.setAux (s : State) (b : Aux) : State := { s with aux := b }

/-! ### Clock and readings -/

/-- The time base count (02 R24). -/
def State.now (s : State) : Tick := s.path.timeBase

/-- The tacho of the present readings, 0 before the first SAMPLE (02 R21). -/
def State.tacho (s : State) : Int := (s.path.readings.map Readings.tacho).getD 0

/-- Absolute value of the tacho. -/
def State.speed (s : State) : Nat := s.tacho.natAbs

/-! ### CONFIG (10 R174) -/

/-- The value of a CONFIG parameter. -/
def State.param (s : State) (p : Param) : Nat := s.tables.params[p.row.index]

/-- Store a CONFIG parameter. -/
def State.setParam (s : State) (p : Param) (v : Nat) : State :=
  s.setTables { s.tables with params := s.tables.params.set p.row.index v }

/-! ### Fault records, conditions and actions (09 R157) -/

/-- The record of a source. -/
def State.record (s : State) (x : Source) : FaultRecord := s.faults.records[x.row.index]

/-- Store the record of a source. -/
def State.setRecord (s : State) (x : Source) (r : FaultRecord) : State :=
  s.setFaults { s.faults with records := s.faults.records.set x.row.index r }

/-- The condition of a source is present. -/
def State.present (s : State) (x : Source) : Bool := s.faults.conditions[x.row.index]

/-- Set the condition of a source present or absent. -/
def State.setPresent (s : State) (x : Source) (b : Bool) : State :=
  s.setFaults { s.faults with conditions := s.faults.conditions.set x.row.index b }

/-- The ACTIONS entry of a source. -/
def State.action (s : State) (x : Source) : Action := s.faults.actions[x.row.index]

/-- Store the ACTIONS entry of a source. -/
def State.setAction (s : State) (x : Source) (a : Action) : State :=
  s.setFaults { s.faults with actions := s.faults.actions.set x.row.index a }

/-- FIELD_SILENT is present (02 R27). -/
def State.silent (s : State) : Bool := s.present .fieldSilent

/-- The exhaust temperature of the present readings when it is valid; during FIELD_SILENT it counts as invalid
(02 R17, R21). -/
def State.exhaust? (s : State) : Option Int :=
  match s.path.readings with
  | none => none
  | some r => if r.exhaust.valid && !s.silent then some r.exhaust.value else none

/-! ### Tables -/

/-- A PROGRAM record. -/
def State.programAt (s : State) (i : Nat) : PhaseRecord := (s.tables.program[i]?).getD noneRecord

/-- A PATTERN entry. -/
def State.patternAt (s : State) (i : Nat) : PatternEntry := (s.tables.pattern[i]?).getD emptyEntry

/-- A CURVE point. -/
def State.curveAt (s : State) (i : Nat) : CurvePoint := (s.tables.curve[i]?).getD ⟨0, false⟩

/-- A LIMITS entry: 0 EXHAUST, 1 INLET, 2 MOTOR, 3 ABORT_COOL (09 R151). -/
def State.limitAt (s : State) (i : Fin 4) : LimitEntry := s.faults.limits[i]

/-- The abort threshold (09 R151, ABORT_COOL high). -/
def State.abortCool (s : State) : Int := (s.limitAt 3).high

/-! ### The order of coinciding work (log entry 5) -/

/-- The default order: the model's choice where no other is given. -/
def Choice.default : Choice := { sample := [], tenth := [], overcurrentLate := false, gapFirst := true }

/-- The order of the coming event. -/
def State.choice (s : State) : Choice := s.aux.choices.headD Choice.default

/-- The order of the coming event is used up. -/
def State.dropChoice (s : State) : State := s.setAux { s.aux with choices := s.aux.choices.tail }

/-- The blocks of a SAMPLE in default order, which is that of 02 R22 with the cycle controller last. -/
def SampleBlock.all : List SampleBlock := [.limits, .moisture, .contacts, .heater, .drum, .cycle]

/-- The blocks of a tenth in default order. -/
def TenthBlock.all : List TenthBlock := [.keepalive, .drum, .moisture, .walker, .cycle, .report]

/-- The named blocks without repeats. -/
def firstUses {α : Type} [DecidableEq α] : List α → List α
  | [] => []
  | x :: xs => x :: (firstUses xs).filter fun y => decide (y ≠ x)

/-- A whole order from the blocks named first: each block once, the others in the default order. -/
def fillOrder {α : Type} [DecidableEq α] (all named : List α) : List α :=
  firstUses named ++ all.filter fun x => decide (x ∉ named)

end Sys2Proof.Machine
end

