-- ==== Sys2Proof/Machine/Flags.lean ====
section
/-! DEFINITION. Every value the spec works out from other state: flags, permissions, demands, the highest action, the
level flag and ATTN. None of them is stored but the level flag, ATTN and the effective action. -/

namespace Sys2Proof.Machine

/-! ### Fault unit -/

/-- A record that counts toward the effective action: ACTIVE or LATCHED (09 R159). -/
def State.counts (s : State) (x : Source) : Bool := decide ((s.record x).state ≠ .clear)

/-- The highest action held by a source whose record is ACTIVE or LATCHED, NOTE when there is none (09 R159). -/
def State.highestAction (s : State) : Action :=
  Source.all.foldl (fun a x => if s.counts x then a.higher (s.action x) else a) .note

/-- Some record whose action is SAFE_STOP is ACTIVE or LATCHED (08 R149). -/
def State.anySafeStop (s : State) : Bool := Source.all.any fun x => s.counts x && decide (s.action x = .safeStop)

/-! ### Heater permissions (04 R59 to R63) -/

/-- Cycle permission (04 R59). -/
def State.cyclePermission (s : State) : Level :=
  if s.cycle.state = .active ∧ s.cycle.record.kind.heats then .l2 else .l0

/-- Phase cap (04 R60). -/
def State.phaseCap (s : State) : Level := if s.walker.persist then s.cycle.record.cap.oneLower else s.cycle.record.cap

/-- Fault cap (04 R61). -/
def Action.cap : Action → Level
  | .note => .l2
  | .cutback => .l1
  | .heatOff => .l0
  | .coolRun => .l0
  | .safeStop => .l0

/-- Airflow permission (04 R62). A tacho that reaches AIRFLOW_SPEED in RAMP at a SAMPLE lifts it when the drum works on
that SAMPLE (04 R67). -/
def State.airflow (s : State) : Level :=
  match s.drum.state with
  | .turning => .l2
  | .ramp => if s.param .airflowSpeed ≤ s.speed ∧ s.aux.airflowWaits = false then .l2 else .l0
  | .stopped => .l0
  | .decel => .l0
  | .dwell => .l0

/-- Permitted level: the least of the four (04 R63). -/
def State.permitted (s : State) : Level :=
  (s.cyclePermission.lower s.phaseCap).lower (s.faults.effective.cap.lower s.airflow)

/-- Target level (04 R63). -/
def State.targetLevel (s : State) : Level := s.heater.wanted.lower s.permitted

/-- Staging is in progress (04 R68). -/
def State.staging (s : State) : Bool := decide (s.heater.commanded ≠ s.targetLevel)

/-! ### Demands on the drum (05 R76, R77) -/

/-- The override applies (05 R76). -/
def State.overrides (s : State) : Bool := decide (s.faults.effective = .coolRun) || decide (s.cycle.state = .cooldown)

/-- A cycle state that is a stop demand when no override applies (05 R76). -/
def CycleState.stops : CycleState → Bool
  | .idle => true
  | .suspended => true
  | .halted => true
  | .active => false
  | .cooldown => false

/-- A stop demand is present (05 R76). -/
def State.stopDemand (s : State) : Bool :=
  decide (s.path.door = .isOpen) || s.silent || decide (s.faults.effective = .safeStop) ||
    (s.cycle.state.stops && !s.overrides)

/-- The third line of 05 R77 applies: the walker's segment is the winner. -/
def State.walkerTurn (s : State) : Bool := !s.stopDemand && !s.overrides

/-- A segment as a demand (06 R99); an EMPTY entry asks for nothing. -/
def PatternEntry.demand (e : PatternEntry) : Demand :=
  match e.dir with
  | .empty => .stop
  | .cw => .walkerRun .cw e.speed
  | .ccw => .walkerRun .ccw e.speed
  | .pause => .walkerPause e.duration

/-- The walker's current segment as a demand. -/
def State.segmentDemand (s : State) : Demand :=
  match s.walker.segment with
  | none => .stop
  | some e => e.demand

/-- The winning demand (05 R77): the first line that applies. -/
def State.selectDemand (s : State) : Demand :=
  if s.stopDemand then .stop
  else if s.overrides then .override (s.param .coolSpeed)
  else s.segmentDemand

/-- A demand that comes from the walker: the walker holds the drum (05 R77). -/
def Demand.fromWalker : Demand → Bool
  | .stop => false
  | .override _ => false
  | .walkerRun _ _ => true
  | .walkerPause _ => true

/-- A RUN's direction and speed. -/
def Demand.run? : Demand → Option (Direction × Nat)
  | .stop => none
  | .override v => some (.cw, v)
  | .walkerRun d v => some (d, v)
  | .walkerPause _ => none

/-- The walker holds the drum. -/
def State.holds (s : State) : Bool := s.drum.winner.fromWalker

/-- "At rest" in RAMP (05 R78). -/
def State.atRest (s : State) : Bool := decide (s.drum.setpoint = 0) && decide (s.speed ≤ s.param .stopSpeed)

/-- The span length of a DWELL for the winner as it stands (05 R83). -/
def State.dwellSpan (s : State) : Nat :=
  match s.drum.winner with
  | .walkerPause d => max (s.param .dwellTime) (10 * d)
  | .stop => s.param .dwellTime
  | .override _ => s.param .dwellTime
  | .walkerRun _ _ => s.param .dwellTime

/-- The signed target (05 R75). -/
def State.signedTarget (s : State) : Int :=
  match s.drum.dir with
  | .ccw => -(s.drum.target : Int)
  | .cw => (s.drum.target : Int)
  | .stop => (s.drum.target : Int)

/-! ### Cycle -/

/-- Phase elapsed advances at a second expiry (07 R125). -/
def State.phaseTimeRuns (s : State) : Bool :=
  decide (s.cycle.state = .active) && decide (s.faults.effective ≠ .coolRun) && !s.silent

/-- The duration span of the current phase in seconds (07 R126). -/
def State.durationSpan (s : State) : Nat := 60 * s.cycle.record.duration

/-- The result of a completed cycle from the two flags (07 R134). -/
def State.cycleResult (s : State) : CycleResult :=
  if s.cycle.notDry then .notDry else if s.cycle.drySeen then .dry else .timed

/-! ### Protection (10 R175, R177) -/

/-- The safety set is protected: lock 1 and SERVICE low (10 R177). -/
def State.isProtected (s : State) : Bool := s.tables.lock && !s.links.service

/-- A program slot lies in the protected range (10 R175). -/
def State.slotProtected (s : State) (slot : Nat) : Bool :=
  if s.param .protectSide = 0 then decide (slot < s.param .protectCount)
  else decide (16 - s.param .protectCount ≤ slot)

/-! ### Upstream flags (11 R185, R186) -/

/-- The level flag as worked out (11 R185). -/
def State.levelFlagOf (s : State) : Bool := decide (s.param .upstreamLevel < s.upstream.queue.length)

/-- The fault term of ATTN (11 R186). -/
def State.faultTerm (s : State) : Bool := Source.all.any fun x => s.counts x && decide (2 ≤ (s.action x).code)

/-- ATTN as worked out from the event list, a level flag and the fault records under ATTN_MASK (11 R186). -/
def State.attnOf (s : State) : Bool :=
  ((s.param .attnMask).testBit 0 && !s.upstream.events.isEmpty) ||
  ((s.param .attnMask).testBit 1 && s.levelFlagOf) ||
  ((s.param .attnMask).testBit 2 && s.faultTerm)

/-- The level flag and ATTN worked out anew, as at the end of every event (11 R185, R186). -/
def State.refresh (s : State) : State :=
  s.setUpstream { s.upstream with levelFlag := s.levelFlagOf, attn := s.attnOf }

/-- The outcome of a command: the next state, with level flag and ATTN worked out. -/
def done (s : State) : Host.Outcome State Fault Refusal := .next s.refresh

end Sys2Proof.Machine
end

