-- ==== Sys2Proof/Machine/Upstream.lean ====
section
/-! DEFINITION. The upstream queue, the event list, the controller port transmitter, and the frames built for them
(01 R9, R14; 11). -/

namespace Sys2Proof.Machine

/-- Capacity of the upstream queue (11 R181). -/
def queueCapacity : Nat := 16

/-- The queue holds a displaceable frame. -/
def hasDisplaceable (q : List UpFrame) : Bool := q.any UpFrame.displaceable

/-- How many kept frames the queue holds. -/
def keptCount (q : List UpFrame) : Nat := (q.filter fun f => !f.displaceable).length

/-- The queue without its oldest displaceable frame (11 R181). -/
def removeOldest : List UpFrame → List UpFrame
  | [] => []
  | f :: fs => if f.displaceable then fs else f :: removeOldest fs

/-- Dropped count + 1, saturating (11 R181). -/
def dropOne (n : Nat) : Nat := satSucc 65535 n

/-- A frame that has room, or may take the place of the oldest displaceable one, joins the tail; a frame that finds
only kept frames in a full queue is discarded (11 R181). -/
def joinTail (f : UpFrame) (u : Upstream) : Upstream :=
  if u.queue.length < queueCapacity then { u with queue := u.queue ++ [f] }
  else if hasDisplaceable u.queue then
    { u with queue := removeOldest u.queue ++ [f], dropped := dropOne u.dropped }
  else { u with dropped := dropOne u.dropped }

/-- The upstream queue can accept a response (10 R168). -/
def Upstream.canAccept (u : Upstream) : Bool := decide (u.queue.length < queueCapacity) || hasDisplaceable u.queue

/-- The move test of 11 R182: room, and at most 15 kept frames after the move. -/
def Upstream.canMove (u : Upstream) : Bool := u.canAccept && decide (keptCount u.queue + 1 ≤ 15)

/-- An event-list entry as an EVENT frame. -/
def EventEntry.frame (e : EventEntry) : UpFrame := ⟨.event, [byteOf e.kind.code, byteOf e.arg, byteOf e.count]⟩

/-- Entries move into the queue, oldest first, while the test holds (11 R182). -/
def moveEntries : List EventEntry → Upstream → Upstream
  | [], u => { u with events := [] }
  | e :: es, u => if u.canMove then moveEntries es (joinTail e.frame u) else { u with events := e :: es }

/-- The move test made at an event, and repeated while it holds (11 R182). -/
def moveEvents (s : State) : State := s.setUpstream (moveEntries s.upstream.events s.upstream)

/-- The transmitter starts the head frame when READY is high, it is idle and the queue is not empty (01 R9). The frame
leaves the queue, which is a move test (11 R182). -/
def startTransmission (s : State) : State :=
  if s.links.ready ∧ s.links.controllerTx = none then
    match s.upstream.queue with
    | [] => s
    | f :: rest =>
      moveEvents ((s.setUpstream { s.upstream with queue := rest }).setLinks
        { s.links with controllerTx := some (lineBytes f.kind.code f.payload) })
  else s

/-- A frame joins the queue, which is an event at which a transmission may start (01 R9, 11 R181). -/
def joinQueue (f : UpFrame) (s : State) : State := startTransmission (s.setUpstream (joinTail f s.upstream))

/-- The event list with the count of a matching entry raised, saturating at 255. -/
def raiseCount (k : EventKind) (arg : Nat) : List EventEntry → List EventEntry
  | [] => []
  | e :: es => if e.kind = k ∧ e.arg = arg then { e with count := satSucc 255 e.count } :: es else e :: raiseCount k arg es

/-- The list holds an entry of that kind and argument. -/
def hasEntry (k : EventKind) (arg : Nat) (l : List EventEntry) : Bool := l.any fun e => decide (e.kind = k ∧ e.arg = arg)

/-- How many entries other than OVERFLOW the list holds. -/
def ordinaryCount (l : List EventEntry) : Nat := (l.filter fun e => decide (e.kind ≠ .overflow)).length

/-- A raised event merges, joins, or is counted in OVERFLOW (11 R183). -/
def addEvent (k : EventKind) (arg : Nat) (l : List EventEntry) : List EventEntry :=
  if hasEntry k arg l then raiseCount k arg l
  else if ordinaryCount l < 15 then l ++ [⟨k, arg, 1⟩]
  else if hasEntry .overflow 0 l then raiseCount .overflow 0 l
  else l ++ [⟨.overflow, 0, 1⟩]

/-- A block raises an event: it enters the list, the move test is made, and a transmission may start
(11 R183, R182; 01 R9). -/
def raiseEvent (k : EventKind) (arg : Nat) (s : State) : State :=
  startTransmission (moveEvents (s.setUpstream { s.upstream with events := addEvent k arg s.upstream.events }))

/-- The reported moisture W in permille (03 R41). -/
def State.reportedW (s : State) : Nat := s.moisture.w16 / 16

/-- A temperature field of a REPORT: the value of the present readings, which stays readable when implausible or during
a silence (02 R17, R21); before the first SAMPLE a free value (log entry 8). -/
def reportTemperature (s : State) (pick : Readings → Temperature) (use : Nat) : List Byte :=
  match s.path.readings with
  | some r => bytesSigned16 (pick r).value
  | none => bytesOfHalf (Config.unreadTemperature use)

/-- The REPORT payload (01, Upstream payloads). -/
def reportPayload (s : State) : List Byte :=
  [byteOf s.cycle.state.code, byteOf s.cycle.slot, byteOf s.cycle.phase, byteOf s.cycle.record.kind.code] ++
  bytes16 s.cycle.elapsed ++ bytes16 s.reportedW ++ bytes16 s.moisture.streak ++
  reportTemperature s Readings.exhaust s.aux.freeCount ++ reportTemperature s Readings.inlet (s.aux.freeCount + 1) ++
  [byteOf s.heater.commanded.code, byteOf s.drum.state.code, byteOf s.drum.dir.code, byteOf s.walker.count,
   byteOf s.faults.effective.code] ++
  bytes16 s.path.missed ++ bytes16 s.upstream.dropped

/-- A REPORT is built and joins the queue, and the free values it may have used are used up (11 R184). -/
def sendReport (s : State) : State :=
  joinQueue ⟨.report, reportPayload s⟩ (s.setAux { s.aux with freeCount := s.aux.freeCount + 2 })

/-- The report timer's work at a second expiry (11 R184). -/
def reportSecond (s : State) : State :=
  if s.param .reportInterval = 0 then s
  else if s.upstream.reportTimer + 1 < s.param .reportInterval then
    s.setUpstream { s.upstream with reportTimer := s.upstream.reportTimer + 1 }
  else sendReport (s.setUpstream { s.upstream with reportTimer := 0 })

/-- The copy decimation counter would complete at the next SAMPLE handed on (11 R184). -/
def State.copyDue (s : State) : Bool :=
  decide (s.param .copyDecimation ≠ 0) && decide (s.param .copyDecimation ≤ s.upstream.copyCounter + 1)

/-- The SAMPLE_COPY of a SAMPLE: its payload as received, then W and the last hit count (02 R30; 01). That the copied flags
byte keeps its bits 5 to 7 as received, where 01 R13 has unlisted flag bits 0 in every byte sent, is the model's reading
(log entry 32). -/
def copyFrame (payload : List Byte) (s : State) : UpFrame :=
  ⟨.sampleCopy, payload ++ bytes16 s.reportedW ++ [byteOf s.moisture.hits]⟩

/-- A SAMPLE is handed on as a candidate for a SAMPLE_COPY (02 R30, 11 R184). -/
def handOnCopy (payload : List Byte) (s : State) : State :=
  if s.param .copyDecimation = 0 then s
  else if s.copyDue then joinQueue (copyFrame payload s) (s.setUpstream { s.upstream with copyCounter := 0 })
  else s.setUpstream { s.upstream with copyCounter := s.upstream.copyCounter + 1 }

end Sys2Proof.Machine
end

