-- ==== Sys2Proof/Machine/HeaterStager.lean ====
section
/-! DEFINITION. The heater stager (04): moving the commanded level, regulation, the steps, and the contact outcomes. -/

namespace Sys2Proof.Machine

/-- The stamp of a stage after a change: the count of the change when the stage switches, else the old stamp
(04 R56). -/
def switchStamp (was now : Bool) (count : Tick) (old : Option Tick) : Option Tick :=
  if was = now then old else some count

/-- The commanded level changes: each stage that switches is stamped, and the second's lowest level follows a fall
(04 R56, 03 R44). -/
def setCommanded (l : Level) (s : State) : State :=
  (s.setHeater
    { s.heater with
      commanded := l
      h1Switch := switchStamp s.heater.commanded.h1 l.h1 s.now s.heater.h1Switch
      h2Switch := switchStamp s.heater.commanded.h2 l.h2 s.now s.heater.h2Switch }).setMoisture
    { s.moisture with lowest := s.moisture.lowest.lower l }

/-- The forced reduction (04 R64): at an event that leaves the permitted level below the commanded level, the commanded
level drops to the permitted level at once. -/
def forceReduction (s : State) : State :=
  if s.permitted.code < s.heater.commanded.code then setCommanded s.permitted s else s

/-- The wanted level by zone (04 R57). -/
def zoneLevel (x tSet band : Int) (cap wanted : Level) : Level :=
  if tSet ≤ x then .l0
  else if tSet - band ≤ x then wanted
  else if tSet - 2 * band ≤ x then Level.lower .l1 cap
  else cap

/-- Regulation on an accepted SAMPLE (04 R57, R58). -/
def regulate (s : State) : State :=
  if s.cycle.state = .active ∧ s.cycle.record.kind.heats then
    match s.exhaust? with
    | none => s
    | some x =>
      s.setHeater
        { s.heater with wanted := zoneLevel x s.cycle.record.tSet (s.param .regBand) s.phaseCap s.heater.wanted }
  else s

/-- Every stage that a change from one level to another switches has stood as it is for RELAY_HOLD (04 R65, R66). -/
def State.holdsDone (s : State) (l : Level) : Bool :=
  (s.heater.commanded.h1 == l.h1 || stampLasted s.now s.heater.h1Switch (s.param .relayHold)) &&
  (s.heater.commanded.h2 == l.h2 || stampLasted s.now s.heater.h2Switch (s.param .relayHold))

/-- A voluntary reduction is due (04 R65). -/
def State.reductionDue (s : State) : Bool :=
  decide (s.targetLevel.code < s.heater.commanded.code) && decide (s.heater.commanded.code ≤ s.permitted.code) &&
    s.holdsDone s.targetLevel

/-- An upward step is due (04 R66). -/
def State.upwardDue (s : State) : Bool :=
  decide (s.heater.commanded.code < s.targetLevel.code) &&
    stampLasted s.now s.heater.lastUp (10 * s.param .stageInterval) && s.holdsDone s.heater.commanded.oneHigher

/-- At most one of a voluntary reduction or an upward step (04 R65 to R67). -/
def stageStep (s : State) : State :=
  if s.reductionDue then setCommanded s.targetLevel s
  else if s.upwardDue then
    let t := setCommanded s.heater.commanded.oneHigher s
    t.setHeater { t.heater with lastUp := some s.now }
  else s

/-- The stager's work on an accepted SAMPLE, in the order of 04 R67, with the forced reduction of a tacho that fell
below AIRFLOW_SPEED in RAMP (04 R64; log entry 21). -/
def heaterSample (s : State) : State := stageStep (forceReduction (regulate s))

/-- Outcomes of the contact comparison (04 R70). -/
inductive Contact
  | agree
  | noClose
  | weld
  deriving DecidableEq, Repr

/-- The outcome of one stage: the reference DRIVE's state against the contact flag (04 R70). -/
def contactOutcome (ref closed : Bool) : Contact :=
  match ref, closed with
  | true, true => .agree
  | false, false => .agree
  | true, false => .noClose
  | false, true => .weld

/-- The runs and flags of one stage after an outcome (04 R70 to R72). -/
def Feedback.step (f : Feedback) (o : Contact) : Feedback :=
  match o with
  | .agree =>
    let run := satSucc 5 f.agree
    { agree := run, noClose := 0, weld := 0
      noCloseFlag := f.noCloseFlag && decide (run < 5), weldFlag := f.weldFlag && decide (run < 5) }
  | .noClose =>
    let run := satSucc 5 f.noClose
    { agree := 0, noClose := run, weld := 0, noCloseFlag := f.noCloseFlag || decide (5 ≤ run), weldFlag := f.weldFlag }
  | .weld =>
    let run := satSucc 5 f.weld
    { agree := 0, noClose := 0, weld := run, noCloseFlag := f.noCloseFlag, weldFlag := f.weldFlag || decide (5 ≤ run) }

/-- Both stages' runs and flags after a SAMPLE's contact flags (04 R70). -/
def stepContacts (s : State) : State :=
  match s.path.flags with
  | none => s
  | some fl =>
    s.setHeater
      { s.heater with
        h1 := s.heater.h1.step (contactOutcome s.heater.refH1 fl.h1Closed)
        h2 := s.heater.h2.step (contactOutcome s.heater.refH2 fl.h2Closed) }

/-- HEATER_NOCLOSE is due to be present: a stage's no-close flag is set (04 R71). -/
def State.noCloseFlagged (s : State) : Bool := s.heater.h1.noCloseFlag || s.heater.h2.noCloseFlag

/-- HEATER_WELD is due to be present: a stage's weld flag is set (04 R72). -/
def State.weldFlagged (s : State) : Bool := s.heater.h1.weldFlag || s.heater.h2.weldFlag

end Sys2Proof.Machine
end

