-- ==== Sys2Proof/Machine/PatternWalker.lean ====
section
/-! DEFINITION. The pattern walker (06): windows, the walk, segments, losing and regaining the drum, untangle passes. -/

namespace Sys2Proof.Machine

/-- An entry that is not EMPTY. -/
def State.usable (s : State) (i : Nat) : Bool := decide ((s.patternAt i).dir ≠ .empty)

/-- The main window of a start and a wrap: the aligned block that contains the start (06 R97). -/
def windowOf (start wrap : Nat) : Window := { base := start - start % wrap, size := wrap }

/-- The untangle block's base (06 R97). -/
def untangleBase (u : Nat) : Nat := u - u % 4

/-- The entry after index `i` in a block (06 R98). -/
def nextIn (base size i : Nat) : Nat := base + ((i - base + 1) % size)

/-- The first non-EMPTY entry reached by stepping, within as many steps as given; the index itself when there is
none (06 R98). -/
def stepFrom (s : State) (base size : Nat) : Nat → Nat → Nat
  | 0, i => i
  | fuel + 1, i =>
    if s.usable (nextIn base size i) then nextIn base size i else stepFrom s base size fuel (nextIn base size i)

/-- The next entry of the main window after an index (06 R98). -/
def State.nextMain (s : State) (i : Nat) : Nat :=
  match s.walker.main with
  | none => i
  | some w => stepFrom s w.base w.size w.size i

/-- The first entry of a phase: its start, or the first non-EMPTY entry stepped to (06 R98). -/
def State.firstEntry (s : State) (r : PhaseRecord) : Nat :=
  if s.usable r.start then r.start
  else stepFrom s (windowOf r.start r.wrap).base (windowOf r.start r.wrap).size (windowOf r.start r.wrap).size r.start

/-- The walker names the entry at an index as a new segment: TURNING time 0, early end clear (06 R99). -/
def nameEntry (i : Nat) (s : State) : State :=
  (s.setWalker
    { s.walker with index := some i, segment := some (s.patternAt i), turning := 0, early := false }).setAux
    { s.aux with segFresh := true }

/-- The walker loses the drum: timing stops and returns to 0, the score becomes 0, a pass is abandoned to the return
index, and a pending early end to the main entry after the tangled one (06 R102, R105, R110). That the current segment
keeps the entry last named until the next naming, also where the index has moved, is the model's choice (log
entry 10). -/
def loseDrum (s : State) : State :=
  let w := { s.walker with turning := 0, score := 0 }
  if s.walker.pass then s.setWalker { w with pass := false, remaining := 0, early := false, index := s.walker.ret }
  else if s.walker.early then s.setWalker { w with early := false, index := s.walker.index.map s.nextMain }
  else s.setWalker w

/-- The walker regains the drum: it names the entry at the current index, whole (06 R102). -/
def regainDrum (s : State) : State :=
  match s.walker.index with
  | none => s
  | some i => nameEntry i s

/-- The first non-EMPTY position of a pass at or after a position, with the positions then remaining (06 R108). -/
def passFind (s : State) (base : Nat) : Nat → Nat → Option (Nat × Nat)
  | 0, _ => none
  | remaining + 1, i => if s.usable i then some (i, remaining) else passFind s base remaining (nextIn base 4 i)

/-- The end of a pass: the main entry at the return index is named, whole (06 R108). -/
def endPass (s : State) : State :=
  match s.walker.ret with
  | none => s.setWalker { s.walker with pass := false, remaining := 0 }
  | some i => nameEntry i (s.setWalker { s.walker with pass := false, remaining := 0 })

/-- A pass goes on at a position: the next non-EMPTY one is named, or the pass ends (06 R108). -/
def passAt (base remaining i : Nat) (s : State) : State :=
  match passFind s base remaining i with
  | some (j, r) => nameEntry j (s.setWalker { s.walker with remaining := r })
  | none => endPass s

/-- An untangle pass begins at U, with the return index set (06 R107, R108). -/
def beginPass (u base ret : Nat) (s : State) : State :=
  passAt base 4 u
    (s.setWalker { s.walker with pass := true, remaining := 4, ret := some ret, score := 0, early := false })

/-- The walker names what follows the current segment: within a pass the next position, else the next main entry
(06 R100, R101, R108). -/
def advanceWalker (s : State) : State :=
  match s.walker.index with
  | none => s
  | some i =>
    if s.walker.pass then
      match s.walker.untangle with
      | none => endPass s
      | some b => passAt b s.walker.remaining (nextIn b 4 i) s
    else nameEntry (s.nextMain i) s

/-- The end of a tangled segment: a pass when the phase names an untangle block, else the next main entry (06 R107). -/
def endTangled (s : State) : State :=
  match s.walker.index with
  | none => s
  | some i =>
    match s.walker.untangle, s.cycle.record.untangle with
    | some b, some u => beginPass u b (s.nextMain i) s
    | some _, none => nameEntry (s.nextMain i) s
    | none, some _ => nameEntry (s.nextMain i) s
    | none, none => nameEntry (s.nextMain i) s

/-- The walker at a phase begin: windows from the record, pass and early end ended, first entry set, tangle state
cleared; the first entry is named when the walker holds the drum (06 R97, R103). Without the drum the current segment
stays as last named until the next naming (log entry 10). -/
def walkerPhaseBegin (r : PhaseRecord) (s : State) : State :=
  let i := s.firstEntry r
  let t := s.setWalker
    { s.walker with
      main := some (windowOf r.start r.wrap), untangle := r.untangle.map untangleBase, index := some i, early := false,
      pass := false, remaining := 0, ret := none, score := 0, count := 0, persist := false }
  if s.holds then nameEntry i t else t

/-- The segment length of a run segment in tenths (06 R100). -/
def State.segmentLength (s : State) : Nat :=
  match s.walker.segment with
  | none => s.param .minTurn
  | some e => max (10 * e.duration) (s.param .minTurn)

end Sys2Proof.Machine
end

