-- ==== Sys2Proof/Machine/DrumMotion.lean ====
section
/-! DEFINITION. The drum motion controller (05): the entries into its states, and acting on a change of the winner. -/

namespace Sys2Proof.Machine

/-- Entry into RAMP, from a setpoint (05 R79). Each state change reaches the heater stager at once (05 R85, 04 R64). -/
def enterRamp (d : Direction) (speed start : Nat) (s : State) : State :=
  forceReduction (s.setDrum
    { s.drum with
      state := .ramp, dir := d, target := speed, setpoint := start, spinup := some 0, stallMark := false, coast := none,
      dwell := none })

/-- Entry into DECEL: direction and setpoint are kept, the coast count starts (05 R78). -/
def enterDecel (s : State) : State :=
  forceReduction (s.setDrum
    { s.drum with
      state := .decel, target := 0, spinup := none, coast := some 0, overrunMark := false, dwell := none })

/-- Entry into DWELL: the dwell count starts (05 R82, R78). -/
def enterDwell (s : State) : State :=
  forceReduction (s.setDrum
    { s.drum with
      state := .dwell, dir := .stop, setpoint := 0, target := 0, spinup := none, coast := none, dwell := some 0 })

/-- Entry into STOPPED at the end of a DWELL (05 R84). -/
def enterStopped (s : State) : State :=
  forceReduction (s.setDrum
    { s.drum with
      state := .stopped, dir := .stop, setpoint := 0, target := 0, spinup := none, coast := none, dwell := none })

/-- A RAMP that meets STOP, PAUSE or the other direction: DWELL at rest, else DECEL (05 R78). -/
def leaveRamp (s : State) : State := if s.atRest then enterDwell s else enterDecel s

/-- A change of the winning demand acts on the drum (05 R78). -/
def actOn (w : Demand) (s : State) : State :=
  match s.drum.state with
  | .stopped =>
    match w with
    | .stop => s
    | .override v => enterRamp .cw v 0 s
    | .walkerRun d v => enterRamp d v 0 s
    | .walkerPause _ => enterDwell s
  | .ramp =>
    match w.run? with
    | some (d, v) => if d = s.drum.dir then s.setDrum { s.drum with target := v } else leaveRamp s
    | none => leaveRamp s
  | .turning =>
    match w.run? with
    | some (d, v) =>
      if d = s.drum.dir then if v = s.drum.target then s else enterRamp d v s.drum.target s else enterDecel s
    | none => enterDecel s
  | .decel => s
  | .dwell =>
    match w with
    | .stop => s
    | .override _ => s
    | .walkerRun _ _ => s
    | .walkerPause _ => s.setDrum { s.drum with dwell := some 0 }

/-- The walker's part of a selection: a loss or a regain, given before the drum acts (05 R77, 06 R102). -/
def handWalker (s : State) : State :=
  if s.holds && !s.walkerTurn then loseDrum s
  else if !s.holds && s.walkerTurn then regainDrum s
  else s

/-- The drum meets a new winner: at once, or, while the blocks work on one SAMPLE before the drum's step 2, at that step,
where it meets each of them in its turn (05 R78, R85; 09 R159; log entry 6). -/
def meetWinner (w : Demand) (s : State) : State :=
  if s.aux.drumDeferred then s.setAux { s.aux with deferred := s.aux.deferred ++ [w] } else actOn w s

/-- The drum controller selects the winner anew and acts on a change of it (05 R76 to R78). `named` says that the event
is a naming of the walker's segment, which is a change even when the segment is equal (06 R99). The loss or regain is
given to the walker at this very event (05 R77).

Where a CYCLE_RESUME is taken before a change to COOL_RUN, the two are two events: the resume puts the drum in RAMP or
DWELL by 05 R78, and the override takes it from there, which is the model's reading of "from STOPPED" in 08 R143
(log entry 25). -/
def reselect (named : Bool) (s : State) : State :=
  let t := handWalker s
  let w := t.selectDemand
  let u := t.setDrum { t.drum with winner := w }
  if w ≠ s.drum.winner ∨ (w.fromWalker ∧ (named ∨ !s.holds)) then meetWinner w u else u

/-- The end of a DWELL span: the drum acts on the winner as it stands; under the walker's PAUSE the walker first names
its next segment (05 R84, 06 R101). -/
def endDwell (s : State) : State :=
  match s.drum.winner with
  | .stop => enterStopped s
  | .override v => enterRamp .cw v 0 s
  | .walkerRun d v => enterRamp d v 0 s
  | .walkerPause _ =>
    let t := advanceWalker s
    let w := t.segmentDemand
    let u := t.setDrum { t.drum with winner := w }
    match w with
    | .stop => enterStopped u
    | .override v => enterRamp .cw v 0 u
    | .walkerRun d v => enterRamp d v 0 u
    | .walkerPause _ => u.setDrum { u.drum with dwell := some 0 }

/-- One move of a setpoint toward a target (05 R80). -/
def moveToward (step target setpoint : Nat) : Nat :=
  if setpoint < target then (if target - setpoint ≤ step then target else setpoint + step)
  else (if setpoint - target ≤ step then target else setpoint - step)

/-- The setpoint's move at an accepted SAMPLE: in RAMP and DECEL toward the target speed (05 R80; the target speed of
DECEL is 0, R75). -/
def stepSetpoint (s : State) : State :=
  match s.drum.state with
  | .ramp => s.setDrum { s.drum with setpoint := moveToward (s.param .rampStep) s.drum.target s.drum.setpoint }
  | .decel => s.setDrum { s.drum with setpoint := moveToward (s.param .rampStep) 0 s.drum.setpoint }
  | .turning => s
  | .stopped => s
  | .dwell => s

/-- The drum counts a tenth: the dwell count in DWELL, the spinup count in RAMP, the coast count in DECEL without
FIELD_SILENT (05 R83, R86, R88). -/
def countTenth (s : State) : State :=
  match s.drum.state with
  | .dwell => s.setDrum { s.drum with dwell := s.drum.dwell.map (· + 1) }
  | .ramp => s.setDrum { s.drum with spinup := s.drum.spinup.map (· + 1) }
  | .decel => if s.silent then s else s.setDrum { s.drum with coast := s.drum.coast.map (· + 1) }
  | .turning => s
  | .stopped => s

/-- The second's motor current extremes after a SAMPLE (05 R90). -/
def noteCurrent (c : Nat) (s : State) : State :=
  s.setDrum
    { s.drum with
      currentMin := some (match s.drum.currentMin with | none => c | some m => min m c)
      currentMax := some (match s.drum.currentMax with | none => c | some m => max m c) }

/-- The RAMP end test (05 R81). -/
def State.rampDone (s : State) : Bool :=
  decide (s.drum.setpoint = s.drum.target) && decide ((s.tacho - s.signedTarget).natAbs ≤ s.param .speedTolerance)

/-- The DECEL end test (05 R82). -/
def State.decelDone (s : State) : Bool := decide (s.drum.setpoint = 0) && decide (s.speed ≤ s.param .stopSpeed)

end Sys2Proof.Machine
end

