-- ==== Sys2Proof/Machine/FaultUnit.lean ====
section
/-! DEFINITION. Changes of the cycle state, and the limit and fault unit (09): record changes, the effective action and
its reach, the unit's own checks on a SAMPLE, clearing, and ACTIONS writes. -/

namespace Sys2Proof.Machine

/-! ### Cycle state changes -/

/-- A change of the cycle state: the suspension and cooldown timers start or become idle, the commanded level is forced
down, and the winner is selected anew (08 R139, R140, R145, R146, R148; 04 R64; 05 R76). -/
def cycleTo (c : CycleState) (s : State) : State :=
  reselect false (forceReduction (s.setCycle
    { s.cycle with
      state := c
      suspension := if c = .suspended then some 0 else none
      cooldown := if c = .cooldown then some 0 else none }))

/-- Entry to HALTED from any other state, without an event of its own (08 R148). -/
def enterHalted (s : State) : State := if s.cycle.state = .halted then s else cycleTo .halted s

/-! ### The effective action -/

/-- The effective action is worked out anew; a change reaches the stager, the drum and the cycle controller at the same
event (09 R159). -/
def workOutAction (s : State) : State :=
  let a := s.highestAction
  if a = s.faults.effective then s
  else
    let t := reselect false (forceReduction (s.setFaults { s.faults with effective := a }))
    if a = .safeStop then enterHalted t else t

/-! ### Record changes (09 R158) -/

/-- The exhaust history ring is emptied at the arising of EXHAUST_SENSOR (03 R46). -/
def emptyRingFor (x : Source) (s : State) : State :=
  if x = .exhaustSensor then s.setMoisture { s.moisture with ring := [] } else s

/-- A condition arises, if it is absent: the record becomes ACTIVE, its sticky flag is set, its count rises and
FAULT_RAISED is raised; then the effective action is worked out anew (09 R158, R159). -/
def arise (x : Source) (s : State) : State :=
  if s.present x then s
  else
    workOutAction (raiseEvent .faultRaised x.row.index.val
      ((emptyRingFor x (s.setPresent x true)).setRecord x
        { state := .active, sticky := true, count := satSucc 255 (s.record x).count }))

/-- A condition goes, if it is present: at SAFE_STOP its ACTIVE record latches without an event, below SAFE_STOP it
becomes CLEAR with FAULT_CLEARED; then the effective action is worked out anew (09 R158, R159). -/
def goAway (x : Source) (s : State) : State :=
  if s.present x then
    let t := s.setPresent x false
    if (s.record x).state = .active then
      if s.action x = .safeStop then workOutAction (t.setRecord x { s.record x with state := .latched })
      else
        workOutAction (raiseEvent .faultCleared x.row.index.val (t.setRecord x { s.record x with state := .clear }))
    else t
  else s

/-- A watched condition is handed over as present or absent. -/
def handCondition (x : Source) (now : Bool) (s : State) : State := if now then arise x s else goAway x s

/-! ### The unit's checks on an accepted SAMPLE (09 R153 to R155) -/

/-- A threshold check of a valid reading (09 R154). -/
def thresholdCheck (x : Source) (limit : LimitEntry) (t : Temperature) (s : State) : State :=
  if t.valid then
    if s.present x then (if t.value ≤ limit.restore then goAway x s else s)
    else (if limit.high ≤ t.value then arise x s else s)
  else s

/-- The checks of one SAMPLE in source order: EXHAUST_HIGH, INLET_HIGH, EXHAUST_SENSOR, INLET_SENSOR, FUSE_OPEN
(09 R155). They read the decoded SAMPLE and the LIMITS entries at its moment. -/
def limitsSample (s : State) : State :=
  match s.path.readings, s.path.flags with
  | some r, some f =>
    let s1 := thresholdCheck .exhaustHigh (s.limitAt 0) r.exhaust s
    let s2 := thresholdCheck .inletHigh (s.limitAt 1) r.inlet s1
    let s3 := handCondition .exhaustSensor (!r.exhaust.valid) s2
    let s4 := handCondition .inletSensor (!r.inlet.valid) s3
    handCondition .fuseOpen (!f.fuseIntact) s4
  | some _, none => s
  | none, some _ => s
  | none, none => s

/-- The contact work of a SAMPLE: the runs and flags, then HEATER_NOCLOSE and HEATER_WELD (04 R70 to R72). -/
def contactsSample (s : State) : State :=
  let t := stepContacts s
  handCondition .heaterWeld t.weldFlagged (handCondition .heaterNoclose t.noCloseFlagged t)

/-! ### Clearing (09 R163, R164) -/

/-- A record becomes CLEAR with FAULT_CLEARED, and the effective action is worked out anew. -/
def clearRecord (x : Source) (s : State) : State :=
  workOutAction (raiseEvent .faultCleared x.row.index.val (s.setRecord x { s.record x with state := .clear }))

/-- FAULT_CLEAR and source 7: a running spinup count restarts with its mark clear, a present condition goes, and an
ACTIVE or LATCHED record becomes CLEAR in one change (05 R87, 09 R164). -/
def clearMotorStall (s : State) : State :=
  let t := if s.drum.state = .ramp then s.setDrum { s.drum with spinup := some 0, stallMark := false } else s
  let u := t.setPresent .motorStall false
  if u.counts .motorStall then clearRecord .motorStall u else u

/-- FAULT_CLEAR taken for one source: a LATCHED record becomes CLEAR, any other stays (09 R163). -/
def clearSource (x : Source) (s : State) : State :=
  if x = .motorStall then clearMotorStall s
  else if (s.record x).state = .latched then clearRecord x s
  else s

/-- The exit from HALTED after a FAULT_CLEAR (08 R149). -/
def leaveHalted (s : State) : State :=
  if s.cycle.state = .halted ∧ ¬ s.anySafeStop then cycleTo .idle s else s

/-- FAULT_CLEAR over the sources in scope, in source order, then the test of 08 R149 (09 R163). -/
def clearSources (scope : List Source) (s : State) : State := leaveHalted (scope.foldl (fun t x => clearSource x t) s)

/-- An ACTIONS write that stores an action: nothing changes when it is the action held; else the effective action is
worked out anew (09 R162). -/
def storeAction (x : Source) (a : Action) (s : State) : State :=
  if s.action x = a then s else workOutAction (s.setAction x a)

/-! ### Sticky flags (09 R165) -/

/-- The sticky flag of every CLEAR record is cleared, once a status response is built. -/
def clearSticky (s : State) : State :=
  s.setFaults { s.faults with
    records := s.faults.records.map fun r => if r.state = .clear then { r with sticky := false } else r }

end Sys2Proof.Machine
end

