-- ==== Sys2Proof/Machine/CycleController.lean ====
section
/-! DEFINITION. The cycle controller (07, 08): phases, phase ends, completion, suspension, cooldown, and its work at a
tenth and at a second expiry. -/

namespace Sys2Proof.Machine

/-! ### Programs (07 R118) -/

/-- The phases of a program: the records of its slot up to the first NONE, with their indices (07 R118). -/
def State.programPhases (s : State) (slot : Nat) : List (Nat × PhaseRecord) :=
  ((List.range 8).map fun p => (p, s.programAt (8 * slot + p))).takeWhile fun x => decide (x.2.kind ≠ .none)

/-- The run list: ANTICREASE phases are left out when anticrease is disabled (07 R118). -/
def runList (anticrease : Bool) (phases : List (Nat × PhaseRecord)) : List (Nat × PhaseRecord) :=
  phases.filter fun x => anticrease || decide (x.2.kind ≠ .anticrease)

/-- The run list of the running cycle. -/
def State.runList (s : State) : List (Nat × PhaseRecord) :=
  Sys2Proof.Machine.runList s.cycle.anticrease (s.programPhases s.cycle.slot)

/-- The first phase of the run list after the present one (07 R132). -/
def State.nextPhase? (s : State) : Option (Nat × PhaseRecord) := s.runList.find? fun x => decide (s.cycle.phase < x.1)

/-! ### Phase begin and end (07 R123, R132, R133) -/

/-- A phase begin: one event for the cycle controller, the estimator, the walker, the stager and the drum (07 R123). -/
def beginPhase (p : Nat) (r : PhaseRecord) (s : State) : State :=
  let s1 := s.setCycle { s.cycle with phase := p, record := r, elapsed := 0, settle := 0 }
  let s2 := s1.setMoisture { s1.moisture with streak := 0, ring := [] }
  let s3 := walkerPhaseBegin r s2
  reselect s.holds (forceReduction (raiseEvent .phaseBegin p s3))

/-- Cycle completion: IDLE, then CYCLE_DONE with the result of the flags (07 R133, R134). -/
def completeCycle (s : State) : State := raiseEvent .cycleDone s.cycleResult.code (cycleTo .idle s)

/-- The flag a phase end sets: DRY-seen at DRY, NOT_DRY at TIMEOUT (07 R127, R128). -/
def markEnd (e : EndReason) (c : Cycle) : Cycle :=
  match e with
  | .dry => { c with drySeen := true }
  | .timeout => { c with notDry := true }
  | .duration => c
  | .cooled => c

/-- A phase end: PHASE_END with its reason, then the next phase of the run list or completion (07 R132). -/
def endPhase (e : EndReason) (s : State) : State :=
  let t := raiseEvent .phaseEnd e.code (s.setCycle (markEnd e s.cycle))
  match t.nextPhase? with
  | some (p, r) => beginPhase p r t
  | none => completeCycle t

/-! ### Suspension and cooldown (08) -/

/-- Entry to SUSPENDED: the suspension timer starts at 0 and SUSPENDED is raised (08 R139). -/
def suspend (c : SuspendCause) (s : State) : State := raiseEvent .suspended c.code (cycleTo .suspended s)

/-- The end of COOLDOWN: COOLDOWN_END, IDLE, CYCLE_DONE with ABORTED, in that order (08 R147). -/
def endCooldown (s : State) : State :=
  raiseEvent .cycleDone CycleResult.aborted.code (cycleTo .idle (raiseEvent .cooldownEnd 0 s))

/-- The cycle controller's work on an accepted SAMPLE: a door opening suspends an ACTIVE cycle, completes it in an
ANTICREASE phase, and ends COOLDOWN (08 R138, 07 R131, 08 R147). -/
def cycleSample (opening : Bool) (s : State) : State :=
  if opening then
    match s.cycle.state with
    | .active => if s.cycle.record.kind = .anticrease then completeCycle s else suspend .door s
    | .cooldown => endCooldown s
    | .idle => s
    | .suspended => s
    | .halted => s
  else s

/-! ### Requests (07 R119 to R121; 08) -/

/-- Check 4 of 07 R119 for one phase: a non-EMPTY entry in its main window, and in its untangle block when it names
one (07 R120). -/
def State.windowsFilled (s : State) (r : PhaseRecord) : Bool :=
  let w := windowOf r.start r.wrap
  ((List.range w.size).any fun k => s.usable (w.base + k)) &&
  (match r.untangle with
   | none => true
   | some u => (List.range 4).any fun k => s.usable (untangleBase u + k))

/-- All nine CURVE points carry their written flag (07 R120, check 5). -/
def State.curveWritten (s : State) : Bool := (List.range 9).all fun i => (s.curveAt i).written

/-- The seven checks of CYCLE_START in order: the first that fails gives the result (07 R119). -/
def State.startCheck (s : State) (slot : Nat) : Option Result :=
  if s.cycle.state ≠ .idle then some .state
  else if 15 < slot then some .range
  else if (s.programAt (8 * slot)).kind = .none then some .noProgram
  else if !((s.programPhases slot).all fun x => s.windowsFilled x.2) then some .patternEmpty
  else if ((s.programPhases slot).any fun x => decide (x.2.kind = .heatToDry)) && !s.curveWritten then
    some .curveIncomplete
  else if s.path.door = .isOpen then some .doorOpen
  else if s.silent then some .field
  else none

/-- Steps 1 and 2 of an accepted CYCLE_START: slot, anticrease and flags; the estimator's and the stager's values
(07 R121, 03 R48). That a present ELECTRODE_SHORT goes here with its record, as 03 R38 and R48 say, where 07 R121 has an
accepted start leave the fault records as they stand, is the model's reading (log entry 30). -/
def startValues (slot : Nat) (anticrease : Bool) (s : State) : State :=
  let s1 := s.setCycle { s.cycle with slot, anticrease, notDry := false, drySeen := false }
  let s2 := s1.setMoisture { s1.moisture with w16 := 16000, streak := 0, allShort := 0, hits := 0 }
  goAway .electrodeShort (s2.setHeater { s2.heater with wanted := .l0 })

/-- Steps 3 and 4: ACTIVE and the begin of the first phase, as one event, so that the drum sees the first entry of the
phase and no earlier one (07 R121; log entry 16); or completion at once when the run list is empty. -/
def startFirst (s : State) : State :=
  match s.runList with
  | [] => completeCycle s
  | (p, r) :: _ => beginPhase p r (s.setCycle { s.cycle with state := .active })

/-- CYCLE_START (07 R119, R121). -/
def requestStart (slot anticrease : Byte) (s : State) : State × Reply :=
  match s.startCheck slot.toNat with
  | some r => (s, .plain r)
  | none => (startFirst (startValues slot.toNat (decide (anticrease.toNat ≠ 0)) s), .plain .ok)

/-- CYCLE_PAUSE (08 R137). -/
def requestPause (s : State) : State × Reply :=
  if s.cycle.state = .active then (suspend .pause s, .plain .ok) else (s, .plain .state)

/-- The suspension was long (08 R142). -/
def State.suspendedLong (s : State) : Bool := decide (600 * s.param .suspendReset ≤ s.cycle.suspension.getD 0)

/-- An accepted CYCLE_RESUME (08 R142). -/
def resumeCycle (s : State) : State :=
  let t := s.setMoisture
    { s.moisture with streak := (if s.suspendedLong then 0 else s.moisture.streak), ring := [] }
  raiseEvent .resumed 0 (cycleTo .active t)

/-- CYCLE_RESUME with its checks in order (08 R141). -/
def requestResume (s : State) : State × Reply :=
  if s.cycle.state ≠ .suspended then (s, .plain .state)
  else if s.path.door = .isOpen then (s, .plain .doorOpen)
  else if s.drum.state ≠ .stopped then (s, .plain .notReady)
  else (resumeCycle s, .plain .ok)

/-- An abort goes to COOLDOWN: valid exhaust at or above ABORT_COOL with the door closed (08 R144). -/
def State.abortHot (s : State) : Bool :=
  match s.exhaust? with
  | none => false
  | some x => decide (s.abortCool ≤ x) && decide (s.path.door = .isClosed)

/-- An abort that leaves ACTIVE or SUSPENDED (08 R144, R145). -/
def abortCycle (s : State) : State :=
  if s.abortHot then raiseEvent .cooldownBegin 0 (cycleTo .cooldown s)
  else raiseEvent .cycleDone CycleResult.aborted.code (cycleTo .idle s)

/-- CYCLE_ABORT (08 R144). -/
def requestAbort (s : State) : State × Reply :=
  match s.cycle.state with
  | .active => (abortCycle s, .plain .ok)
  | .suspended => (abortCycle s, .plain .ok)
  | .cooldown => (endCooldown s, .plain .ok)
  | .idle => (s, .plain .state)
  | .halted => (s, .plain .state)

/-! ### Tenths and second expiries -/

/-- The COOL settle count after a second expiry in a COOL phase (07 R130). -/
def State.settleNext (s : State) : Nat :=
  match s.exhaust? with
  | none => 0
  | some x => if x ≤ s.cycle.record.tSet then satSucc 10 s.cycle.settle else 0

/-- Phase elapsed reaches the duration span at this second expiry (07 R125, R126). -/
def State.spanReached (s : State) : Bool := s.phaseTimeRuns && decide (s.durationSpan ≤ s.cycle.elapsed + 1)

/-- The end that this second expiry brings to the current phase, if any (07 R128 to R131). -/
def State.phaseEndDue (s : State) : Option EndReason :=
  match s.cycle.record.kind with
  | .heatToDry => if s.spanReached then some .timeout else none
  | .cool => if 10 ≤ s.settleNext then some .cooled else if s.spanReached then some .duration else none
  | .heatTimed => if s.spanReached then some .duration else none
  | .tumble => if s.spanReached then some .duration else none
  | .anticrease => if s.spanReached then some .duration else none
  | .none => none

/-- Phase time and the settle count move at a second expiry (07 R125, R130). -/
def countSecond (s : State) : State :=
  s.setCycle
    { s.cycle with
      elapsed := (if s.phaseTimeRuns then s.cycle.elapsed + 1 else s.cycle.elapsed)
      settle := (if s.cycle.record.kind = .cool then s.settleNext else s.cycle.settle) }

/-- A second expiry in ACTIVE (07 R125 to R131). -/
def activeSecond (s : State) : State :=
  match s.phaseEndDue with
  | none => countSecond s
  | some e => endPhase e (countSecond s)

/-- COOLDOWN ends at this second expiry: cooled, or its limit (08 R147). -/
def State.cooledDown (s : State) : Bool :=
  match s.exhaust? with
  | none => false
  | some x => decide (x < s.abortCool)

/-- The cooldown timer reaches its limit at this second expiry (08 R147). -/
def State.cooldownSpent (s : State) : Bool := decide (60 * s.param .cooldownLimit ≤ s.cycle.cooldown.getD 0 + 1)

/-- A second expiry in COOLDOWN (08 R146, R147). -/
def cooldownSecond (s : State) : State :=
  let t := s.setCycle { s.cycle with cooldown := s.cycle.cooldown.map (· + 1) }
  if s.cooledDown || s.cooldownSpent then endCooldown t else t

/-- The cycle controller's work at a tenth: the suspension timer, and at a second expiry phase time or the cooldown
(08 R140; 07 R125; 08 R146). -/
def cycleTenth (second : Bool) (s : State) : State :=
  match s.cycle.state with
  | .suspended => s.setCycle { s.cycle with suspension := s.cycle.suspension.map (satSucc 72000) }
  | .active => if second then activeSecond s else s
  | .cooldown => if second then cooldownSecond s else s
  | .idle => s
  | .halted => s

end Sys2Proof.Machine
end

