-- ==== Sys2Proof/Machine/MoistureEstimator.lean ====
section
/-! DEFINITION. The moisture estimator (03): the seven stages on a SAMPLE, the exhaust history ring, and the writes that
reach the all-short count. -/

namespace Sys2Proof.Machine

/-- Classes of a reading (03 R33). -/
inductive ReadingClass
  | short
  | hit
  | isOpen
  deriving DecidableEq, Repr

/-- Stage 1: the class of a decoded reading (03 R33). -/
def classify (floor e : Nat) : ReadingClass := if e = 4095 then .short else if floor ≤ e then .hit else .isOpen

/-- Stage 2: the trimmed reading of a hit (03 R34). -/
def trimmed (trim e : Nat) : Nat := (clampInt 0 4094 ((e : Int) + 16 * ((trim : Int) - 8))).toNat

/-- Stage 3: the curve-mapped moisture of a trimmed hit (03 R36). -/
def curveMap (m : Nat → Nat) (e : Nat) : Nat :=
  ((m (e / 512) : Int) + (((m (e / 512 + 1) : Int) - (m (e / 512) : Int)) * ((e % 512 : Nat) : Int)).tdiv 512).toNat

/-- The hits of a frame (03 R33). -/
def hitsOf (floor : Nat) (es : List Nat) : List Nat := es.filter fun e => decide (classify floor e = .hit)

/-- How many readings are shorts (03 R33). -/
def shortsOf (es : List Nat) : Nat := (es.filter fun e => decide (e = 4095)).length

/-- Stage 4: the frame moisture; the divisor leaves out the shorts (03 R37). -/
def frameMoisture (m : Nat → Nat) (floor trim : Nat) (es : List Nat) : Nat :=
  ((hitsOf floor es).map fun e => curveMap m (trimmed trim e)).sum / (es.length - shortsOf es)

/-- Stage 5: the filter (03 R40). -/
def filterW16 (w mf k : Nat) : Nat :=
  (clampInt 0 16000 ((w : Int) + ((16 * (mf : Int) - (w : Int)).tdiv (k : Int)))).toNat

/-- Stage 6: the dry streak (03 R42); the hysteresis is 20 permille. -/
def stepStreak (w tDry d streak : Nat) (assist : Bool) : Nat :=
  if w < 16 * tDry then min d (streak + if assist then 2 else 1)
  else if w < 16 * (tDry + 20) then streak
  else 0

/-- Stage 7: the slope assist holds (03 R47). -/
def slopeHolds (ring : List RingRecord) (commanded : Level) (slope : Nat) : Bool :=
  decide (ring.length = 16) && (ring.all fun r => decide (r.level = commanded)) && decide (slope ≠ 0) &&
  (match ring.head?, ring.getLast? with
   | some a, some b => decide ((slope : Int) ≤ b.temperature - a.temperature)
   | some _, none => false
   | none, some _ => false
   | none, none => false)

/-- The estimator's run condition (03 R31). -/
def State.estimates (s : State) : Bool :=
  decide (s.cycle.state = .active) && decide (s.drum.state = .turning) && !s.walker.pass

/-- The electrode readings of the present readings. -/
def State.electrodes (s : State) : List Nat := (s.path.readings.map Readings.electrodes).getD []

/-- The CURVE as a function of its index. -/
def State.curve (s : State) (i : Nat) : Nat := (s.curveAt i).value

/-- The frame is an all-short frame (03 R37). -/
def allShortFrame (es : List Nat) : Bool := decide (shortsOf es = es.length)

/-- W16 after stage 5, from the state at the SAMPLE's acceptance (03 R31, R40). -/
def State.nextW16 (s0 : State) : Nat :=
  filterW16 s0.moisture.w16
    (frameMoisture s0.curve (s0.param .contactFloor) (s0.param .electrodeTrim) s0.electrodes) s0.cycle.record.depth

/-- The dry streak after stage 6: it runs in HEAT_TO_DRY alone (03 R42). -/
def State.nextStreak (s0 : State) : Nat :=
  if s0.cycle.record.kind = .heatToDry then
    stepStreak s0.nextW16 s0.cycle.record.dryness s0.cycle.record.confirm s0.moisture.streak
      (slopeHolds s0.moisture.ring s0.heater.commanded (s0.param .slopeAssist))
  else s0.moisture.streak

/-- The DRY signal: stage 6 leaves the streak at D (03 R43). -/
def State.dryDue (s0 : State) : Bool :=
  decide (s0.cycle.record.kind = .heatToDry) && decide (s0.nextStreak = s0.cycle.record.confirm)

/-- The cycle controller takes the DRY signal while ACTIVE in a HEAT_TO_DRY phase (07 R127). -/
def takeDry (s : State) : State :=
  if s.cycle.state = .active ∧ s.cycle.record.kind = .heatToDry then endPhase .dry s else s

/-- An all-short frame: the count rises, saturating at SHORT_LIMIT, which raises ELECTRODE_SHORT (03 R37, R38). -/
def allShortWork (s : State) : State :=
  let n := satSucc (s.param .shortLimit) s.moisture.allShort
  let t := s.setMoisture { s.moisture with allShort := n, hits := 0 }
  if s.param .shortLimit ≤ n then arise .electrodeShort t else t

/-- A frame that is not all-short, with the values worked out at its acceptance (03 R37 to R43). -/
def contactWork (s0 s : State) : State :=
  let t := goAway .electrodeShort (s.setMoisture
    { s.moisture with
      allShort := 0, hits := (hitsOf (s0.param .contactFloor) s0.electrodes).length, w16 := s0.nextW16,
      streak := s0.nextStreak })
  if s0.dryDue then takeDry t else t

/-- The estimator's work on an accepted SAMPLE: every value it reads is that of the acceptance, `s0` (03 R31, R32). -/
def moistureSample (s0 s : State) : State :=
  if s0.estimates then (if allShortFrame s0.electrodes then allShortWork s else contactWork s0 s) else s

/-- The ring after a record joins: at 16 records the oldest leaves (03 R45). -/
def pushRing (r : RingRecord) (ring : List RingRecord) : List RingRecord :=
  (if ring.length < 16 then ring else ring.tail) ++ [r]

/-- The ring at a second expiry in ACTIVE: a record, or a break (03 R45, R46). -/
def State.nextRing (s : State) : List RingRecord :=
  if s.cycle.state = .active then
    match s.exhaust? with
    | none => []
    | some x => if s.drum.state = .turning then pushRing ⟨x, s.moisture.lowest⟩ s.moisture.ring else []
  else s.moisture.ring

/-- The estimator's work at a second expiry: the ring, then the second's lowest level (03 R44 to R46). That it reads the
drum and cycle states at its own turn, after the work of a block that was taken before it at the same expiry, is the
model's choice (log entry 31). -/
def moistureSecond (s : State) : State :=
  s.setMoisture { s.moisture with ring := s.nextRing, lowest := s.heater.commanded }

/-- A write of SHORT_LIMIT acts on the all-short count at once (03 R39). -/
def applyShortLimit (s : State) : State :=
  let n := min s.moisture.allShort (s.param .shortLimit)
  let t := s.setMoisture { s.moisture with allShort := n }
  if s.param .shortLimit ≤ n then arise .electrodeShort t else t

/-- TRIM_STEP (03 R51). That the trim value is one byte of the RESPONSE is the model's choice (log entry 27). -/
def requestTrim (step : Byte) (s : State) : State × Reply :=
  let trim := s.param .electrodeTrim
  if step.toNat = 1 then
    if trim < 15 then (s.setParam .electrodeTrim (trim + 1), ⟨.ok, [byteOf (trim + 1)]⟩)
    else (s, ⟨.clamped, [byteOf trim]⟩)
  else if step.toNat = 0 then
    if 0 < trim then (s.setParam .electrodeTrim (trim - 1), ⟨.ok, [byteOf (trim - 1)]⟩)
    else (s, ⟨.clamped, [byteOf trim]⟩)
  else (s, .plain .range)

end Sys2Proof.Machine
end

