-- ==== Sys2Proof/Machine/SampleEvents.lean ====
section
/-! DEFINITION. The sample path (02): taking a SAMPLE, the blocks' work on it, the DRIVE frames, the gap timer; and the
drum's work on a SAMPLE (05 R85). -/

namespace Sys2Proof.Machine

/-! ### The drum's work on one SAMPLE (05 R85) -/

/-- The overcurrent run after a SAMPLE and what is handed over: arising, going or nothing (05 R89). -/
def overcurrentNext (present : Bool) (limit : LimitEntry) (run current : Nat) : Nat × Option Bool :=
  if present then
    if (current : Int) ≤ limit.restore then (0, some false) else (run, none)
  else if limit.high < (current : Int) then
    let r := satSucc 100 run
    (r, if limit.persist ≤ r then some true else none)
  else (0, none)

/-- OVERCURRENT is handed over, if there is anything to hand over. -/
def handOvercurrent (h : Option Bool) (s : State) : State :=
  match h with
  | none => s
  | some b => handCondition .overcurrent b s

/-- Step 2: the drum acts on every change of the winner that the SAMPLE has brought so far, in turn (05 R85,
09 R159), and from here on the stager sees the airflow of this SAMPLE's tacho (04 R67). -/
def reactDrum (s : State) : State :=
  s.aux.deferred.foldl (fun t w => actOn w t) (s.setAux { s.aux with drumDeferred := false, deferred := [], airflowWaits := false })

/-- Entry into TURNING: stamped, spinup idle, the tangle score 0, and MOTOR_STALL goes (05 R81, R87; 06 R105). -/
def enterTurning (s : State) : State :=
  let t := s.setDrum { s.drum with state := .turning, turningEntry := some s.now, spinup := none }
  goAway .motorStall (forceReduction (t.setWalker { t.walker with score := 0 }))

/-- Step 4: the end test of RAMP or of DECEL; DRUM_OVERRUN goes at the entry into DWELL (05 R81, R82, R88). -/
def drumEndTest (s : State) : State :=
  match s.drum.state with
  | .ramp => if s.rampDone then enterTurning s else s
  | .decel => if s.decelDone then goAway .drumOverrun (enterDwell s) else s
  | .turning => s
  | .stopped => s
  | .dwell => s

/-- The drum's four steps on an accepted SAMPLE (05 R85). The OVERCURRENT hand-over of step 1 is taken before step 2 or
after step 4, as the order of the event says. -/
def drumSample (late : Bool) (s : State) : State :=
  let c := (s.path.readings.map Readings.current).getD 0
  let oc := overcurrentNext (s.present .overcurrent) (s.limitAt 2) s.drum.ocRun c
  let s1 := noteCurrent c (s.setDrum { s.drum with ocRun := oc.1 })
  let s2 := if late then s1 else handOvercurrent oc.2 s1
  let s3 := drumEndTest (stepSetpoint (reactDrum s2))
  if late then handOvercurrent oc.2 s3 else s3

/-! ### DRIVE frames (02 R23, R27; 01 R8) -/

/-- The DRIVE payload: seq mirror, direction, setpoint, stages, burst (01, SAMPLE and DRIVE payloads). -/
def drivePayload (seq : Byte) (d : Direction) (setpoint : Nat) (h1 h2 : Bool) (burst : Nat) : List Byte :=
  [seq, byteOf d.code] ++ bytes16 setpoint ++ [byteOf (bitOf h1 + 2 * bitOf h2), byteOf burst]

/-- A built DRIVE reaches the field port transmitter: sent at once, waiting, or replacing the waiting one (01 R8). -/
def FieldTx.hand (line : List Byte) : FieldTx → FieldTx
  | .idle => .sending line
  | .sending l => .sendingWaiting l line
  | .sendingWaiting l _ => .sendingWaiting l line

/-- A DRIVE is built and handed over, and becomes the reference DRIVE of the contact checks (01 R8, 04 R70). -/
def sendDrive (d : Direction) (setpoint : Nat) (h1 h2 : Bool) (s : State) : State :=
  let line := lineBytes 0x31 (drivePayload (s.path.lastSeq.getD 0) d setpoint h1 h2 (s.param .electrodeBurst))
  (s.setLinks { s.links with fieldTx := s.links.fieldTx.hand line }).setHeater { s.heater with refH1 := h1, refH2 := h2 }

/-- The DRIVE that answers an accepted SAMPLE (02 R23). -/
def answerDrive (s : State) : State :=
  sendDrive s.drum.dir s.drum.setpoint s.heater.commanded.h1 s.heater.commanded.h2 s

/-- A gap DRIVE: STOP, 0, no stage (02 R27). -/
def gapDrive (s : State) : State := sendDrive .stop 0 false false s

/-! ### Taking a SAMPLE (02 R15 to R22) -/

/-- A SAMPLE is a duplicate of the last accepted one (02 R15). -/
def State.duplicate (s : State) (payload : List Byte) : Bool := decide (s.path.lastSeq = some (byteAt payload 0))

/-- The missed-sample count after an accepted SAMPLE (02 R16). -/
def missedNext (last : Option Byte) (seq : Byte) (missed : Nat) : Nat :=
  match last with
  | none => missed
  | some p => min 65535 (missed + (seq - p - 1).toNat)

/-- The fields of an accepted SAMPLE become the present readings, the door state follows its flag, and the gap timer
restarts with the span of the present GAP_SAMPLES (02 R15 to R20, R26, R29). -/
def decodeSample (payload : List Byte) (s : State) : State :=
  let f := decodeFlags payload
  s.setPath
    { s.path with
      lastSeq := some (byteAt payload 0)
      missed := missedNext s.path.lastSeq (byteAt payload 0) s.path.missed
      readings := some (decodeReadings payload)
      door := if f.doorClosed then .isClosed else .isOpen
      flags := some f
      gapMillis := 0
      gapSpan := 10 * s.param .gapSamples }

/-- The SAMPLE is a door opening against the state before it (02 R20). -/
def State.doorOpening (s : State) (payload : List Byte) : Bool :=
  decide (s.path.door = .isClosed) && !(decodeFlags payload).doorClosed

/-- One block's work on a SAMPLE: `s0` is the state at its acceptance, `opening` says that it is a door opening
(02 R22). -/
def sampleBlock (s0 : State) (opening late : Bool) (b : SampleBlock) (s : State) : State :=
  match b with
  | .limits => limitsSample s
  | .moisture => moistureSample s0 s
  | .contacts => contactsSample s
  | .heater => heaterSample s
  | .drum => drumSample late s
  | .cycle => cycleSample opening s

/-- The drum is in RAMP with a tacho below AIRFLOW_SPEED (04 R62). -/
def State.slowRamp (s : State) : Bool := decide (s.drum.state = .ramp) && decide (s.speed < s.param .airflowSpeed)

/-- The state at a SAMPLE's acceptance: decoded, with FIELD_SILENT gone, before any block's work (02 R22, R28). That the
fields are decoded before FIELD_SILENT goes, so that the winner selected at its going sees the new door state, is the
model's choice (log entry 26). The drum's reaction waits for its step 2 (05 R85), and so does the airflow of a RAMP that
was too slow (04 R67). -/
def beginSample (payload : List Byte) (s : State) : State :=
  let t := decodeSample payload s
  goAway .fieldSilent
    (t.setAux { t.aux with drumDeferred := true, deferred := [], airflowWaits := s.slowRamp })

/-- The blocks' work on a SAMPLE, in the order of the event. The winner is selected anew for the door and the silence
before any block's work (05 R76, R91, R92); the estimator reads the state at the acceptance, `s0` (03 R31). -/
def sampleBlocks (order : List SampleBlock) (late opening : Bool) (s0 : State) : State :=
  order.foldl (fun t b => sampleBlock s0 opening late b t) (reselect false s0)

/-- An accepted SAMPLE: the blocks' work, the DRIVE, then the hand-on for a SAMPLE_COPY (02 R22, R23, R30). -/
def acceptSample (payload : List Byte) (s : State) : State :=
  let c := s.choice
  handOnCopy payload (answerDrive
    (sampleBlocks (fillOrder SampleBlock.all c.sample) c.overcurrentLate (s.doorOpening payload)
      (beginSample payload s.dropChoice)))

/-- A good SAMPLE reaches the sample path: a duplicate is dropped (02 R15). -/
def takeSample (payload : List Byte) (s : State) : State := if s.duplicate payload then s else acceptSample payload s

/-! ### The gap timer (02 R26, R27) -/

/-- FIELD_SILENT arises at a gap expiry: the record, the stop demand, and setpoint 0 for a drum in DECEL
(02 R27, 05 R91). -/
def raiseSilence (s : State) : State :=
  if s.silent then s
  else
    let t := reselect false (arise .fieldSilent s)
    if t.drum.state = .decel then t.setDrum { t.drum with setpoint := 0 } else t

/-- A gap expiry: FIELD_SILENT, the gap DRIVE, and the restart with the span of the present GAP_SAMPLES
(02 R27, R29). -/
def gapExpiry (s : State) : State :=
  let t := gapDrive (raiseSilence s)
  t.setPath { t.path with gapMillis := 0, gapSpan := 10 * t.param .gapSamples }

end Sys2Proof.Machine
end

