-- ==== Sys2Proof/Machine/LinkLevel.lean ====
section
/-! DEFINITION. The link level below the requests (01): bad-frame counters and LINK conditions, the keepalive window,
and the parameter writes that reach them. -/

namespace Sys2Proof.Machine

/-- The LINK condition of a port (01 R7). -/
def Port.source : Port → Source
  | .field => .fieldLink
  | .controller => .controllerLink

/-- A port's bad-frame counter (01 R7). -/
def State.badCount (s : State) (p : Port) : Nat :=
  match p with
  | .field => s.links.fieldBad
  | .controller => s.links.controllerBad

/-- Store a port's bad-frame counter. -/
def State.setBadCount (s : State) (p : Port) (n : Nat) : State :=
  match p with
  | .field => s.setLinks { s.links with fieldBad := n }
  | .controller => s.setLinks { s.links with controllerBad := n }

/-- A port's receiver. -/
def State.receiver (s : State) (p : Port) : Receiver :=
  match p with
  | .field => s.links.fieldRx
  | .controller => s.links.controllerRx

/-- Store a port's receiver. -/
def State.setReceiver (s : State) (p : Port) (r : Receiver) : State :=
  match p with
  | .field => s.setLinks { s.links with fieldRx := r }
  | .controller => s.setLinks { s.links with controllerRx := r }

/-- A complete frame or a bad frame returns the receiver to HUNT (01 R2). -/
def toHunt (p : Port) (s : State) : State := s.setReceiver p .idle

/-- A bad frame: the receiver returns to HUNT and the port's counter rises by 1, saturating at LINK_ERR_LIMIT; reaching
it raises the port's LINK condition (01 R2, R7). -/
def badFrame (p : Port) (s : State) : State :=
  let n := min (s.badCount p + 1) (s.param .linkErrLimit)
  let t := (toHunt p s).setBadCount p n
  if s.param .linkErrLimit ≤ n then arise (Port.source p) t else t

/-- A good frame: the receiver returns to HUNT and the port's counter falls by 1, not below 0; at 0 the LINK condition
goes (01 R2, R7). -/
def goodFrame (p : Port) (s : State) : State :=
  let n := s.badCount p - 1
  let t := (toHunt p s).setBadCount p n
  if n = 0 then goAway (Port.source p) t else t

/-- A write of LINK_ERR_LIMIT acts on one port's counter at once (01 R7). -/
def applyLinkLimit (p : Port) (s : State) : State :=
  let n := min (s.badCount p) (s.param .linkErrLimit)
  let t := s.setBadCount p n
  if s.param .linkErrLimit ≤ n then arise (Port.source p) t else t

/-! ### The keepalive window (01 R10 to R12) -/

/-- Store the keepalive window. -/
def State.setKeepalive (s : State) (k : Keepalive) : State := s.setLinks { s.links with keepalive := k }

/-- A restarting frame arrives within the window (01 R11). -/
def State.withinWindow (s : State) : Bool :=
  s.links.keepalive.running && decide (s.links.keepalive.timer < s.param .keepaliveUpper) &&
    decide (s.param .keepaliveLower ≤ s.links.keepalive.timer)

/-- A restarting frame: within the window the cause becomes NONE and the condition goes; in every case the timer
restarts (01 R10, R11). -/
def restartWindow (s : State) : State :=
  if s.withinWindow then goAway .keepalive (s.setKeepalive ⟨0, true, .none⟩)
  else s.setKeepalive { s.links.keepalive with timer := 0, running := true }

/-- A KEEPALIVE with LEN 0 acts on the window: too early it is a breach with cause EARLY, and it restarts the timer
(01 R10, R11). -/
def keepaliveArrives (s : State) : State :=
  if s.param .keepaliveUpper = 0 then s
  else if s.links.keepalive.timer < s.param .keepaliveLower then arise .keepalive (s.setKeepalive ⟨0, true, .early⟩)
  else restartWindow s

/-- Any other frame that enters the receive queue: it restarts the timer while KEEPALIVE_LOWER is off (01 R10). -/
def frameRestarts (s : State) : State :=
  if s.param .keepaliveUpper = 0 ∨ s.param .keepaliveLower ≠ 0 then s else restartWindow s

/-- The keepalive timer reaches KEEPALIVE_UPPER at this tenth (01 R11). -/
def State.lateDue (s : State) : Bool :=
  s.links.keepalive.running && decide (s.param .keepaliveUpper ≤ s.links.keepalive.timer + 1)

/-- The keepalive timer's work at a tenth: it counts, and at KEEPALIVE_UPPER it stops there with cause LATE
(01 R10, R11). -/
def keepaliveTenth (s : State) : State :=
  if s.lateDue then arise .keepalive (s.setKeepalive ⟨s.param .keepaliveUpper, false, .late⟩)
  else if s.links.keepalive.running then
    s.setKeepalive { s.links.keepalive with timer := s.links.keepalive.timer + 1 }
  else s

/-- A write of either keepalive parameter restarts the timer while KEEPALIVE_UPPER is on, stops it while it is off, sets
the cause to NONE and makes a present condition go (01 R12). -/
def keepaliveWritten (s : State) : State :=
  goAway .keepalive (s.setKeepalive ⟨0, decide (s.param .keepaliveUpper ≠ 0), .none⟩)

end Sys2Proof.Machine
end

