-- ==== Sys2Proof/Machine/RequestHandler.lean ====
section
/-! DEFINITION. The request handler and table store (10): taking requests, the table writes and reads, status, lock and
flush, and what each port does with a good frame (01 R5, R6). -/

namespace Sys2Proof.Machine

/-! ### Table writes (10 R170 to R175) -/

/-- Check 5: the entry belongs to the safety set (10 R175). -/
def State.inSafetySet (s : State) (t : TableId) (i : Nat) : Bool :=
  match t with
  | .program => s.slotProtected (i / 8)
  | .limits => true
  | .actions => true
  | .config => ((Param.ofIndex? i).map fun p => p.row.safety).getD false
  | .pattern => false
  | .curve => false

/-- An index lies inside the main window or the untangle block of a phase (10 R172). -/
def inWindows (r : PhaseRecord) (i : Nat) : Bool :=
  let w := windowOf r.start r.wrap
  (decide (w.base ≤ i) && decide (i < w.base + w.size)) ||
  (match r.untangle with
   | none => false
   | some u => decide (untangleBase u ≤ i) && decide (i < untangleBase u + 4))

/-- Check 6: the entry is in use while the cycle is ACTIVE or SUSPENDED (10 R172). -/
def State.inUse (s : State) (t : TableId) (i : Nat) : Bool :=
  (decide (s.cycle.state = .active) || decide (s.cycle.state = .suspended)) &&
  (match t with
   | .program => decide (i / 8 = s.cycle.slot)
   | .pattern => (s.programPhases s.cycle.slot).any fun x => inWindows x.2 i
   | .curve => true
   | .limits => false
   | .actions => false
   | .config => false)

/-- Store a PROGRAM record. -/
def storeProgram (i : Nat) (r : PhaseRecord) (s : State) : State :=
  s.setTables { s.tables with program := s.tables.program.setIfInBounds i r }

/-- Store a PATTERN entry. -/
def storePattern (i : Nat) (e : PatternEntry) (s : State) : State :=
  s.setTables { s.tables with pattern := s.tables.pattern.setIfInBounds i e }

/-- Store a CURVE point, with its written flag set (03 R35). -/
def storeCurve (i v : Nat) (s : State) : State :=
  s.setTables { s.tables with curve := s.tables.curve.setIfInBounds i ⟨v, true⟩ }

/-- Store a LIMITS entry. -/
def storeLimit (i : Nat) (e : LimitEntry) (s : State) : State :=
  s.setFaults { s.faults with limits := s.faults.limits.setIfInBounds i e }

/-- A PROGRAM write past checks 1 to 6 (07 R115, R116). -/
def admitProgram (i : Nat) (d : List Byte) (s : State) : State × Reply :=
  match PhaseKind.ofCode? (byteAt d 0).toNat with
  | none => (s, .plain .range)
  | some .none => (storeProgram i noneRecord s, .plain .ok)
  | some k => (storeProgram i (storedRecord k d) s, .plain (.ofChanged (decide ((storedRecord k d).bytes ≠ d))))

/-- A PATTERN write past checks 1 to 6 (06 R96). -/
def admitPattern (i : Nat) (d : List Byte) (s : State) : State × Reply :=
  match PatternDir.ofCode? (byteAt d 0).toNat with
  | none => (s, .plain .range)
  | some .empty => (storePattern i emptyEntry s, .plain .ok)
  | some k => (storePattern i (storedEntry k d) s, .plain (.ofChanged (decide ((storedEntry k d).bytes ≠ d))))

/-- A CURVE write past the checks (03 R35). -/
def admitCurve (i : Nat) (d : List Byte) (s : State) : State × Reply :=
  (storeCurve i (clampNat 0 1000 (field16 d 0)) s, .plain (.ofChanged (decide (1000 < field16 d 0))))

/-- A LIMITS write past the checks (09 R152). -/
def admitLimits (i : Nat) (d : List Byte) (s : State) : State × Reply :=
  (storeLimit i (storedLimit i d).1 s, .plain (.ofChanged (storedLimit i d).2))

/-- An ACTIONS write past checks 1 to 6: below the floor it stores the floor (09 R161, R162). That it answers CLAMPED also
where the floor is the action already held is the model's reading (log entry 28). -/
def admitActions (i : Nat) (d : List Byte) (s : State) : State × Reply :=
  match Action.ofCode? (byteAt d 0).toNat, Source.ofIndex? i with
  | some a, some x =>
    (storeAction x (a.higher x.row.floor) s, .plain (.ofChanged (decide (a.code < x.row.floor.code))))
  | some _, none => (s, .plain .range)
  | none, some _ => (s, .plain .range)
  | none, none => (s, .plain .range)

/-- What a CONFIG write does beyond storing: the parameters that act at once (10 R171). -/
def paramWritten (p : Param) (s : State) : State :=
  match p with
  | .shortLimit => applyShortLimit s
  | .airflowSpeed => forceReduction s
  | .coolSpeed => reselect false s
  | .linkErrLimit => applyLinkLimit .controller (applyLinkLimit .field s)
  | .keepaliveUpper => keepaliveWritten s
  | .keepaliveLower => keepaliveWritten s
  | .copyDecimation => s.setUpstream { s.upstream with copyCounter := 0 }
  | .reportInterval => s.setUpstream { s.upstream with reportTimer := 0 }
  | .electrodeBurst | .contactFloor | .electrodeTrim | .slopeAssist | .rampStep | .dwellTime | .minTurn | .spinupLimit
  | .coastLimit | .stopSpeed | .speedTolerance | .tangleRipple | .tangleScore | .tangleLimit | .stageInterval
  | .relayHold | .regBand | .gapSamples | .upstreamLevel | .attnMask | .protectCount | .protectSide | .suspendReset
  | .cooldownLimit => s

/-- A CONFIG write past the checks (10 R174). KEEPALIVE_UPPER and KEEPALIVE_LOWER are held apart (01 R12): an upper
at or below the lower lowers the lower, and a lower at or above the upper is stored below it. -/
def admitParam (p : Param) (v : Nat) (s : State) : State × Reply :=
  let c := storedParam p v
  match p with
  | .keepaliveUpper =>
    if c ≠ 0 ∧ c ≤ s.param .keepaliveLower then
      (paramWritten p ((s.setParam p c).setParam .keepaliveLower (c - 1)), .plain .clamped)
    else (paramWritten p (s.setParam p c), .plain (.ofChanged (decide (c ≠ v))))
  | .keepaliveLower =>
    if s.param .keepaliveUpper ≠ 0 ∧ s.param .keepaliveUpper ≤ c then
      (paramWritten p (s.setParam p (s.param .keepaliveUpper - 1)), .plain .clamped)
    else (paramWritten p (s.setParam p c), .plain (.ofChanged (decide (c ≠ v))))
  | p => (paramWritten p (s.setParam p c), .plain (.ofChanged (decide (c ≠ v))))

/-- A CONFIG write by index. -/
def admitConfig (i : Nat) (d : List Byte) (s : State) : State × Reply :=
  match Param.ofIndex? i with
  | none => (s, .plain .range)
  | some p => admitParam p (field16 d 0) s

/-- A write past checks 1 to 6, by table. -/
def admitWrite (t : TableId) (i : Nat) (d : List Byte) (s : State) : State × Reply :=
  match t with
  | .program => admitProgram i d s
  | .pattern => admitPattern i d s
  | .curve => admitCurve i d s
  | .limits => admitLimits i d s
  | .actions => admitActions i d s
  | .config => admitConfig i d s

/-- TABLE_WRITE: the checks of 10 R170 in order. -/
def requestWrite (p : List Byte) (s : State) : State × Reply :=
  match TableId.ofCode? (byteAt p 0).toNat with
  | none => (s, .plain .range)
  | some t =>
    let i := (byteAt p 1).toNat
    let d := p.drop 2
    if d.length ≠ t.size then (s, .plain .format)
    else if t.count ≤ i then (s, .plain .range)
    else if s.isProtected && s.inSafetySet t i then (s, .plain .locked)
    else if s.inUse t i then (s, .plain .inUse)
    else admitWrite t i d s

/-! ### Table reads (10 R173) -/

/-- The entry of a table as a TABLE_READ carries it (10 R173, 09 R161). -/
def State.entryBytes (s : State) (t : TableId) (i : Nat) : List Byte :=
  match t with
  | .program => (s.programAt i).bytes
  | .pattern => (s.patternAt i).bytes
  | .curve => bytes16 (s.curveAt i).value ++ [byteOf (bitOf (s.curveAt i).written)]
  | .limits => ((s.faults.limits[i]?).map LimitEntry.bytes).getD []
  | .actions =>
    ((Source.ofIndex? i).map fun x =>
      [byteOf (s.action x).code, byteOf x.row.floor.code, byteOf (s.record x).count]).getD []
  | .config => ((Param.ofIndex? i).map fun p => bytes16 (s.param p)).getD []

/-- TABLE_READ (10 R173). -/
def requestRead (p : List Byte) (s : State) : State × Reply :=
  match TableId.ofCode? (byteAt p 0).toNat with
  | none => (s, .plain .range)
  | some t =>
    if t.count ≤ (byteAt p 1).toNat then (s, .plain .range)
    else (s, ⟨.ok, s.entryBytes t (byteAt p 1).toNat⟩)

/-! ### Status, faults, lock, flush -/

/-- Four record states packed in a byte, 2 bits per source (01, STATUS_READ bytes 16 to 19). -/
def State.recordByte (s : State) (k : Nat) : Byte :=
  byteOf (((List.range 4).map fun j =>
    (((Source.ofIndex? (4 * k + j)).map fun x => (s.record x).state.code).getD 0) * 4 ^ j).sum)

/-- The sticky flags, bit n for source n (01, STATUS_READ bytes 20 and 21). -/
def State.stickyBits (s : State) : Nat :=
  (Source.all.map fun x => bitOf (s.record x).sticky * 2 ^ x.row.index.val).sum

/-- The 28 bytes of a STATUS_READ response (01; 10 R178). -/
def State.statusBytes (s : State) : List Byte :=
  [byteOf s.cycle.state.code, byteOf s.cycle.slot, byteOf s.cycle.phase] ++ bytes16 s.cycle.elapsed ++
  [byteOf s.drum.state.code, byteOf s.drum.dir.code] ++ bytes16 s.drum.setpoint ++
  [byteOf (s.heater.commanded.code + 4 * s.targetLevel.code + 16 * s.heater.wanted.code + 64 * bitOf s.staging)] ++
  bytes16 s.moisture.w16 ++ bytes16 s.moisture.streak ++
  [byteOf s.walker.count, byteOf s.faults.effective.code] ++
  [s.recordByte 0, s.recordByte 1, s.recordByte 2, s.recordByte 3] ++ bytes16 s.stickyBits ++
  [byteOf (bitOf s.tables.lock + 2 * bitOf s.links.service + 4 * s.links.keepalive.cause.code),
   byteOf s.upstream.queue.length] ++
  bytes16 s.path.missed ++ bytes16 s.upstream.dropped

/-- STATUS_READ: the response is built, then the sticky flags of CLEAR records are cleared (10 R178, 09 R165). -/
def requestStatus (s : State) : State × Reply := (clearSticky s, ⟨.ok, s.statusBytes⟩)

/-- FAULT_CLEAR: a source number, or FFh for all (09 R163). -/
def requestFaultClear (b : Byte) (s : State) : State × Reply :=
  if b.toNat = 255 then (clearSources Source.all s, .plain .ok)
  else
    match Source.ofIndex? b.toNat with
    | some x => (clearSources [x] s, .plain .ok)
    | none => (s, .plain .range)

/-- LIMIT_LOCK (10 R176). -/
def requestLock (s : State) : State × Reply := (s.setTables { s.tables with lock := true }, .plain .ok)

/-- LIMIT_UNLOCK: decided by the SERVICE line (10 R176). -/
def requestUnlock (s : State) : State × Reply :=
  if s.links.service then (s.setTables { s.tables with lock := false }, .plain .ok) else (s, .plain .locked)

/-- UPSTREAM_FLUSH: every displaceable frame leaves the queue, without a drop, which is a move test (10 R179,
11 R182). -/
def requestFlush (s : State) : State × Reply :=
  (moveEvents (s.setUpstream { s.upstream with queue := s.upstream.queue.filter fun f => !f.displaceable }),
    .plain .ok)

/-! ### Taking a request (10 R168, R169; 01 R6) -/

/-- The LEN range of a request KIND (01, Frame kinds). A KEEPALIVE in the queue has a LEN other than 0. -/
def lenRange (kind : Nat) : Nat × Nat :=
  match kind with
  | 0x41 => (3, 16)
  | 0x42 => (2, 2)
  | 0x43 => (2, 2)
  | 0x47 => (1, 1)
  | 0x4A => (1, 1)
  | _ => (0, 0)

/-- The action of a request that has passed the KIND and LEN checks (10, Requests and their owners). -/
def actRequest (f : Frame) (s : State) : State × Reply :=
  match f.kind.toNat with
  | 0x41 => requestWrite f.payload s
  | 0x42 => requestRead f.payload s
  | 0x43 => requestStart (byteAt f.payload 0) (byteAt f.payload 1) s
  | 0x44 => requestPause s
  | 0x45 => requestResume s
  | 0x46 => requestAbort s
  | 0x47 => requestFaultClear (byteAt f.payload 0) s
  | 0x48 => requestStatus s
  | 0x4A => requestTrim (byteAt f.payload 0) s
  | 0x4B => requestLock s
  | 0x4C => requestUnlock s
  | 0x4D => requestFlush s
  | _ => (s, .plain .format)

/-- A taken frame: an unknown KIND is answered UNKNOWN, a LEN outside the KIND's range FORMAT, any other acts
(01 R6). -/
def takeRequest (f : Frame) (s : State) : State × Reply :=
  if !knownRequestKind f.kind then (s, .plain .unknown)
  else if f.payload.length < (lenRange f.kind.toNat).1 ∨ (lenRange f.kind.toNat).2 < f.payload.length then
    (s, .plain .format)
  else actRequest f s

/-- A RESPONSE frame: request KIND, result code, data (01, Upstream payloads). -/
def responseFrame (kind : Byte) (r : Reply) : UpFrame := ⟨.response, kind :: byteOf r.result.code :: r.data⟩

/-- One request, taken from the head of the receive queue: checks, action and RESPONSE in one event (10 R168). -/
def handleRequest (f : Frame) (s : State) : State :=
  let t := takeRequest f (s.setTables { s.tables with inProgress := some f })
  let u := joinQueue (responseFrame f.kind t.2) t.1
  u.setTables { u.tables with inProgress := none }

/-- The handler takes head frames while none is in progress and the upstream queue can accept a response (10 R168,
R169). -/
def serveQueue : Nat → State → State
  | 0, s => s
  | n + 1, s =>
    match s.links.receiveQueue with
    | [] => s
    | f :: rest =>
      if s.tables.inProgress = none ∧ s.upstream.canAccept then
        serveQueue n (handleRequest f (s.setLinks { s.links with receiveQueue := rest }))
      else s

/-- The taking condition is tested, and tested again at each completion (10 R169). -/
def serve (s : State) : State := serveQueue s.links.receiveQueue.length s

/-! ### What each port does with a frame (01 R5, R6) -/

/-- Capacity of the controller receive queue (01 R6). -/
def receiveCapacity : Nat := 4

/-- A frame other than a KEEPALIVE with LEN 0, good at the link level, on the controller port: with room it is a good
frame, acts on the keepalive window, is appended, and the taking condition is tested; at a full queue it is discarded
as a bad frame (01 R6, R7, R10; 10 R169). That CONTROLLER_LINK goes before the frame acts on the keepalive window is the
model's choice (log entry 24). -/
def requestArrives (f : Frame) (s : State) : State :=
  if s.links.receiveQueue.length < receiveCapacity then
    let t := frameRestarts (goodFrame .controller s)
    serve (t.setLinks { t.links with receiveQueue := t.links.receiveQueue ++ [f] })
  else badFrame .controller s

/-- A complete frame on the controller port (01 R6); a LEN above 32 never completes (01 R2). That CONTROLLER_LINK goes
before the frame acts on the keepalive window is the model's choice (log entry 24). -/
def controllerFrame (f : Frame) (s : State) : State :=
  if !f.fits then badFrame .controller s
  else if f.kind.toNat = 0x49 ∧ f.payload = [] then keepaliveArrives (goodFrame .controller s)
  else requestArrives f s

/-- A complete frame on the field port (01 R5); a LEN above 32 never completes (01 R2). That FIELD_LINK goes, and its
going acts on the drum, before a SAMPLE is decoded and before FIELD_SILENT goes is the model's choice (log
entry 24). -/
def fieldFrame (f : Frame) (s : State) : State :=
  if !f.fits then badFrame .field s
  else if f.kind.toNat = 0x21 then
    if samplePayloadOk f.payload then takeSample f.payload (goodFrame .field s) else badFrame .field s
  else goodFrame .field s

/-- A complete frame on a port. -/
def completeFrame (p : Port) (f : Frame) (s : State) : State :=
  match p with
  | .field => fieldFrame f s
  | .controller => controllerFrame f s

/-! ### Byte arrivals (01 R2, R3) -/

/-- A receiver that goes on with the assembly (01 R2). -/
inductive RxOutcome
  | assembling (r : Receiver)
  | frame (f : Frame)
  | bad
  deriving DecidableEq, Repr

/-- One byte taken by a receiver, with or without byte error (01 R2, R3). -/
def Receiver.take (r : Receiver) (b : Byte) (err : Bool) : RxOutcome :=
  match r.state with
  | .hunt =>
    if !err && decide (b = 0xC5#8) then
      .assembling { state := .kind, kind := 0, len := 0, payload := [], crc := 0xFF, remaining := 0 }
    else .assembling r
  | .kind => if err then .bad else .assembling { r with state := .len, kind := b, crc := crcByte r.crc b }
  | .len =>
    if err || decide (32 < b.toNat) then .bad
    else
      .assembling
        { r with
          state := if b.toNat = 0 then .check else .payload, len := b.toNat, remaining := b.toNat,
          crc := crcByte r.crc b }
  | .payload =>
    if err then .bad
    else
      .assembling
        { r with
          state := if r.remaining ≤ 1 then .check else .payload, payload := r.payload ++ [b],
          remaining := r.remaining - 1, crc := crcByte r.crc b }
  | .check => if err || decide (b ≠ r.crc) then .bad else .frame ⟨r.kind, r.payload⟩

/-- A byte arrives on a port (01 R2). -/
def byteArrives (p : Port) (b : Byte) (err : Bool) (s : State) : State :=
  match (s.receiver p).take b err with
  | .assembling r => s.setReceiver p r
  | .frame f => completeFrame p f s
  | .bad => badFrame p s

/-- The inter-byte gap timer of a port expires: it runs outside HUNT alone, and makes the frame a bad frame
(01 R4). -/
def gapBetweenBytes (p : Port) (s : State) : State :=
  if (s.receiver p).state = .hunt then s else badFrame p s

end Sys2Proof.Machine
end

