-- ==== Sys2Proof/Machine/Clock.lean ====
section
/-! DEFINITION. The time base (02 R24): the blocks' work at a tenth and at a second expiry, the events that fall due at
a tenth, and the millisecond that passes while no command waits. -/

namespace Sys2Proof.Machine

/-! ### The tangle monitor (06 R104 to R106, R111) -/

/-- The TURNING entry time that the drum hands over has lasted 20 tenths (05 R90, 06 R104). -/
def State.turningSettled (s : State) : Bool :=
  decide (s.drum.state = .turning) &&
  (match s.drum.turningEntry with
   | none => false
   | some t => lasted s.now t 20)

/-- The ripple of the second that ends, when it qualifies (06 R104, R105). -/
def State.ripple? (s : State) : Option Nat :=
  if s.cycle.state = .active ∧ s.holds ∧ ¬ s.walker.pass ∧ ¬ s.walker.early ∧ s.turningSettled then
    match s.drum.currentMin, s.drum.currentMax with
    | some lo, some hi => some (hi - lo)
    | some _, none => none
    | none, some _ => none
    | none, none => none
  else none

/-- The ripple of the second is a rise of the score (06 R105). -/
def State.rippleHigh (s : State) : Bool :=
  match s.ripple? with
  | none => false
  | some r => decide (s.param .tangleRipple ≤ r)

/-- This second's judgement detects a tangle (06 R105). -/
def State.tangleDue (s : State) : Bool :=
  s.rippleHigh && decide (s.param .tangleScore ≤ satSucc 10 s.walker.score)

/-- The tangle-persist flag after a detection: set with its event, and the phase cap it lowers forces the commanded
level down (06 R111, 04 R60, R64). -/
def notePersist (s : State) : State :=
  if s.param .tangleLimit ≤ s.walker.count ∧ ¬ s.walker.persist then
    forceReduction (raiseEvent .tanglePersist 0 (s.setWalker { s.walker with persist := true }))
  else s

/-- A detected tangle: the score returns to 0, the count rises, TANGLE is raised and the early end is pending
(06 R105, R106, R111). -/
def detectTangle (s : State) : State :=
  notePersist (raiseEvent .tangle 0
    (s.setWalker { s.walker with score := 0, count := satSucc 255 s.walker.count, early := true }))

/-- The score after a qualifying second; a second that does not qualify leaves it (06 R104, R105). -/
def State.scoreNext (s : State) : Nat :=
  match s.ripple? with
  | none => s.walker.score
  | some r => if s.param .tangleRipple ≤ r then satSucc 10 s.walker.score else 0

/-- The monitor judges the second that ends, and the drum opens a new one (06 R104 to R106; 05 R90). -/
def judgeSecond (s : State) : State :=
  let t := if s.tangleDue then detectTangle s else s.setWalker { s.walker with score := s.scoreNext }
  t.setDrum { t.drum with currentMin := none, currentMax := none }

/-! ### The walker's tenth (06 R100, R107) -/

/-- This tenth is given to the walker's current segment: the drum is TURNING under the walker, and the segment was named
before this tenth (05 R93, 06 R100; log entry 11). -/
def State.segmentTimed (s : State) : Bool := decide (s.drum.state = .turning) && s.holds && !s.aux.segFresh

/-- The tenth is added to the segment's TURNING time (06 R100). -/
def countTurning (s : State) : State :=
  if s.segmentTimed then s.setWalker { s.walker with turning := satSucc 2550 s.walker.turning } else s

/-- A tangled segment ends at this tenth, its time already counted (06 R107). -/
def State.earlyDue (s : State) : Bool := s.segmentTimed && s.walker.early && decide (s.param .minTurn ≤ s.walker.turning)

/-- A segment completes its length at this tenth, its time already counted (06 R100); a tangled one ends as a tangled
segment (06 R107). -/
def State.segmentDue (s : State) : Bool :=
  s.segmentTimed && !s.walker.early && decide (s.segmentLength ≤ s.walker.turning)

/-- The walker counts a tenth and tests the ends of its segment; a naming is a change of the winner (06 R99, R100,
R107). -/
def walkerCount (s : State) : State :=
  let t := countTurning s
  if t.earlyDue then reselect true (endTangled t)
  else if t.segmentDue then reselect true (advanceWalker t)
  else t

/-- The monitor acts first at a second expiry, and the walker's tenth work follows (06 R104). -/
def walkerTenth (second : Bool) (s : State) : State := walkerCount (if second then judgeSecond s else s)

/-! ### The drum's tenth (05 R83 to R88) -/

/-- MOTOR_STALL is due: the spinup count, with this tenth, stands at its limit and the mark is clear (05 R86). -/
def State.stallDue (s : State) : Bool :=
  decide (s.drum.state = .ramp) && decide (10 * s.param .spinupLimit ≤ s.drum.spinup.getD 0) && !s.drum.stallMark

/-- DRUM_OVERRUN is due: the coast count, with this tenth, stands at its limit and the mark is clear (05 R88). -/
def State.overrunDue (s : State) : Bool :=
  decide (s.drum.state = .decel) && !s.silent && decide (10 * s.param .coastLimit ≤ s.drum.coast.getD 0) &&
    !s.drum.overrunMark

/-- The DWELL span ends: the dwell count, with this tenth, stands at the span length or above (05 R83). For a span that
begins between two tenths this is up to 0.1 s before the span length has passed, as 02 R25 has it, where R83 also says, and
R79 relies on it, that a DWELL lasts at least its span length. DEDUCED: the model follows the count and not that sentence,
unsafe for a claim about the real time that a DWELL lasts (log entry 33). -/
def State.dwellDue (s : State) : Bool :=
  decide (s.drum.state = .dwell) && decide (s.dwellSpan ≤ s.drum.dwell.getD 0)

/-- The drum's work at a tenth that it has counted (05 R83 to R88). -/
def drumTenth (s : State) : State :=
  if s.stallDue then arise .motorStall (s.setDrum { s.drum with stallMark := true })
  else if s.overrunDue then arise .drumOverrun (s.setDrum { s.drum with overrunMark := true })
  else if s.dwellDue then endDwell s
  else s

/-! ### One tenth (02 R24) -/

/-- The coming tenth is a second expiry: its new count is a multiple of 10 (02 R24). -/
def State.secondNext (s : State) : Bool := decide ((s.path.timeBase + 1).toNat % 10 = 0)

/-- The time base rises by one tenth (02 R24). -/
def tickTenth (s : State) : State :=
  (s.setPath { s.path with timeBase := s.path.timeBase + 1, millis := 0 }).setAux { s.aux with segFresh := false }

/-- The time base rises by one tenth, and the drum counts it for the span it is in, before any block's work
(02 R24; 05 R83, R86, R88). That the tenth is therefore not counted for a RAMP or a DECEL that another block's work at
the same tenth begins, whatever the order, is the model's choice (log entry 29). -/
def beginTenth (s : State) : State := countTenth (tickTenth s)

/-- One block's work at a tenth (02 R24). -/
def tenthBlock (second : Bool) (b : TenthBlock) (s : State) : State :=
  match b with
  | .keepalive => keepaliveTenth s
  | .drum => drumTenth s
  | .moisture => if second then moistureSecond s else s
  | .walker => walkerTenth second s
  | .cycle => cycleTenth second s
  | .report => if second then reportSecond s else s

/-- The blocks' work at a tenth, in an order. -/
def tenthBlocks (second : Bool) (order : List TenthBlock) (s : State) : State :=
  order.foldl (fun t b => tenthBlock second b t) s

/-- A whole tenth, with a second expiry when it is one; the blocks named come first, then those of the event's order
(02 R24; log entry 5). -/
def runTenth (first : List TenthBlock) (s : State) : State :=
  tenthBlocks s.secondNext (fillOrder TenthBlock.all (first ++ s.choice.tenth)) (beginTenth s.dropChoice)

/-- A whole tenth that comes together with the beginning of a DWELL span, which does not count it (05 R83). -/
def runUncountedTenth (s : State) : State :=
  tenthBlocks s.secondNext (fillOrder TenthBlock.all s.choice.tenth) (tickTenth s.dropChoice)

/-- The walker's block as it stands when it counts the coming tenth, if it is taken first. -/
def State.walkerCounted (s : State) : State :=
  countTurning (if s.secondNext then judgeSecond (beginTenth s) else beginTenth s)

/-- The phase end that the coming tenth brings, if its cycle work is taken first (07 R128 to R131). -/
def State.endNext (s : State) : Option EndReason :=
  if s.secondNext ∧ s.cycle.state = .active then (beginTenth s).phaseEndDue else none

/-- The coming tenth brings a REPORT (11 R184). -/
def State.reportNext (s : State) : Bool :=
  s.secondNext && decide (s.param .reportInterval ≠ 0) &&
    decide (s.param .reportInterval ≤ s.upstream.reportTimer + 1)

/-- The coming tenth ends COOLDOWN by its limit (08 R147). -/
def State.cooldownNext (s : State) : Bool := s.secondNext && decide (s.cycle.state = .cooldown) && s.cooldownSpent

/-- A timer row of the table: the tenth at which its event is due, with that event's block taken first; when the coming
tenth does not bring the event, the command is no event and changes nothing (log entry 2). -/
def dueTenth (due : Bool) (b : TenthBlock) (s : State) : State := if due then runTenth [b] s else s

/-! ### One millisecond (02 R24, R26; 01 R4) -/

/-- The gap timer's millisecond (02 R26, R27). -/
def gapMillisecond (s : State) : State :=
  if s.path.gapSpan ≤ s.path.gapMillis + 1 then gapExpiry s
  else s.setPath { s.path with gapMillis := s.path.gapMillis + 1 }

/-- A DWELL span has begun since a state: nothing that comes before the tenth in one millisecond makes the winner a
PAUSE, so a span that was running has not begun again (05 R83). -/
def dwellBegan (before now : State) : Bool := decide (before.drum.state ≠ .dwell) && decide (now.drum.state = .dwell)

/-- The time base's millisecond (02 R24); `before` is the state as the millisecond began. -/
def tenthMillisecond (before s : State) : State :=
  if 100 ≤ s.path.millis + 1 then if dwellBegan before s then runUncountedTenth s else runTenth [] s
  else s.setPath { s.path with millis := s.path.millis + 1 }

/-- What one millisecond brings with no command: a frame being assembled has waited the inter-byte gap of 1.0 ms for its
next byte, and the gap timer and the time base run on (01 R4, 02 R24, R26; log entry 4). Where several of these fall in
the one millisecond the spec leaves their order open: that the inter-byte gaps come before the other two, and the field
port's before the controller port's, is the model's choice (log entry 4), and the order of the other two is that of the
event (log entry 5). -/
def millisecond (s : State) : State :=
  let t := gapBetweenBytes .controller (gapBetweenBytes .field s)
  if s.choice.gapFirst then tenthMillisecond s (gapMillisecond t) else gapMillisecond (tenthMillisecond s t)

end Sys2Proof.Machine
end

