-- ==== Sys2Proof/Machine/LinkCommands.lean ====
section
/-! DEFINITION. The meanings of the commands of the reset, the lines and the frame interfaces (01, 02, 10, 11). Every
meaning ends in `done`, which works out the level flag and ATTN (11 R185, R186). -/

namespace Sys2Proof.Machine

/-- Every block at its reset values, at the rate that RATESEL gives when the reset ends, with the levels of the two input
lines, the queue of commands and the model's own orders and counter kept (01 R1; 02 R24; log entry 17). -/
def resetFrom (rateselHigh : Bool) (s : State) : State :=
  { pending := s.pending
    links := resetLinks (if rateselHigh then .high250000 else .low115200) s.links.ready s.links.service
    path := resetPath
    moisture := resetMoisture
    heater := resetHeater
    drum := resetDrum
    walker := resetWalker
    cycle := resetCycle
    faults := resetFaults
    tables := resetTables
    upstream := resetUpstream
    aux := { resetAux with choices := s.aux.choices, freeCount := s.aux.freeCount } }

/-- RESET: the POWER_UP frame stands in the queue, and starts at once when READY is high (02 R24; 11 R183, R187; 01 R9;
log entry 17). -/
def execReset (rateselHigh : Bool) (s : State) : Host.Outcome State Fault Refusal :=
  done (startTransmission (resetFrom rateselHigh s))

/-- SAMPLE: the frame arrives complete on the field port (01 R5, 02 R15 to R23, R30). -/
def execSample (payload : List Byte) (s : State) : Host.Outcome State Fault Refusal :=
  done (fieldFrame ⟨0x21, payload⟩ s)

/-- BAD_FRAME on a port (01 R2, R7). -/
def execBadFrame (port : Port) (s : State) : Host.Outcome State Fault Refusal := done (badFrame port s)

/-- INTER_BYTE_GAP_EXPIRY on a port (01 R4): a receiver in HUNT runs no such timer (log entry 3). -/
def execInterByteGapExpiry (port : Port) (s : State) : Host.Outcome State Fault Refusal :=
  done (gapBetweenBytes port s)

/-- FIELD_OTHER_FRAME: ignored, and a good frame (01 R5). -/
def execFieldOtherFrame (kind : Byte) (payload : List Byte) (s : State) : Host.Outcome State Fault Refusal :=
  done (fieldFrame ⟨kind, payload⟩ s)

/-- KEEPALIVE with LEN 0 (01 R6, R10, R11). -/
def execKeepalive (s : State) : Host.Outcome State Fault Refusal := done (controllerFrame ⟨0x49, []⟩ s)

/-- REQUEST_ARRIVAL (01 R6; 10 R168, R169). -/
def execRequestArrival (kind : Byte) (payload : List Byte) (s : State) : Host.Outcome State Fault Refusal :=
  done (controllerFrame ⟨kind, payload⟩ s)

/-- READY_RISE: the head frame may start, and a waiting request is tested again (01 R9, 10 R169). -/
def execReadyRise (s : State) : Host.Outcome State Fault Refusal :=
  done (serve (startTransmission (s.setLinks { s.links with ready := true })))

/-- READY_FALL: no new frame starts; the frame in the transmitter goes on (01 R9). -/
def execReadyFall (s : State) : Host.Outcome State Fault Refusal := done (s.setLinks { s.links with ready := false })

/-- CONTROLLER_TX_END: the transmitter is idle, the head frame may start, and a waiting request is tested again
(01 R9, 10 R169). -/
def execControllerTxEnd (s : State) : Host.Outcome State Fault Refusal :=
  done (serve (startTransmission (s.setLinks { s.links with controllerTx := none })))

/-- The field port transmitter when the frame being sent ends: the waiting DRIVE is sent, if there is one (01 R8). -/
def FieldTx.ended : FieldTx → FieldTx
  | .idle => .idle
  | .sending _ => .idle
  | .sendingWaiting _ w => .sending w

/-- DRIVE_TX_END (01 R8). -/
def execDriveTxEnd (s : State) : Host.Outcome State Fault Refusal :=
  done (s.setLinks { s.links with fieldTx := s.links.fieldTx.ended })

/-- SERVICE_CHANGE: the line takes a level, read at each check (10 R177). -/
def execServiceChange (high : Bool) (s : State) : Host.Outcome State Fault Refusal :=
  done (s.setLinks { s.links with service := high })

/-- BYTE_ARRIVAL (01 R1 to R3). -/
def execByteArrival (port : Port) (data : Byte) (parity stop : Bool) (s : State) : Host.Outcome State Fault Refusal :=
  done (byteArrives port data (byteError data parity stop) s)

end Sys2Proof.Machine
end

