-- ==== Sys2Proof/Machine/RequestCommands.lean ====
section
/-! DEFINITION. The meanings of the request commands (10): each is its frame arriving complete on the controller port, and
being taken as soon as the taking condition holds (01 R6; 10 R168, R169; log entry 1). -/

namespace Sys2Proof.Machine

/-- A TABLE_WRITE of one entry arrives. -/
def writeArrives (id index : Byte) (data : List Byte) (s : State) : State :=
  controllerFrame ⟨0x41, tableWritePayload id index data⟩ s

/-- A write of one CONFIG parameter arrives. -/
def paramArrives (p : Param) (value : Half) (s : State) : State :=
  writeArrives 0x05 (byteOf p.row.index.val) (bytesOfHalf value) s

/-- UNKNOWN_REQUEST (01 R6). -/
def execUnknownRequest (kind : Byte) (payload : List Byte) (s : State) : Host.Outcome State Fault Refusal :=
  done (controllerFrame ⟨kind, payload⟩ s)

/-- PROGRAM_WRITE (07 R114 to R116; 10 R170 to R172). -/
def execProgramWrite (index : Byte) (data : List Byte) (s : State) : Host.Outcome State Fault Refusal :=
  done (writeArrives 0x00 index data s)

/-- PATTERN_WRITE (06 R96). -/
def execPatternWrite (index : Byte) (data : List Byte) (s : State) : Host.Outcome State Fault Refusal :=
  done (writeArrives 0x01 index data s)

/-- CURVE_WRITE (03 R35). -/
def execCurveWrite (index : Byte) (data : List Byte) (s : State) : Host.Outcome State Fault Refusal :=
  done (writeArrives 0x02 index data s)

/-- LIMITS_WRITE (09 R151, R152). -/
def execLimitsWrite (index : Byte) (data : List Byte) (s : State) : Host.Outcome State Fault Refusal :=
  done (writeArrives 0x03 index data s)

/-- ACTIONS_WRITE (09 R161, R162). -/
def execActionsWrite (index : Byte) (data : List Byte) (s : State) : Host.Outcome State Fault Refusal :=
  done (writeArrives 0x04 index data s)

/-- CONFIG_WRITE (10 R174). -/
def execConfigWrite (index : Byte) (data : List Byte) (s : State) : Host.Outcome State Fault Refusal :=
  done (writeArrives 0x05 index data s)

/-- ELECTRODE_BURST_WRITE (03 R53). -/
def execElectrodeBurstWrite (value : Half) (s : State) : Host.Outcome State Fault Refusal :=
  done (paramArrives .electrodeBurst value s)

/-- ELECTRODE_TRIM_WRITE (03 R52). -/
def execElectrodeTrimWrite (value : Half) (s : State) : Host.Outcome State Fault Refusal :=
  done (paramArrives .electrodeTrim value s)

/-- SHORT_LIMIT_WRITE (03 R39). -/
def execShortLimitWrite (value : Half) (s : State) : Host.Outcome State Fault Refusal :=
  done (paramArrives .shortLimit value s)

/-- LINK_ERR_LIMIT_WRITE (01 R7). -/
def execLinkErrLimitWrite (value : Half) (s : State) : Host.Outcome State Fault Refusal :=
  done (paramArrives .linkErrLimit value s)

/-- KEEPALIVE_UPPER_WRITE (01 R12). -/
def execKeepaliveUpperWrite (value : Half) (s : State) : Host.Outcome State Fault Refusal :=
  done (paramArrives .keepaliveUpper value s)

/-- KEEPALIVE_LOWER_WRITE (01 R12). -/
def execKeepaliveLowerWrite (value : Half) (s : State) : Host.Outcome State Fault Refusal :=
  done (paramArrives .keepaliveLower value s)

/-- GAP_SAMPLES_WRITE (02 R29). -/
def execGapSamplesWrite (value : Half) (s : State) : Host.Outcome State Fault Refusal :=
  done (paramArrives .gapSamples value s)

/-- AIRFLOW_SPEED_WRITE (04 R62, R64, R69). -/
def execAirflowSpeedWrite (value : Half) (s : State) : Host.Outcome State Fault Refusal :=
  done (paramArrives .airflowSpeed value s)

/-- COOL_SPEED_WRITE (05 R76, R94). -/
def execCoolSpeedWrite (value : Half) (s : State) : Host.Outcome State Fault Refusal :=
  done (paramArrives .coolSpeed value s)

/-- COPY_DECIMATION_WRITE (11 R184). -/
def execCopyDecimationWrite (value : Half) (s : State) : Host.Outcome State Fault Refusal :=
  done (paramArrives .copyDecimation value s)

/-- REPORT_INTERVAL_WRITE (11 R184). -/
def execReportIntervalWrite (value : Half) (s : State) : Host.Outcome State Fault Refusal :=
  done (paramArrives .reportInterval value s)

/-- UPSTREAM_LEVEL_WRITE (11 R185). -/
def execUpstreamLevelWrite (value : Half) (s : State) : Host.Outcome State Fault Refusal :=
  done (paramArrives .upstreamLevel value s)

/-- ATTN_MASK_WRITE (11 R186, 10 R174). -/
def execAttnMaskWrite (value : Half) (s : State) : Host.Outcome State Fault Refusal :=
  done (paramArrives .attnMask value s)

/-- PROTECT_COUNT_WRITE (10 R175). -/
def execProtectCountWrite (value : Half) (s : State) : Host.Outcome State Fault Refusal :=
  done (paramArrives .protectCount value s)

/-- PROTECT_SIDE_WRITE (10 R175). -/
def execProtectSideWrite (value : Half) (s : State) : Host.Outcome State Fault Refusal :=
  done (paramArrives .protectSide value s)

/-- TABLE_READ, KIND 42h (10 R173). -/
def execTableRead (payload : List Byte) (s : State) : Host.Outcome State Fault Refusal :=
  done (controllerFrame ⟨0x42, payload⟩ s)

/-- CYCLE_START, KIND 43h (07 R119 to R121). -/
def execCycleStart (payload : List Byte) (s : State) : Host.Outcome State Fault Refusal :=
  done (controllerFrame ⟨0x43, payload⟩ s)

/-- CYCLE_PAUSE, KIND 44h (08 R137, R139). -/
def execCyclePause (payload : List Byte) (s : State) : Host.Outcome State Fault Refusal :=
  done (controllerFrame ⟨0x44, payload⟩ s)

/-- CYCLE_RESUME, KIND 45h (08 R141, R142). -/
def execCycleResume (payload : List Byte) (s : State) : Host.Outcome State Fault Refusal :=
  done (controllerFrame ⟨0x45, payload⟩ s)

/-- CYCLE_ABORT, KIND 46h (08 R144 to R147). -/
def execCycleAbort (payload : List Byte) (s : State) : Host.Outcome State Fault Refusal :=
  done (controllerFrame ⟨0x46, payload⟩ s)

/-- FAULT_CLEAR, KIND 47h (09 R163, R164; 08 R149). -/
def execFaultClear (payload : List Byte) (s : State) : Host.Outcome State Fault Refusal :=
  done (controllerFrame ⟨0x47, payload⟩ s)

/-- STATUS_READ, KIND 48h (10 R178, 09 R165). -/
def execStatusRead (payload : List Byte) (s : State) : Host.Outcome State Fault Refusal :=
  done (controllerFrame ⟨0x48, payload⟩ s)

/-- TRIM_STEP, KIND 4Ah (03 R51). -/
def execTrimStep (payload : List Byte) (s : State) : Host.Outcome State Fault Refusal :=
  done (controllerFrame ⟨0x4A, payload⟩ s)

/-- LIMIT_LOCK, KIND 4Bh (10 R176). -/
def execLimitLock (payload : List Byte) (s : State) : Host.Outcome State Fault Refusal :=
  done (controllerFrame ⟨0x4B, payload⟩ s)

/-- LIMIT_UNLOCK, KIND 4Ch (10 R176). -/
def execLimitUnlock (payload : List Byte) (s : State) : Host.Outcome State Fault Refusal :=
  done (controllerFrame ⟨0x4C, payload⟩ s)

/-- UPSTREAM_FLUSH, KIND 4Dh (10 R179). -/
def execUpstreamFlush (payload : List Byte) (s : State) : Host.Outcome State Fault Refusal :=
  done (controllerFrame ⟨0x4D, payload⟩ s)

/-- KEEPALIVE_FORMAT: a KEEPALIVE with a LEN other than 0 is queued, and answered FORMAT when taken (01 R6). -/
def execKeepaliveFormat (payload : List Byte) (s : State) : Host.Outcome State Fault Refusal :=
  done (controllerFrame ⟨0x49, payload⟩ s)

/-- TABLE_WRITE_REFUSED: a TABLE_WRITE that check 1 or 2 of 10 R170 refuses. -/
def execTableWriteRefused (payload : List Byte) (s : State) : Host.Outcome State Fault Refusal :=
  done (controllerFrame ⟨0x41, payload⟩ s)

end Sys2Proof.Machine
end

