-- ==== Sys2Proof/Machine/TimerCommands.lean ====
section
/-! DEFINITION. The meanings of the commands that the part's own clock gives (02 R24; log entry 2). -/

namespace Sys2Proof.Machine

/-- GAP_EXPIRY (02 R27; log entry 3). -/
def execGapExpiry (s : State) : Host.Outcome State Fault Refusal := done (gapExpiry s)

/-- TENTH, a second expiry too when its new count is a multiple of 10 (02 R24). -/
def execTenth (s : State) : Host.Outcome State Fault Refusal := done (runTenth [] s)

/-- SECOND_EXPIRY: the tenth that is a second expiry (02 R24). -/
def execSecondExpiry (s : State) : Host.Outcome State Fault Refusal := done (if s.secondNext then runTenth [] s else s)

/-- LATE_BREACH (01 R11). -/
def execLateBreach (s : State) : Host.Outcome State Fault Refusal := done (dueTenth (beginTenth s).lateDue .keepalive s)

/-- DWELL_SPAN_END (05 R83, R84). -/
def execDwellSpanEnd (s : State) : Host.Outcome State Fault Refusal := done (dueTenth (beginTenth s).dwellDue .drum s)

/-- MOTOR_STALL (05 R86). -/
def execMotorStall (s : State) : Host.Outcome State Fault Refusal := done (dueTenth (beginTenth s).stallDue .drum s)

/-- DRUM_OVERRUN (05 R88). -/
def execDrumOverrun (s : State) : Host.Outcome State Fault Refusal := done (dueTenth (beginTenth s).overrunDue .drum s)

/-- SEGMENT_END (06 R100). -/
def execSegmentEnd (s : State) : Host.Outcome State Fault Refusal :=
  done (dueTenth s.walkerCounted.segmentDue .walker s)

/-- EARLY_END (06 R107). -/
def execEarlyEnd (s : State) : Host.Outcome State Fault Refusal := done (dueTenth s.walkerCounted.earlyDue .walker s)

/-- TANGLE: the second expiry that detects a tangle (06 R105, R106). -/
def execTangle (s : State) : Host.Outcome State Fault Refusal :=
  done (dueTenth (s.secondNext && (beginTenth s).tangleDue) .walker s)

/-- REPORT: the second expiry at which the report timer reaches its interval (11 R184). -/
def execReport (s : State) : Host.Outcome State Fault Refusal := done (dueTenth s.reportNext .report s)

/-- TIMEOUT (07 R128). -/
def execTimeout (s : State) : Host.Outcome State Fault Refusal :=
  done (dueTenth (decide (s.endNext = some .timeout)) .cycle s)

/-- DURATION (07 R129 to R131). -/
def execDuration (s : State) : Host.Outcome State Fault Refusal :=
  done (dueTenth (decide (s.endNext = some .duration)) .cycle s)

/-- COOLED (07 R130). -/
def execCooled (s : State) : Host.Outcome State Fault Refusal :=
  done (dueTenth (decide (s.endNext = some .cooled)) .cycle s)

/-- COOLDOWN_LIMIT_REACHED (08 R147). -/
def execCooldownLimitReached (s : State) : Host.Outcome State Fault Refusal := done (dueTenth s.cooldownNext .cycle s)

/-- SAMPLE_COPY: the SAMPLE at which the decimation counter reaches COPY_DECIMATION, a good SAMPLE that is no duplicate
(11 R184, 02 R30; log entry 2). -/
def execSampleCopy (payload : List Byte) (s : State) : Host.Outcome State Fault Refusal :=
  done (if samplePayloadOk payload && !s.duplicate payload && s.copyDue then fieldFrame ⟨0x21, payload⟩ s else s)

end Sys2Proof.Machine
end

