-- ==== Sys2Proof/Machine/Dispatch.lean ====
section
/-! DEFINITION. The dispatch: one arm per command, one direct call of its meaning. -/

namespace Sys2Proof.Machine

def exec (i : Instr) (s : State) : Host.Outcome State Fault Refusal :=
  match i with
  | .reset rateselHigh => Sys2Proof.Machine.execReset rateselHigh s
  | .sample payload => Sys2Proof.Machine.execSample payload s
  | .badFrame port => Sys2Proof.Machine.execBadFrame port s
  | .interByteGapExpiry port => Sys2Proof.Machine.execInterByteGapExpiry port s
  | .fieldOtherFrame kind payload => Sys2Proof.Machine.execFieldOtherFrame kind payload s
  | .keepalive => Sys2Proof.Machine.execKeepalive s
  | .lateBreach => Sys2Proof.Machine.execLateBreach s
  | .requestArrival kind payload => Sys2Proof.Machine.execRequestArrival kind payload s
  | .unknownRequest kind payload => Sys2Proof.Machine.execUnknownRequest kind payload s
  | .programWrite index data => Sys2Proof.Machine.execProgramWrite index data s
  | .patternWrite index data => Sys2Proof.Machine.execPatternWrite index data s
  | .curveWrite index data => Sys2Proof.Machine.execCurveWrite index data s
  | .limitsWrite index data => Sys2Proof.Machine.execLimitsWrite index data s
  | .actionsWrite index data => Sys2Proof.Machine.execActionsWrite index data s
  | .configWrite index data => Sys2Proof.Machine.execConfigWrite index data s
  | .electrodeBurstWrite value => Sys2Proof.Machine.execElectrodeBurstWrite value s
  | .electrodeTrimWrite value => Sys2Proof.Machine.execElectrodeTrimWrite value s
  | .shortLimitWrite value => Sys2Proof.Machine.execShortLimitWrite value s
  | .linkErrLimitWrite value => Sys2Proof.Machine.execLinkErrLimitWrite value s
  | .keepaliveUpperWrite value => Sys2Proof.Machine.execKeepaliveUpperWrite value s
  | .keepaliveLowerWrite value => Sys2Proof.Machine.execKeepaliveLowerWrite value s
  | .gapSamplesWrite value => Sys2Proof.Machine.execGapSamplesWrite value s
  | .airflowSpeedWrite value => Sys2Proof.Machine.execAirflowSpeedWrite value s
  | .coolSpeedWrite value => Sys2Proof.Machine.execCoolSpeedWrite value s
  | .copyDecimationWrite value => Sys2Proof.Machine.execCopyDecimationWrite value s
  | .reportIntervalWrite value => Sys2Proof.Machine.execReportIntervalWrite value s
  | .upstreamLevelWrite value => Sys2Proof.Machine.execUpstreamLevelWrite value s
  | .attnMaskWrite value => Sys2Proof.Machine.execAttnMaskWrite value s
  | .protectCountWrite value => Sys2Proof.Machine.execProtectCountWrite value s
  | .protectSideWrite value => Sys2Proof.Machine.execProtectSideWrite value s
  | .tableRead payload => Sys2Proof.Machine.execTableRead payload s
  | .cycleStart payload => Sys2Proof.Machine.execCycleStart payload s
  | .cyclePause payload => Sys2Proof.Machine.execCyclePause payload s
  | .cycleResume payload => Sys2Proof.Machine.execCycleResume payload s
  | .cycleAbort payload => Sys2Proof.Machine.execCycleAbort payload s
  | .faultClear payload => Sys2Proof.Machine.execFaultClear payload s
  | .statusRead payload => Sys2Proof.Machine.execStatusRead payload s
  | .trimStep payload => Sys2Proof.Machine.execTrimStep payload s
  | .limitLock payload => Sys2Proof.Machine.execLimitLock payload s
  | .limitUnlock payload => Sys2Proof.Machine.execLimitUnlock payload s
  | .upstreamFlush payload => Sys2Proof.Machine.execUpstreamFlush payload s
  | .gapExpiry => Sys2Proof.Machine.execGapExpiry s
  | .tenth => Sys2Proof.Machine.execTenth s
  | .secondExpiry => Sys2Proof.Machine.execSecondExpiry s
  | .dwellSpanEnd => Sys2Proof.Machine.execDwellSpanEnd s
  | .motorStall => Sys2Proof.Machine.execMotorStall s
  | .drumOverrun => Sys2Proof.Machine.execDrumOverrun s
  | .segmentEnd => Sys2Proof.Machine.execSegmentEnd s
  | .earlyEnd => Sys2Proof.Machine.execEarlyEnd s
  | .tangle => Sys2Proof.Machine.execTangle s
  | .report => Sys2Proof.Machine.execReport s
  | .sampleCopy payload => Sys2Proof.Machine.execSampleCopy payload s
  | .timeout => Sys2Proof.Machine.execTimeout s
  | .duration => Sys2Proof.Machine.execDuration s
  | .cooled => Sys2Proof.Machine.execCooled s
  | .cooldownLimitReached => Sys2Proof.Machine.execCooldownLimitReached s
  | .readyRise => Sys2Proof.Machine.execReadyRise s
  | .controllerTxEnd => Sys2Proof.Machine.execControllerTxEnd s
  | .driveTxEnd => Sys2Proof.Machine.execDriveTxEnd s
  | .serviceChange high => Sys2Proof.Machine.execServiceChange high s
  | .readyFall => Sys2Proof.Machine.execReadyFall s
  | .byteArrival port data parity stop => Sys2Proof.Machine.execByteArrival port data parity stop s
  | .keepaliveFormat payload => Sys2Proof.Machine.execKeepaliveFormat payload s
  | .tableWriteRefused payload => Sys2Proof.Machine.execTableWriteRefused payload s

end Sys2Proof.Machine
end

