-- ==== Sys2Proof/WellFormed.lean ====
section
/-! DEFINITION. Which commands are well formed: the operands that the row's own description asks for. A command that
is not well formed is still handled: its frame is treated as the rules treat that frame (log entry 12). -/

namespace Sys2Proof

/-- CONFIG indices whose write has a row of its own in the table. -/
def ownWriteRow : List Nat := [0, 2, 3, 8, 13, 20, 21, 22, 23, 24, 25, 26, 27, 28, 29]

/-- A TABLE_WRITE that check 1 or check 2 of 10 R170 refuses. -/
def tableWriteRefusedForm (p : List Byte) : Bool :=
  decide (p.length < 3) || decide (16 < p.length) || (p.headD 0).toNat > 5

/-- Well-formed commands. -/
def Instr.wellFormed : Instr → Bool
  | .sample p | .sampleCopy p => samplePayloadOk p
  | .fieldOtherFrame k p => k.toNat != 0x21 && decide (p.length ≤ 32)
  | .requestArrival k p => !(k.toNat == 0x49 && p.isEmpty) && decide (p.length ≤ 32)
  | .unknownRequest k p => !knownRequestKind k && decide (p.length ≤ 32)
  | .keepaliveFormat p => !p.isEmpty && decide (p.length ≤ 32)
  | .tableWriteRefused p => tableWriteRefusedForm p && decide (p.length ≤ 32)
  | .configWrite i d => !ownWriteRow.contains i.toNat && decide (d.length ≤ 30)
  | .programWrite _ d | .patternWrite _ d | .curveWrite _ d | .limitsWrite _ d | .actionsWrite _ d => decide (d.length ≤ 30)
  | .tableRead p | .cycleStart p | .cyclePause p | .cycleResume p | .cycleAbort p | .faultClear p | .statusRead p
  | .trimStep p | .limitLock p | .limitUnlock p | .upstreamFlush p => decide (p.length ≤ 32)
  | .reset _ | .badFrame _ | .interByteGapExpiry _ | .keepalive | .lateBreach
  | .electrodeBurstWrite _ | .electrodeTrimWrite _ | .shortLimitWrite _ | .linkErrLimitWrite _
  | .keepaliveUpperWrite _ | .keepaliveLowerWrite _ | .gapSamplesWrite _ | .airflowSpeedWrite _ | .coolSpeedWrite _
  | .copyDecimationWrite _ | .reportIntervalWrite _ | .upstreamLevelWrite _ | .attnMaskWrite _
  | .protectCountWrite _ | .protectSideWrite _
  | .gapExpiry | .tenth | .secondExpiry | .dwellSpanEnd | .motorStall | .drumOverrun | .segmentEnd | .earlyEnd
  | .tangle | .report | .timeout | .duration | .cooled | .cooldownLimitReached
  | .readyRise | .controllerTxEnd | .driveTxEnd | .serviceChange _ | .readyFall | .byteArrival _ _ _ _ => true

end Sys2Proof
end

