-- ==== Sys2Proof/Safety.lean ====
section
/-! DEFINITION. The terms that claims use: the laws that a good state keeps, and the state in which a request is
answered with nothing else going on. -/

namespace Sys2Proof.Machine

/-! ### Laws of a good state -/

/-- The level flag and ATTN stand as worked out (11 R185, R186). -/
def State.settled (s : State) : Prop := s.refresh = s

/-- The heat law: the commanded level is at most the permitted level (04 R63). -/
def State.heatLaw (s : State) : Prop := s.heater.commanded.code ≤ s.permitted.code

/-- The effective action is the highest held by a record that is ACTIVE or LATCHED (09 R159), and under SAFE_STOP the
cycle is HALTED (08 R148). -/
def State.actionLaw (s : State) : Prop :=
  s.faults.effective = s.highestAction ∧ (s.faults.effective = .safeStop → s.cycle.state = .halted)

/-- A record is ACTIVE exactly while its condition is present (09 R157), and no action lies below its source's floor
(09 R161). -/
def State.recordLaw (s : State) : Prop :=
  ∀ x : Source, (s.present x = true ↔ (s.record x).state = .active) ∧ x.row.floor.code ≤ (s.action x).code

/-- EVENT frames of a queue. -/
def eventFrames (q : List UpFrame) : List UpFrame := q.filter fun f => decide (f.kind = .event)

/-- The upstream queue holds at most 16 frames, at most 15 of them EVENT frames, and the dropped count at most 65535
(11 R181). -/
def State.queueLaw (s : State) : Prop :=
  s.upstream.queue.length ≤ 16 ∧ (eventFrames s.upstream.queue).length ≤ 15 ∧ s.upstream.dropped ≤ 65535

/-- The event list holds at most 15 ordinary entries and one OVERFLOW entry, and no two of one kind and argument
(11 R183); entries wait only while the queue holds 15 or 16 kept frames (11 R182, R186). -/
def State.eventLaw (s : State) : Prop :=
  s.upstream.events.length ≤ 16 ∧ ordinaryCount s.upstream.events ≤ 15 ∧
  (s.upstream.events.map fun e => (e.kind, e.arg)).Nodup ∧
  (∀ e ∈ s.upstream.events, e.kind = .overflow → e.arg = 0) ∧
  (s.upstream.events ≠ [] → 15 ≤ keptCount s.upstream.queue)

/-- Every CONFIG parameter lies in its range (10 R174), ELECTRODE_BURST is 4 or 8 (03 R53), and an enabled keepalive
window has its lower bound below its upper (01 R12). -/
def State.paramLaw (s : State) : Prop :=
  (∀ p : Param, p.row.lo ≤ s.param p ∧ s.param p ≤ p.row.hi) ∧
  (s.param .electrodeBurst = 4 ∨ s.param .electrodeBurst = 8) ∧
  (s.param .keepaliveUpper ≠ 0 → s.param .keepaliveLower < s.param .keepaliveUpper)

/-- What the drum state says of direction, setpoint, target speed and counts (05 R75, R86, R88, R83). -/
def Drum.shape (d : Drum) : Prop :=
  match d.state with
  | .stopped => d.dir = .stop ∧ d.setpoint = 0 ∧ d.target = 0 ∧ d.spinup = none ∧ d.coast = none ∧ d.dwell = none
  | .ramp => d.dir ≠ .stop ∧ d.spinup ≠ none ∧ d.coast = none ∧ d.dwell = none
  | .turning => d.dir ≠ .stop ∧ d.setpoint = d.target ∧ d.spinup = none ∧ d.coast = none ∧ d.dwell = none
  | .decel => d.dir ≠ .stop ∧ d.target = 0 ∧ d.spinup = none ∧ d.coast ≠ none ∧ d.dwell = none
  | .dwell => d.dir = .stop ∧ d.setpoint = 0 ∧ d.target = 0 ∧ d.spinup = none ∧ d.coast = none ∧ d.dwell ≠ none

/-- A demand that the part can make: a walker's RUN names a direction. -/
def Demand.sound : Demand → Prop
  | .stop => True
  | .override _ => True
  | .walkerRun d _ => d ≠ .stop
  | .walkerPause _ => True

/-- The drum's law: its shape, a sound winner (05 R75, R77), and nothing left over from a SAMPLE's work (log entries 6
and 21). -/
def State.drumLaw (s : State) : Prop :=
  s.drum.shape ∧ s.drum.winner.sound ∧ s.aux.drumDeferred = false ∧ s.aux.deferred = [] ∧
  s.aux.airflowWaits = false

/-- The walker's law: its untangle block is that of the current phase record (06 R97), a running pass has its block and
its return index, and no early end is pending within a pass (06 R105, R108). -/
def State.walkerLaw (s : State) : Prop :=
  s.walker.untangle = s.cycle.record.untangle.map untangleBase ∧
  (s.walker.pass = true → s.walker.untangle ≠ none ∧ s.walker.ret ≠ none ∧ s.walker.early = false)

/-- The demand law: the winner is the one that 05 R77 selects, a drum in RAMP or TURNING runs as it asks, and a STOPPED
drum has the winner STOP (05 R75, R78). -/
def State.demandLaw (s : State) : Prop :=
  s.drum.winner = s.selectDemand ∧
  match s.drum.state with
  | .ramp => s.drum.winner.run? = some (s.drum.dir, s.drum.target)
  | .turning => s.drum.winner.run? = some (s.drum.dir, s.drum.target)
  | .stopped => s.drum.winner = .stop
  | .decel => True
  | .dwell => True

/-- The walk's law: while a cycle is ACTIVE or SUSPENDED, the current phase record is one of the program's, every phase of
the program has an entry to run in each of its windows (07 R119, R120; 10 R172), the main window is that of the record
(06 R97), and the current index, with the return index of a pass, is that of an entry to run (06 R98, R108); the walker
holds the drum whenever the third line of 05 R77 applies. -/
def State.walkLaw (s : State) : Prop :=
  (s.walkerTurn = true → s.holds = true) ∧
  (s.cycle.state = .active ∨ s.cycle.state = .suspended →
    (s.cycle.phase, s.cycle.record) ∈ s.programPhases s.cycle.slot ∧
    (∀ x ∈ s.programPhases s.cycle.slot, s.windowsFilled x.2 = true) ∧
    ∃ w i, w = windowOf s.cycle.record.start s.cycle.record.wrap ∧ s.walker.main = some w ∧
      s.walker.index = some i ∧ s.usable i = true ∧
      (s.walker.pass = false → w.base ≤ i ∧ i < w.base + w.size) ∧
      (∀ r, s.walker.pass = true → s.walker.ret = some r →
        s.usable r = true ∧ w.base ≤ r ∧ r < w.base + w.size))

/-- The estimator's ranges (03 R38, R40, R42, R45): the streak is bounded by the phase's confirm count. -/
def State.moistureLaw (s : State) : Prop :=
  s.moisture.w16 ≤ 16000 ∧ s.moisture.streak ≤ s.cycle.record.confirm ∧
  s.moisture.allShort ≤ s.param .shortLimit ∧ s.moisture.ring.length ≤ 16

/-! ### Tenths and their outcomes -/

/-- The sample path after a tenth: the time base one higher, all else as before (02 R24). -/
def State.pathAfterTenth (s : State) : SamplePath := { s.path with timeBase := s.path.timeBase + 1, millis := 0 }

/-- What no tenth moves: the time base has risen, and the tables, limits, actions, queues of the links, contact runs and
the estimator's sample counts are as before. -/
def State.tenthFrame (s t : State) : Prop :=
  t.path = s.pathAfterTenth ∧ t.tables = s.tables ∧ t.faults.limits = s.faults.limits ∧
  t.faults.actions = s.faults.actions ∧
  t.links = { s.links with keepalive := t.links.keepalive, controllerTx := t.links.controllerTx } ∧
  t.heater.wanted = s.heater.wanted ∧ t.heater.lastUp = s.heater.lastUp ∧ t.heater.refH1 = s.heater.refH1 ∧
  t.heater.refH2 = s.heater.refH2 ∧ t.heater.h1 = s.heater.h1 ∧ t.heater.h2 = s.heater.h2 ∧
  t.moisture.w16 = s.moisture.w16 ∧ t.moisture.allShort = s.moisture.allShort ∧ t.moisture.hits = s.moisture.hits

/-- What no event of the field port moves: tables, limits, actions, and the controller port but for its transmitter. -/
def State.fieldFrameLeaves (s t : State) : Prop :=
  t.tables = s.tables ∧ t.faults.limits = s.faults.limits ∧ t.faults.actions = s.faults.actions ∧
  t.links =
    { s.links with
      fieldRx := t.links.fieldRx, fieldBad := t.links.fieldBad, fieldTx := t.links.fieldTx,
      controllerTx := t.links.controllerTx }

/-- The coming tenth brings no keepalive breach, no phase end and no second of COOLDOWN. -/
def State.quietTenth (s : State) : Prop :=
  s.lateDue = false ∧ (s.secondNext = true → s.endNext = none ∧ s.cycle.state ≠ .cooldown)

/-- The coming tenth brings no end of a span or a segment and no limit: the keepalive window, phase and cooldown are
quiet, no count of the drum reaches its length or its limit (05 R83, R86, R88), and the walker's segment neither
completes its length nor ends tangled (06 R100, R105, R107). -/
def State.plainTenth (s : State) : Prop :=
  s.quietTenth ∧
  (s.drum.state = .dwell → s.drum.dwell.getD 0 + 1 < s.dwellSpan) ∧
  (s.drum.state = .ramp → s.drum.spinup.getD 0 + 1 < 10 * s.param .spinupLimit ∨ s.drum.stallMark = true) ∧
  (s.drum.state = .decel →
    s.drum.coast.getD 0 + 1 < 10 * s.param .coastLimit ∨ s.drum.overrunMark = true ∨ s.silent = true) ∧
  (s.drum.state = .turning → s.holds = true →
    satSucc 2550 s.walker.turning < s.segmentLength ∧
    (s.walker.early = true → satSucc 2550 s.walker.turning < s.param .minTurn) ∧
    (s.secondNext = true → (beginTenth s).tangleDue = false))

/-- The walker stands at an entry of the PATTERN table, named anew and whole (06 R99). -/
def Walker.standsAt (w : Walker) (s : State) (i : Nat) : Prop :=
  w.index = some i ∧ w.segment = some (s.patternAt i) ∧ w.turning = 0 ∧ w.early = false

/-- The state that a TURNING drum takes at a new winner (05 R78). -/
def turningTakes (dir : Direction) (target : Nat) (w : Demand) : DrumState :=
  match w.run? with
  | some (d, v) => if d = dir then if v = target then .turning else .ramp else .decel
  | none => .decel

/-- The tangled segment at an index of the walk has ended: a phase with an untangle block runs a pass of at most four
positions from its start, with the next main entry as return index; any other phase goes on with that entry. The drum
has taken what the walker names (06 R107, R108; 05 R78). -/
def State.endsTangled (s : State) (i : Nat) (t : State) : Prop :=
  ∃ j, t.walker.standsAt s j ∧ t.drum.winner = (s.patternAt j).demand ∧
    t.drum.state = turningTakes s.drum.dir s.drum.target (s.patternAt j).demand ∧
    match s.cycle.record.untangle with
    | none => j = s.nextMain i ∧ t.walker.pass = false
    | some u =>
      match passFind s (untangleBase u) 4 u with
      | some (k, r) =>
        j = k ∧ t.walker.pass = true ∧ t.walker.remaining = r ∧ t.walker.ret = some (s.nextMain i) ∧ t.walker.score = 0
      | none => j = s.nextMain i ∧ t.walker.pass = false

/-- The walker has named the entry at an index, whole, and a STOPPED drum has taken it: RAMP from setpoint 0 for a RUN, DWELL
for a PAUSE (05 R77 to R79, R83; 06 R99, R102). -/
def State.startsDrum (s : State) (i : Nat) (t : State) : Prop :=
  t.walker.standsAt s i ∧ t.drum.winner = (s.patternAt i).demand ∧ t.drum.setpoint = 0 ∧
  match (s.patternAt i).demand with
  | .walkerRun d v => t.drum.state = .ramp ∧ t.drum.dir = d ∧ t.drum.target = v ∧ t.drum.spinup = some 0
  | .walkerPause _ => t.drum.state = .dwell ∧ t.drum.dir = .stop ∧ t.drum.dwell = some 0
  | .stop | .override _ => False

/-- After a phase end: the next phase of the run list has begun, or the cycle is no longer ACTIVE (07 R132). -/
def movedOn (s t : State) : Prop :=
  match s.nextPhase? with
  | some (p, r) => t.cycle.phase = p ∧ t.cycle.record = r ∧ t.cycle.elapsed = 0 ∧ t.cycle.settle = 0
  | none => t.cycle.state ≠ .active ∧ t.cycle.phase = s.cycle.phase ∧ t.cycle.record = s.cycle.record

/-- A good SAMPLE that is no duplicate (01 R5, 02 R15). -/
def State.accepts (s : State) (p : List Byte) : Prop :=
  samplePayloadOk p = true ∧ s.path.lastSeq ≠ some (byteAt p 0)

/-- One stage's runs and flags after an outcome: its own run rises to at most 5 and the others return to 0; a fault run
of 5 sets its flag, an agreement run of 5 clears both (04 R70 to R72). -/
def Feedback.follows (f g : Feedback) (ref closed : Bool) : Prop :=
  (ref = closed →
    g.agree = min 5 (f.agree + 1) ∧ g.noClose = 0 ∧ g.weld = 0 ∧
    (g.noCloseFlag = true ↔ f.noCloseFlag = true ∧ f.agree + 1 < 5) ∧
    (g.weldFlag = true ↔ f.weldFlag = true ∧ f.agree + 1 < 5)) ∧
  (ref = true ∧ closed = false →
    g.noClose = min 5 (f.noClose + 1) ∧ g.agree = 0 ∧ g.weld = 0 ∧ g.weldFlag = f.weldFlag ∧
    (g.noCloseFlag = true ↔ f.noCloseFlag = true ∨ 5 ≤ f.noClose + 1)) ∧
  (ref = false ∧ closed = true →
    g.weld = min 5 (f.weld + 1) ∧ g.agree = 0 ∧ g.noClose = 0 ∧ g.noCloseFlag = f.noCloseFlag ∧
    (g.weldFlag = true ↔ f.weldFlag = true ∨ 5 ≤ f.weld + 1))

/-- A threshold condition after a SAMPLE: a valid reading raises it at the threshold and clears it at the restore value,
any other reading leaves it (09 R154). -/
def thresholdAfter (before : Bool) (limit : LimitEntry) (t : Temperature) : Bool :=
  if t.valid = false then before
  else if before = true then decide (limit.restore < t.value)
  else decide (limit.high ≤ t.value)

/-- The commands that a SAMPLE can come with; an ill-formed FIELD_OTHER_FRAME of KIND 21h is one (log entry 12). -/
def bringsSample : Instr → Prop
  | .sample _ | .sampleCopy _ | .byteArrival .field _ _ _ => True
  | .fieldOtherFrame kind _ => kind = 0x21
  | _ => False

/-- The state at the acceptance of a SAMPLE, before any block's work on it (01 R7; 02 R22; 03 R31). -/
def State.accepting (s : State) (p : List Byte) : State := beginSample p (goodFrame .field s).dropChoice

/-- A state at the acceptance of a SAMPLE at which the estimator signals DRY: it runs on a frame that is not all-short, in
HEAT_TO_DRY, and stage 6 leaves the streak at the confirm count (03 R31, R37, R42, R43). -/
def State.signalsDry (a : State) : Prop :=
  a.cycle.state = .active ∧ a.drum.state = .turning ∧ a.walker.pass = false ∧ a.cycle.record.kind = .heatToDry ∧
  (∃ e ∈ a.electrodes, e ≠ 4095) ∧ a.nextStreak = a.cycle.record.confirm

/-! ### Events that a command tells (11 R182, R183) -/

/-- With nothing waiting, READY low and at most `room` frames in the queue, the events of a list have joined the upstream
queue in their order, each with count 1. -/
def State.tells (s : State) (room : Nat) (t : State) (l : List (EventKind × Nat)) : Prop :=
  s.upstream.events = [] → s.links.ready = false → s.upstream.queue.length ≤ room →
    (l.map fun e => (⟨.event, [byteOf e.1.code, byteOf e.2, 1]⟩ : UpFrame)).Sublist
      (t.upstream.queue.drop s.upstream.queue.length)

/-- The events of a phase end with a reason, at which the NOT_DRY flag stands as given: PHASE_END, then PHASE_BEGIN of the
next phase of the run list, or CYCLE_DONE with NOT_DRY (2), DRY (1) or TIMED (3) by the flags (07 R132 to R134). -/
def State.endEvents (s : State) (reason : Nat) (notDry : Bool) : List (EventKind × Nat) :=
  [(.phaseEnd, reason),
   match s.nextPhase? with
   | some (p, _) => (.phaseBegin, p)
   | none => (.cycleDone, if notDry then 2 else if s.cycle.drySeen then 1 else 3)]

/-! ### The safety set (10 R175) -/

/-- Two states agree on every entry that the safety set of the first holds. -/
def sameSafetySet (s t : State) : Prop :=
  t.faults.limits = s.faults.limits ∧ t.faults.actions = s.faults.actions ∧
  (∀ p : Param, p.row.safety = true → t.param p = s.param p) ∧
  ∀ i : Nat, s.slotProtected (i / 8) = true → t.programAt i = s.programAt i

/-! ### A request and its answer (01 R6, R7, R10; 10 R168) -/

/-- A request that arrives now is taken at once, and its RESPONSE joins: the receive queue is empty, no request is in
progress, and the upstream queue, which holds at most 16 frames, can accept a response (10 R168, R169; 11 R181). An event
that the request raises before its RESPONSE then leaves room for it (11 R182). -/
def State.serves (s : State) : Prop :=
  s.links.receiveQueue = [] ∧ s.tables.inProgress = none ∧ s.upstream.canAccept = true ∧ s.upstream.queue.length ≤ 16

/-- A request that arrives now is taken at once, and its frame brings nothing but itself: neither the CONTROLLER_LINK nor
the KEEPALIVE condition is there to go. -/
def State.quiet (s : State) : Prop := s.serves ∧ s.present .controllerLink = false ∧ s.present .keepalive = false

/-- The keepalive window after a frame that enters the receive queue (01 R10, R11). -/
def State.heardKeepalive (s : State) : Keepalive :=
  if s.param .keepaliveUpper = 0 ∨ s.param .keepaliveLower ≠ 0 then s.links.keepalive
  else if s.links.keepalive.running = true ∧ s.links.keepalive.timer < s.param .keepaliveUpper then ⟨0, true, .none⟩
  else ⟨0, true, s.links.keepalive.cause⟩

/-- The state once the frame has been heard on the controller port: the receiver in HUNT, the bad-frame counter one
lower, the keepalive window restarted where the frame restarts it; all else as before. -/
def State.heard (s : State) : State :=
  s.setLinks
    { s.links with
      controllerRx := .idle, controllerBad := s.links.controllerBad - 1, keepalive := s.heardKeepalive }

/-- The request has been answered: its RESPONSE has joined the upstream queue of the state its action left. -/
def answered (kind : Byte) (r : Reply) (u : State) : State := (joinQueue (responseFrame kind r) u).refresh

/-- The RESPONSE stands in the upstream queue, or in the transmitter when it could leave at once (01 R9, 10 R168). -/
def replied (kind : Byte) (r : Reply) (t : State) : Prop :=
  responseFrame kind r ∈ t.upstream.queue ∨
  t.links.controllerTx = some (lineBytes 0x54 (kind :: byteOf r.result.code :: r.data))

/-- What no request moves: the sample path, the limits, the contact runs and the reference DRIVE, and the links beyond
the hearing of its frame and the transmitter. -/
def State.requestFrame (s t : State) : Prop :=
  t.path = s.path ∧ t.faults.limits = s.faults.limits ∧
  t.links = { s.heard.links with controllerTx := t.links.controllerTx } ∧
  t.heater.h1 = s.heater.h1 ∧ t.heater.h2 = s.heater.h2 ∧ t.heater.refH1 = s.heater.refH1 ∧
  t.heater.refH2 = s.heater.refH2 ∧ t.heater.lastUp = s.heater.lastUp

/-- The row of the table that writes one entry of a table. -/
def writeRow : TableId → Byte → List Byte → Instr
  | .program, i, d => .programWrite i d
  | .pattern, i, d => .patternWrite i d
  | .curve, i, d => .curveWrite i d
  | .limits, i, d => .limitsWrite i d
  | .actions, i, d => .actionsWrite i d
  | .config, i, d => .configWrite i d

/-- The row of the table that writes a CONFIG parameter: its own row, or CONFIG_WRITE. -/
def paramRow (p : Param) (v : Half) : Instr :=
  match p with
  | .electrodeBurst => .electrodeBurstWrite v
  | .electrodeTrim => .electrodeTrimWrite v
  | .shortLimit => .shortLimitWrite v
  | .airflowSpeed => .airflowSpeedWrite v
  | .coolSpeed => .coolSpeedWrite v
  | .gapSamples => .gapSamplesWrite v
  | .linkErrLimit => .linkErrLimitWrite v
  | .keepaliveUpper => .keepaliveUpperWrite v
  | .keepaliveLower => .keepaliveLowerWrite v
  | .copyDecimation => .copyDecimationWrite v
  | .reportInterval => .reportIntervalWrite v
  | .upstreamLevel => .upstreamLevelWrite v
  | .attnMask => .attnMaskWrite v
  | .protectCount => .protectCountWrite v
  | .protectSide => .protectSideWrite v
  | p => .configWrite (byteOf p.row.index.val) (bytesOfHalf v)

/-- The row of the table that a frame of a request KIND is (01 R6, Request payloads); a KEEPALIVE in the receive queue has a
LEN other than 0. -/
def requestRow (kind : Byte) (payload : List Byte) : Instr :=
  match kind.toNat with
  | 0x41 =>
    match payload with
    | id :: index :: data =>
      match TableId.ofCode? id.toNat with
      | some t => if tableWriteRefusedForm payload then .tableWriteRefused payload else writeRow t index data
      | none => .tableWriteRefused payload
    | _ => .tableWriteRefused payload
  | 0x42 => .tableRead payload
  | 0x43 => .cycleStart payload
  | 0x44 => .cyclePause payload
  | 0x45 => .cycleResume payload
  | 0x46 => .cycleAbort payload
  | 0x47 => .faultClear payload
  | 0x48 => .statusRead payload
  | 0x49 => .keepaliveFormat payload
  | 0x4A => .trimStep payload
  | 0x4B => .limitLock payload
  | 0x4C => .limitUnlock payload
  | 0x4D => .upstreamFlush payload
  | _ => .unknownRequest kind payload

/-- The CONFIG parameters that do more at a write than take effect at their next use (10 R171). -/
def Param.actsAtOnce : Param → Bool
  | .shortLimit | .airflowSpeed | .coolSpeed | .linkErrLimit | .keepaliveUpper | .keepaliveLower | .copyDecimation
  | .reportInterval => true
  | _ => false

/-! ### Frames byte by byte (01 R1 to R3) -/

/-- The parity bit that a byte is sent with (01 R1). -/
def parityBit (b : Byte) : Bool := !evenParity b false

/-- Bytes arrive on a port one after another, each with its parity bit and a high stop bit. -/
def feed (p : Port) : List Byte → State → Host.Outcome State Fault Refusal
  | [], s => .next s
  | b :: bs, s =>
    match exec (.byteArrival p b (parityBit b) true) s with
    | .next t => feed p bs t
    | .fault r => .fault r
    | .refused r => .refused r

/-- The command that a complete frame on a port is. -/
def frameCommand (p : Port) (f : Frame) : Instr :=
  match p with
  | .field => if f.kind = 0x21 then .sample f.payload else .fieldOtherFrame f.kind f.payload
  | .controller => .requestArrival f.kind f.payload

end Sys2Proof.Machine
end

