-- ==== Sys2Proof/Certificates/Slice0/Obligations.lean ====
section
/-! DEFINITION. The statements for the provers. Each is about every state that meets its hypotheses, whichever order the
model's own tape of orders gives (log entry 5). -/

open Sys2Proof Sys2Proof.Machine

/-! ### The step -/

/-- One step with a command at the front is that command on the state with the rest of the queue (the model's form of a
step, log entry 4). -/
def Obligations.StepRunsFrontCommand : Prop :=
  ∀ (c : Instr) (rest : List Instr) (s : State), step { s with pending := c :: rest } = exec c { s with pending := rest }

/-- With no command waiting a step is one millisecond (log entry 4). Between frames: short of both spans the gap timer and
the tenth's milliseconds rise by 1 and nothing else moves; a millisecond that completes the gap span is GAP_EXPIRY with
the tenth's millisecond on top, one that completes the tenth is TENTH with the gap timer's millisecond on top, and one
that completes both brings both, in the order of the event (log entry 5): the tenth is not counted for a DWELL that the
silence begins. A receiver that was not in HUNT has met its inter-byte gap before the rest (02 R24, R26, R27; 01 R4;
05 R83). -/
def Obligations.IdleStepIsOneMillisecond : Prop :=
  ∀ s : State, s.pending = [] →
    (s.links.fieldRx.state = .hunt → s.links.controllerRx.state = .hunt →
      (s.path.gapMillis + 1 < s.path.gapSpan → s.path.millis + 1 < 100 →
        step s =
          .next (s.setPath { s.path with gapMillis := s.path.gapMillis + 1, millis := s.path.millis + 1 }).refresh) ∧
      (s.path.gapSpan ≤ s.path.gapMillis + 1 → s.path.millis + 1 < 100 →
        ∃ t, exec .gapExpiry s = .next t ∧ step s = .next (t.setPath { t.path with millis := s.path.millis + 1 })) ∧
      (s.path.gapMillis + 1 < s.path.gapSpan → 100 ≤ s.path.millis + 1 →
        ∃ t, exec .tenth s = .next t ∧ step s = .next (t.setPath { t.path with gapMillis := s.path.gapMillis + 1 })) ∧
      (s.path.gapSpan ≤ s.path.gapMillis + 1 → 100 ≤ s.path.millis + 1 →
        ∃ t, step s = .next t ∧ t.silent = true ∧
          t.path =
            { s.path with
              timeBase := s.path.timeBase + 1, millis := 0, gapMillis := 0, gapSpan := 10 * s.param .gapSamples } ∧
          (s.paramLaw → s.drumLaw → s.demandLaw → s.silent = false → s.drum.state = .ramp → s.atRest = true →
            t.drum.state = .dwell ∧ t.drum.dwell = some 0))) ∧
    ∃ t u, exec (.interByteGapExpiry .field) s = .next t ∧ exec (.interByteGapExpiry .controller) t = .next u ∧
      u.links.fieldRx.state = .hunt ∧ u.links.controllerRx.state = .hunt ∧
      (s.path.millis + 1 < 100 → step s = step u)

/-- Every command on every state answers a next state, which has the queue of commands it was given; its level flag is
set while the queue holds more frames than UPSTREAM_LEVEL, and ATTN is high while a term that ATTN_MASK enables holds:
bit 0 a waiting event, bit 1 the level flag, bit 2 a record that is ACTIVE or LATCHED at HEAT_OFF or higher
(11 R185, R186). -/
def Obligations.EveryCommandAnswersNextSettled : Prop :=
  ∀ (c : Instr) (s : State), ∃ t, exec c s = .next t ∧ t.pending = s.pending ∧ t.settled ∧
    (t.upstream.levelFlag = true ↔ t.param .upstreamLevel < t.upstream.queue.length) ∧
    (t.upstream.attn = true ↔
      ((t.param .attnMask).testBit 0 = true ∧ t.upstream.events ≠ []) ∨
      ((t.param .attnMask).testBit 1 = true ∧ t.upstream.levelFlag = true) ∨
      ((t.param .attnMask).testBit 2 = true ∧
        ∃ x : Source, (t.record x).state ≠ .clear ∧ Action.heatOff.code ≤ (t.action x).code))

/-- 11 R185. The level flag after every command follows the occupancy and UPSTREAM_LEVEL; the default is 12; a removal
and an append made at one join leave the occupancy. -/
def Obligations.LevelFlagFollowsOccupancy : Prop :=
  (∀ (c : Instr) (s t : State), exec c s = .next t →
    (t.upstream.levelFlag = true ↔ t.param .upstreamLevel < t.upstream.queue.length)) ∧
  State.reset.param .upstreamLevel = 12 ∧
  (∀ t : State, t.settled → t.param .upstreamLevel = 12 →
    (t.upstream.levelFlag = true ↔ 13 ≤ t.upstream.queue.length)) ∧
  (∀ (f : UpFrame) (s t : State), s.upstream.queue.length = 16 → t = s.setUpstream (joinTail f s.upstream) →
    t.upstream.queue.length = 16 ∧ t.refresh.upstream.levelFlag = s.refresh.upstream.levelFlag)

/-! ### Reset -/

/-- The values after a reset (01 R2, R6 to R10; 02, Reset values; 03 R55; 04 R73; 05 R95; 06 R113; 07 R136; 08 R150;
09 R167; 10 R180; 11 R187). -/
def Obligations.ResetStateHoldsTheSpecValues : Prop :=
  (Param.all.map State.reset.param =
    [8, 200, 8, 100, 40, 5, 20, 40, 300, 8, 10, 20, 20, 450, 900, 3, 6, 3, 20, 30, 5, 8, 0, 0, 0, 1, 12, 7, 0, 0, 30,
     10]) ∧
  (Source.all.map fun x => (State.reset.action x).code) = [2, 1, 2, 2, 0, 3, 4, 4, 0, 4, 0, 2, 2, 0, 2] ∧
  (∀ x, State.reset.record x = ⟨.clear, false, 0⟩ ∧ State.reset.present x = false) ∧
  (State.reset.limitAt 0 = ⟨900, 800, 1⟩ ∧ State.reset.limitAt 1 = ⟨1700, 1500, 1⟩ ∧
    State.reset.limitAt 2 = ⟨6000, 5000, 10⟩ ∧ State.reset.limitAt 3 = ⟨550, 0, 0⟩) ∧
  (∀ i, i < 128 → State.reset.programAt i = ⟨.none, 300, .l0, 0, 50, 1, 1, 0, 4, none⟩) ∧
  (∀ i, i < 32 → State.reset.patternAt i = ⟨.empty, 0, 0⟩) ∧
  (∀ i, i < 9 → State.reset.curveAt i = ⟨0, false⟩) ∧
  State.reset.tables.lock = false ∧ State.reset.tables.inProgress = none ∧
  State.reset.links.receiveQueue = [] ∧ State.reset.links.fieldTx = .idle ∧ State.reset.links.controllerTx = none ∧
  State.reset.links.fieldRx.state = .hunt ∧ State.reset.links.controllerRx.state = .hunt ∧
  State.reset.badCount .field = 0 ∧ State.reset.badCount .controller = 0 ∧
  State.reset.links.keepalive.running = false ∧ State.reset.links.keepalive.cause = .none ∧
  State.reset.path.lastSeq = none ∧ State.reset.path.missed = 0 ∧ State.reset.path.readings = none ∧
  State.reset.path.door = .isOpen ∧ State.reset.path.flags = none ∧ State.reset.path.gapMillis = 0 ∧
  State.reset.path.gapSpan = 50 ∧ State.reset.path.timeBase = 0 ∧
  State.reset.moisture = ⟨16000, 0, 0, 0, [], .l0⟩ ∧
  State.reset.heater = ⟨.l0, .l0, none, none, none, ⟨0, 0, 0, false, false⟩, ⟨0, 0, 0, false, false⟩, false, false⟩ ∧
  State.reset.drum = ⟨.stopped, .stop, 0, 0, .stop, none, none, none, none, false, false, 0, none, none⟩ ∧
  State.reset.walker = ⟨none, none, none, none, 0, false, false, 0, none, 0, 0, false⟩ ∧
  State.reset.cycle = ⟨.idle, 0, 0, ⟨.none, 300, .l0, 0, 50, 1, 1, 0, 4, none⟩, false, 0, 0, false, false, none, none⟩ ∧
  State.reset.faults.effective = .note ∧
  State.reset.upstream = ⟨[⟨.event, [0x01, 0x00, 0x01]⟩], [], 0, false, 0, 0, false⟩ ∧ State.reset.pending = []

/-- RESET gives the reset state at the rate that RATESEL selects, with the input lines, the waiting commands and the
model's own tape and counter kept (log entry 17); with READY high the POWER_UP frame is already in the transmitter. -/
def Obligations.ResetCommandGivesResetState : Prop :=
  ∀ (high : Bool) (s : State),
    (s.links.ready = false →
      exec (.reset high) s =
        .next
          { State.reset with
            pending := s.pending
            links := resetLinks (if high then .high250000 else .low115200) false s.links.service
            aux := { State.reset.aux with choices := s.aux.choices, freeCount := s.aux.freeCount } }) ∧
    (s.links.ready = true →
      exec (.reset high) s =
        .next
          { State.reset with
            pending := s.pending
            links :=
              { resetLinks (if high then .high250000 else .low115200) true s.links.service with
                controllerTx := some (lineBytes 0x53 [0x01, 0x00, 0x01]) }
            upstream := { State.reset.upstream with queue := [] }
            aux := { State.reset.aux with choices := s.aux.choices, freeCount := s.aux.freeCount } })

/-- The reset state keeps every law: flag and ATTN (11 R185, R186), heat (04 R63), actions and records (09 R157, R159,
R161; 08 R148), queue and events (11 R181 to R183), parameters (10 R174; 01 R12), drum and demand (05 R75, R77), with
nothing left over from a SAMPLE (log entries 6 and 21), walker and walk (06 R97, R98, R105, R108), and the estimator's
ranges (03 R38, R40, R42, R45). -/
def Obligations.ResetStateKeepsTheLaws : Prop :=
  State.reset.settled ∧ State.reset.heatLaw ∧ State.reset.actionLaw ∧ State.reset.recordLaw ∧ State.reset.queueLaw ∧
  State.reset.eventLaw ∧ State.reset.paramLaw ∧ State.reset.drumLaw ∧ State.reset.walkerLaw ∧
  State.reset.demandLaw ∧ State.reset.walkLaw ∧ State.reset.moistureLaw

/-! ### Links and lines -/

/-- BAD_FRAME: the receiver returns to HUNT, the port's counter rises saturating at LINK_ERR_LIMIT, and reaching it
raises the port's LINK condition; the other port's count and receiver stay; short of the limit nothing else moves.
INTER_BYTE_GAP_EXPIRY outside HUNT is the same; in HUNT no timer runs, and nothing moves (01 R2, R4, R7; log entry 3). -/
def Obligations.BadFramesAndByteGapsRaiseTheCounter : Prop :=
  ∀ (p : Port) (s : State), ∃ t, exec (.badFrame p) s = .next t ∧
    t.badCount p = min (s.badCount p + 1) (s.param .linkErrLimit) ∧ t.receiver p = .idle ∧
    t.present (Port.source p) = (s.present (Port.source p) || decide (s.param .linkErrLimit ≤ s.badCount p + 1)) ∧
    (∀ q, q ≠ p → t.badCount q = s.badCount q ∧ t.receiver q = s.receiver q) ∧
    (s.badCount p + 1 < s.param .linkErrLimit →
      t = ((s.setReceiver p .idle).setBadCount p (s.badCount p + 1)).refresh) ∧
    exec (.interByteGapExpiry p) s = if (s.receiver p).state = .hunt then .next s.refresh else .next t

/-- FIELD_OTHER_FRAME: a good frame lowers the field counter, not below 0, and FIELD_LINK goes at 0; when FIELD_LINK is
absent nothing else moves. A duplicate SAMPLE is such a good frame that no block sees, and a SAMPLE that fails the checks
of its form is a bad frame (01 R5, R7; 02 R15). -/
def Obligations.IgnoredFieldFramesAreGoodFrames : Prop :=
  (∀ (s : State) (p : List Byte),
    (samplePayloadOk p = true ↔
      p.length = 11 + 2 * (byteAt p 10).toNat ∧ ((byteAt p 10).toNat = 4 ∨ (byteAt p 10).toNat = 8)) ∧
    (samplePayloadOk p = true → s.path.lastSeq = some (byteAt p 0) →
      exec (.sample p) s = exec (.fieldOtherFrame 0x00 []) s) ∧
    (samplePayloadOk p = false → exec (.sample p) s = exec (.badFrame .field) s)) ∧
  ∀ (kind : Byte) (payload : List Byte) (s : State), kind ≠ 0x21 → payload.length ≤ 32 →
    ∃ t, exec (.fieldOtherFrame kind payload) s = .next t ∧
      t.badCount .field = s.badCount .field - 1 ∧ t.receiver .field = .idle ∧
      t.present .fieldLink = (s.present .fieldLink && decide (1 < s.badCount .field)) ∧
      (s.present .fieldLink = false →
        t = ((s.setReceiver .field .idle).setBadCount .field (s.badCount .field - 1)).refresh)

/-- BYTE_ARRIVAL moves the receiver as the table of 01 R2 says; a complete frame is the command of its port and KIND. A
byte error is a sum of data bits and parity bit that is odd, or a low stop bit. The running CRC takes a byte by
exclusive-or and shifts left eight times, with 07h combined in where the bit shifted out is 1 (01 R1, R2, R3). -/
def Obligations.ByteArrivalFollowsTheReceiverTable : Prop :=
  (∀ (b : Byte) (parity stop : Bool),
    byteError b parity stop = true ↔
      stop = false ∨ (((List.range 8).map fun i => (b.getLsbD i).toNat).sum + parity.toNat) % 2 = 1) ∧
  (∀ c b : Byte,
    crcByte c b =
      (List.range 8).foldl (fun (r : Byte) _ => if r.getLsbD 7 = true then (r <<< 1) ^^^ 0x07 else r <<< 1) (c ^^^ b)) ∧
  crcByte 0xFF 0x49 = 0x0B ∧ crcByte 0x0B 0x00 = 0x31 ∧
  ∀ (p : Port) (b : Byte) (parity stop : Bool) (s : State),
    exec (.byteArrival p b parity stop) s =
      match (s.receiver p).state with
      | .hunt =>
        if byteError b parity stop = false ∧ b = 0xC5 then .next (s.setReceiver p ⟨.kind, 0, 0, [], 0xFF, 0⟩).refresh
        else .next s.refresh
      | .kind =>
        if byteError b parity stop = true then exec (.badFrame p) s
        else
          .next (s.setReceiver p
            { s.receiver p with state := .len, kind := b, crc := crcByte (s.receiver p).crc b }).refresh
      | .len =>
        if byteError b parity stop = true ∨ 32 < b.toNat then exec (.badFrame p) s
        else
          .next (s.setReceiver p
            { s.receiver p with
              state := if b.toNat = 0 then .check else .payload, len := b.toNat, remaining := b.toNat,
              crc := crcByte (s.receiver p).crc b }).refresh
      | .payload =>
        if byteError b parity stop = true then exec (.badFrame p) s
        else
          .next (s.setReceiver p
            { s.receiver p with
              state := if (s.receiver p).remaining ≤ 1 then .check else .payload
              payload := (s.receiver p).payload ++ [b], remaining := (s.receiver p).remaining - 1,
              crc := crcByte (s.receiver p).crc b }).refresh
      | .check =>
        if byteError b parity stop = true ∨ b ≠ (s.receiver p).crc then exec (.badFrame p) s
        else exec (frameCommand p ⟨(s.receiver p).kind, (s.receiver p).payload⟩) s

/-- The bytes of a frame, sent as 01 R1 to R3 say and received one by one from HUNT, are the frame's command: assembly,
lengths and CRC agree between the two ways into the part. A frame is sent as SYNC, KIND, LEN, PAYLOAD and CHECK; CHECK is
the CRC from FFh over KIND, LEN and PAYLOAD, each byte by exclusive-or and eight shifts with 07h; each byte's parity bit
makes the sum of its bits even. -/
def Obligations.ReceivedBytesAreTheFrameCommand : Prop :=
  (∀ (kind : Byte) (payload : List Byte),
    lineBytes kind payload =
      [0xC5, kind, byteOf payload.length] ++ payload ++
        [(kind :: byteOf payload.length :: payload).foldl
          (fun (c b : Byte) =>
            (List.range 8).foldl (fun (r : Byte) _ => if r.getLsbD 7 = true then (r <<< 1) ^^^ 0x07 else r <<< 1) (c ^^^ b))
          0xFF]) ∧
  (∀ b : Byte, (((List.range 8).map fun i => (b.getLsbD i).toNat).sum + (parityBit b).toNat) % 2 = 0) ∧
  ∀ (p : Port) (f : Frame) (s : State), f.payload.length ≤ 32 → s.receiver p = .idle → s.settled →
    feed p (lineBytes f.kind f.payload) s = exec (frameCommand p f) s

/-- KEEPALIVE with LEN 0 acts on the window by 01 R10 and R11, and enters no queue; it is a good frame, so the controller
port's counter falls and CONTROLLER_LINK goes at 0 (01 R6, R7). LATE_BREACH: at the tenth at which the running timer
reaches KEEPALIVE_UPPER, it stops there with cause LATE and the KEEPALIVE condition is present; when the coming tenth
does not reach it, the command is no event (01 R11; log entry 2). -/
def Obligations.KeepaliveFramesAndBreachesMoveTheWindow : Prop :=
  ∀ s : State,
    (∃ t, exec .keepalive s = .next t ∧ t.links.receiveQueue = s.links.receiveQueue ∧
      t.badCount .controller = s.badCount .controller - 1 ∧ t.receiver .controller = .idle ∧
      t.present .controllerLink = (s.present .controllerLink && decide (1 < s.badCount .controller)) ∧
      (t.links.keepalive, t.present .keepalive) =
        if s.param .keepaliveUpper = 0 then (s.links.keepalive, s.present .keepalive)
        else if s.links.keepalive.timer < s.param .keepaliveLower then (⟨0, true, .early⟩, true)
        else if s.links.keepalive.running = true ∧ s.links.keepalive.timer < s.param .keepaliveUpper then
          (⟨0, true, .none⟩, false)
        else (⟨0, true, s.links.keepalive.cause⟩, s.present .keepalive)) ∧
    (s.links.keepalive.running = true → s.param .keepaliveUpper ≤ s.links.keepalive.timer + 1 →
      ∃ t, exec .lateBreach s = .next t ∧ t.links.keepalive = ⟨s.param .keepaliveUpper, false, .late⟩ ∧
        t.present .keepalive = true ∧ s.tenthFrame t) ∧
    (s.links.keepalive.running = false ∨ s.links.keepalive.timer + 1 < s.param .keepaliveUpper →
      exec .lateBreach s = .next s.refresh)

/-- The upstream queue and the event list. A frame joins the tail; at a full queue the oldest displaceable frame is
removed, the others keeping their order, and counted as dropped; a frame that finds only kept frames is discarded and
counted. A raised event merges with the entry of its kind and argument, joins the list, or is counted in OVERFLOW; then
entries move into the queue, oldest first, while there is room and at most 15 kept frames stand after the move
(11 R181 to R183). -/
def Obligations.QueueAndEventListKeepTheirOrder : Prop :=
  (∀ f : UpFrame, f.displaceable = true ↔ f.kind = .sampleCopy ∨ f.kind = .report) ∧
  (∀ (f : UpFrame) (u : Upstream),
    (u.queue.length < 16 → joinTail f u = { u with queue := u.queue ++ [f] }) ∧
    (∀ (a b : List UpFrame) (d : UpFrame), 16 ≤ u.queue.length → u.queue = a ++ d :: b →
      (∀ x ∈ a, x.displaceable = false) → d.displaceable = true →
      joinTail f u = { u with queue := a ++ b ++ [f], dropped := min 65535 (u.dropped + 1) }) ∧
    (16 ≤ u.queue.length → (∀ x ∈ u.queue, x.displaceable = false) →
      joinTail f u = { u with dropped := min 65535 (u.dropped + 1) })) ∧
  (∀ (k : EventKind) (arg : Nat) (l : List EventEntry),
    (∀ (a b : List EventEntry) (n : Nat), l = a ++ ⟨k, arg, n⟩ :: b → (∀ e ∈ a, ¬(e.kind = k ∧ e.arg = arg)) →
      addEvent k arg l = a ++ ⟨k, arg, min 255 (n + 1)⟩ :: b) ∧
    ((∀ e ∈ l, ¬(e.kind = k ∧ e.arg = arg)) →
      ((l.filter fun e => decide (e.kind ≠ .overflow)).length < 15 → addEvent k arg l = l ++ [⟨k, arg, 1⟩]) ∧
      (15 ≤ (l.filter fun e => decide (e.kind ≠ .overflow)).length →
        (∀ (a b : List EventEntry) (n : Nat), l = a ++ ⟨.overflow, 0, n⟩ :: b →
          (∀ e ∈ a, ¬(e.kind = .overflow ∧ e.arg = 0)) →
          addEvent k arg l = a ++ ⟨.overflow, 0, min 255 (n + 1)⟩ :: b) ∧
        ((∀ e ∈ l, ¬(e.kind = .overflow ∧ e.arg = 0)) → addEvent k arg l = l ++ [⟨.overflow, 0, 1⟩])))) ∧
  (∀ (e : EventEntry) (es : List EventEntry) (u : Upstream),
    moveEntries (e :: es) u =
      if (u.queue.length < 16 ∨ ∃ f ∈ u.queue, f.displaceable = true) ∧
          (u.queue.filter fun f => decide (f.displaceable = false)).length + 1 ≤ 15 then
        moveEntries es (joinTail ⟨.event, [byteOf e.kind.code, byteOf e.arg, byteOf e.count]⟩ u)
      else { u with events := e :: es }) ∧
  (∀ u : Upstream, moveEntries [] u = { u with events := [] }) ∧
  (∀ (k : EventKind) (arg : Nat) (s : State), s.links.ready = false →
    raiseEvent k arg s =
      s.setUpstream
        (moveEntries (addEvent k arg s.upstream.events)
          { s.upstream with events := addEvent k arg s.upstream.events }))

/-- REQUEST_ARRIVAL: at a full receive queue the frame is a bad frame; with room, and no way to take a request, it is
appended and waits, is a good frame for the controller port's counter and CONTROLLER_LINK, and restarts the keepalive
window while KEEPALIVE_LOWER is off, within which KEEPALIVE goes. It is in every state the same as the row of its KIND and
payload (log entry 1), and where a request can be taken at once, with at most 16 frames in the upstream queue, it is taken
and answered with its KIND; the counter then stands one lower, and within the new LINK_ERR_LIMIT where the request is a
TABLE_WRITE of that parameter (01 R6, R7, R10, R11; 10 R168, R169; 11 R181). -/
def Obligations.RequestArrivalQueuesOrIsDiscarded : Prop :=
  ∀ (kind : Byte) (payload : List Byte) (s : State), payload.length ≤ 32 → ¬(kind = 0x49 ∧ payload = []) →
    exec (.requestArrival kind payload) s = exec (requestRow kind payload) s ∧
    (s.serves →
      ∃ t r, exec (.requestArrival kind payload) s = .next t ∧ replied kind r t ∧ t.links.receiveQueue = [] ∧
        t.receiver .controller = .idle ∧
        t.badCount .controller =
          (if kind = 0x41 ∧ payload.take 2 = [0x05, byteOf Param.linkErrLimit.row.index.val] ∧ payload.length = 4 then
            min (s.badCount .controller - 1) (t.param .linkErrLimit)
          else s.badCount .controller - 1)) ∧
    (4 ≤ s.links.receiveQueue.length → exec (.requestArrival kind payload) s = exec (.badFrame .controller) s) ∧
    (s.links.receiveQueue.length < 4 → s.upstream.canAccept = false →
      (s.present .controllerLink = false → s.present .keepalive = false →
        exec (.requestArrival kind payload) s =
          .next (s.heard.setLinks
            { s.heard.links with receiveQueue := s.links.receiveQueue ++ [⟨kind, payload⟩] }).refresh) ∧
      (s.links.ready = false ∨ s.links.controllerTx ≠ none →
        ∃ t, exec (.requestArrival kind payload) s = .next t ∧
          t.links.receiveQueue = s.links.receiveQueue ++ [⟨kind, payload⟩] ∧
          t.badCount .controller = s.badCount .controller - 1 ∧ t.receiver .controller = .idle ∧
          t.present .controllerLink = (s.present .controllerLink && decide (1 < s.badCount .controller)) ∧
          (t.links.keepalive, t.present .keepalive) =
            if s.param .keepaliveUpper = 0 ∨ s.param .keepaliveLower ≠ 0 then (s.links.keepalive, s.present .keepalive)
            else if s.links.keepalive.running = true ∧ s.links.keepalive.timer < s.param .keepaliveUpper then
              (⟨0, true, .none⟩, false)
            else (⟨0, true, s.links.keepalive.cause⟩, s.present .keepalive)))

/-- The lines and the transmitters. READY rising with the transmitter idle, or a transmission ending with READY high,
starts the head frame, which leaves the queue: the oldest waiting event moves into the room when at most 15 kept frames
stand after it, and a waiting request is then taken and answered, also where the event has to wait on because 15 kept
frames stand; with the queue empty, the transmitter busy or READY low,
only the line or the transmitter changes. READY_FALL and SERVICE_CHANGE move their line and nothing else; DRIVE_TX_END
sends the waiting DRIVE, if there is one, and with an idle transmitter it is no event (01 R8, R9; 10 R169,
R177; 11 R182). That the end of no transmission is no event is the model's choice (log entry 22); that the event claims
the freed slot before the request is its reading (log entry 20). -/
def Obligations.TransmitterStartsTheHeadFrame : Prop :=
  ∀ s : State,
    (∀ (f : UpFrame) (rest : List UpFrame) (c : Instr) (u : State), s.upstream.queue = f :: rest →
      (c = .readyRise ∧ s.links.controllerTx = none) ∨ (c = .controllerTxEnd ∧ s.links.ready = true) →
      u = (s.setUpstream { s.upstream with queue := rest }).setLinks
        { s.links with ready := true, controllerTx := some (lineBytes f.kind.code f.payload) } →
      (s.upstream.events = [] → s.links.receiveQueue = [] → exec c s = .next u.refresh) ∧
      (∀ e es, s.upstream.events = e :: es → s.links.receiveQueue = [] →
        (15 ≤ keptCount rest → exec c s = .next u.refresh) ∧
        (keptCount rest = 14 → rest.length < 16 →
          exec c s =
            .next (u.setUpstream
              { s.upstream with
                queue := rest ++ [⟨.event, [byteOf e.kind.code, byteOf e.arg, byteOf e.count]⟩]
                events := es }).refresh)) ∧
      (∀ g gs, s.upstream.events = [] → s.links.receiveQueue = g :: gs → s.tables.inProgress = none →
        rest.length < 16 →
        (¬(0x41 ≤ g.kind.toNat ∧ g.kind.toNat ≤ 0x4D) → gs = [] →
          exec c s =
            .next ((u.setLinks { u.links with receiveQueue := [] }).setUpstream
              { s.upstream with queue := rest ++ [responseFrame g.kind (.plain .unknown)] }).refresh) ∧
        ∃ t r, exec c s = .next t ∧ responseFrame g.kind r ∈ t.upstream.queue ∧ t.links.receiveQueue <:+ gs) ∧
      (∀ e es g gs, s.upstream.events = e :: es → s.links.receiveQueue = g :: gs → s.tables.inProgress = none →
        keptCount rest = 15 → rest.length = 15 →
        (¬(0x41 ≤ g.kind.toNat ∧ g.kind.toNat ≤ 0x4D) →
          exec c s =
            .next ((u.setLinks { u.links with receiveQueue := gs }).setUpstream
              { s.upstream with queue := rest ++ [responseFrame g.kind (.plain .unknown)] }).refresh) ∧
        ∃ t r, exec c s = .next t ∧ responseFrame g.kind r ∈ t.upstream.queue ∧ t.links.receiveQueue <:+ gs)) ∧
    (s.upstream.events = [] → s.links.receiveQueue = [] →
      (s.links.controllerTx ≠ none ∨ s.upstream.queue = [] →
        exec .readyRise s = .next (s.setLinks { s.links with ready := true }).refresh) ∧
      (s.links.ready = false ∨ s.upstream.queue = [] →
        exec .controllerTxEnd s = .next (s.setLinks { s.links with controllerTx := none }).refresh)) ∧
    exec .readyFall s = .next (s.setLinks { s.links with ready := false }).refresh ∧
    (∀ high, exec (.serviceChange high) s = .next (s.setLinks { s.links with service := high }).refresh) ∧
    (s.links.fieldTx = .idle → exec .driveTxEnd s = .next s.refresh) ∧
    (∀ line, s.links.fieldTx = .sending line →
      exec .driveTxEnd s = .next (s.setLinks { s.links with fieldTx := .idle }).refresh) ∧
    (∀ line waiting, s.links.fieldTx = .sendingWaiting line waiting →
      exec .driveTxEnd s = .next (s.setLinks { s.links with fieldTx := .sending waiting }).refresh)

/-- The walk and the walker without the drum. Stepping names the first non-EMPTY entry after an index, by
b + ((i − b + 1) mod n) inside the aligned block; the first entry of a phase is its start or the first stepped to; a pass
goes through what is left of its four positions in the same order. At a loss of the drum the TURNING time and the score
return to 0, a pass is abandoned to the return index, and a pending early end moves the index to the next main entry; at
a regain the entry at the current index is named, whole (06 R97, R98, R102, R105, R108, R110; 05 R77). That the current
segment and the return index stay as they are at a loss is the model's choice (log entry 10). -/
def Obligations.WalkStepsToTheNextNonEmptyEntry : Prop :=
  (∀ (s : State) (b n i : Nat), s.walker.main = some ⟨b, n⟩ → b ≤ i → i < b + n →
    (∃ k, k < n ∧ (s.patternAt (b + k)).dir ≠ .empty) →
    ∃ m, 1 ≤ m ∧ m ≤ n ∧ s.nextMain i = b + (i - b + m) % n ∧ (s.patternAt (s.nextMain i)).dir ≠ .empty ∧
      ∀ k, 1 ≤ k → k < m → (s.patternAt (b + (i - b + k) % n)).dir = .empty) ∧
  (∀ (s : State) (r : PhaseRecord) (b : Nat), 0 < r.wrap → b = r.start - r.start % r.wrap →
    (∃ k, k < r.wrap ∧ (s.patternAt (b + k)).dir ≠ .empty) →
    ∃ m, m < r.wrap ∧ s.firstEntry r = b + (r.start - b + m) % r.wrap ∧
      (s.patternAt (s.firstEntry r)).dir ≠ .empty ∧
      ∀ k, k < m → (s.patternAt (b + (r.start - b + k) % r.wrap)).dir = .empty) ∧
  (∀ (s : State) (b left i : Nat), b ≤ i → i < b + 4 →
    match passFind s b left i with
    | some (j, r) =>
      ∃ m, m < left ∧ r = left - 1 - m ∧ j = b + (i - b + m) % 4 ∧ (s.patternAt j).dir ≠ .empty ∧
        ∀ k, k < m → (s.patternAt (b + (i - b + k) % 4)).dir = .empty
    | none => ∀ k, k < left → (s.patternAt (b + (i - b + k) % 4)).dir = .empty) ∧
  (∀ (s : State) (w : Walker), w = { s.walker with turning := 0, score := 0 } →
    (s.walker.pass = true →
      loseDrum s =
        s.setWalker { w with pass := false, remaining := 0, early := false, index := s.walker.ret }) ∧
    (s.walker.pass = false → s.walker.early = true →
      loseDrum s = s.setWalker { w with early := false, index := s.walker.index.map s.nextMain }) ∧
    (s.walker.pass = false → s.walker.early = false → loseDrum s = s.setWalker w)) ∧
  (∀ (s : State) (named : Bool),
    (s.holds = true → s.walkerTurn = false → (reselect named s).walker = (loseDrum s).walker) ∧
    (s.holds = s.walkerTurn → (reselect named s).walker = s.walker) ∧
    (∀ i, s.holds = false → s.walkerTurn = true → s.walker.index = some i →
      (reselect named s).walker =
        { s.walker with index := some i, segment := some (s.patternAt i), turning := 0, early := false } ∧
      (reselect named s).drum.winner = (s.patternAt i).demand)) ∧
  (∀ s : State, s.quiet → s.cycle.state = .active → s.holds = true → s.overrides = false →
    ∃ t, exec (.cyclePause []) s = .next t ∧ t.walker = (loseDrum s).walker ∧ t.drum.winner = .stop)

/-! ### The gap timer and the tenths -/

/-- GAP_EXPIRY: FIELD_SILENT is present, the gap DRIVE is handed to the field port, and the gap timer restarts; a new
silence raises the record and takes the setpoint of a drum in DECEL to 0; within a silence nothing else moves (02 R26,
R27, R29; 01 R8; 05 R91; 09 R158). That the command is the expiry whatever the gap timer shows is the model's choice
(log entry 3, unsafe). -/
def Obligations.GapExpiryBringsSilenceAndTheGapDrive : Prop :=
  ∀ s : State, ∃ t, exec .gapExpiry s = .next t ∧ t.silent = true ∧
    t.links.fieldTx = s.links.fieldTx.hand
      (lineBytes 0x31 [s.path.lastSeq.getD 0, 0, 0, 0, 0, byteOf (s.param .electrodeBurst)]) ∧
    t.heater.refH1 = false ∧ t.heater.refH2 = false ∧
    t.path = { s.path with gapMillis := 0, gapSpan := 10 * s.param .gapSamples } ∧ s.fieldFrameLeaves t ∧
    (s.silent = false →
      t.record .fieldSilent = ⟨.active, true, satSucc 255 (s.record .fieldSilent).count⟩ ∧
      (t.drum.state = .decel → t.drum.setpoint = 0)) ∧
    (s.silent = true →
      t = (((s.setLinks { s.links with fieldTx := t.links.fieldTx }).setHeater
        { s.heater with refH1 := false, refH2 := false }).setPath t.path).refresh)

/-- A timer row whose event the coming tenth does not bring is no event, and nothing moves: outside a second expiry for the
rows of a second, in another state of the drum or of the cycle, and while the count or the judgement is short of its
limit. A SAMPLE_COPY short of COPY_DECIMATION, or of a SAMPLE that is not accepted, is none either (log entry 2, the
model's choice; the limits are those of 02 R24; 05 R83, R86, R88; 06 R100, R105, R107; 07 R125 to R130; 08 R147;
11 R184). -/
def Obligations.TimerRowOutOfTimeIsNoEvent : Prop :=
  ∀ s : State,
    (s.secondNext = false →
      ∀ c ∈ [Instr.secondExpiry, .tangle, .report, .timeout, .duration, .cooled, .cooldownLimitReached],
        exec c s = .next s.refresh) ∧
    (s.drum.state ≠ .dwell ∨ (∃ n, s.drum.dwell = some n ∧ n + 1 < s.dwellSpan) →
      exec .dwellSpanEnd s = .next s.refresh) ∧
    (s.drum.state ≠ .ramp ∨ s.drum.stallMark = true ∨
        (∃ n, s.drum.spinup = some n ∧ n + 1 < 10 * s.param .spinupLimit) →
      exec .motorStall s = .next s.refresh) ∧
    (s.drum.state ≠ .decel ∨ s.drum.overrunMark = true ∨ s.silent = true ∨
        (∃ n, s.drum.coast = some n ∧ n + 1 < 10 * s.param .coastLimit) →
      exec .drumOverrun s = .next s.refresh) ∧
    (s.drum.state ≠ .turning ∨ s.holds = false ∨ s.walker.early = true ∨
        satSucc 2550 s.walker.turning < s.segmentLength →
      exec .segmentEnd s = .next s.refresh) ∧
    (s.drum.state ≠ .turning ∨ s.holds = false ∨ (s.walker.early = false ∧ s.secondNext = false) ∨
        satSucc 2550 s.walker.turning < s.param .minTurn →
      exec .earlyEnd s = .next s.refresh) ∧
    (s.cycle.state ≠ .active ∨ s.holds = false ∨ s.walker.pass = true ∨ s.walker.early = true ∨
        s.drum.state ≠ .turning ∨ satSucc 10 s.walker.score < s.param .tangleScore ∨
        (∀ lo hi, s.drum.currentMin = some lo → s.drum.currentMax = some hi → hi - lo < s.param .tangleRipple) →
      exec .tangle s = .next s.refresh) ∧
    (s.param .reportInterval = 0 ∨ s.upstream.reportTimer + 1 < s.param .reportInterval →
      exec .report s = .next s.refresh) ∧
    (s.cycle.state ≠ .active ∨ s.cycle.elapsed + 1 < 60 * s.cycle.record.duration ∨ s.faults.effective = .coolRun ∨
        s.silent = true →
      exec .timeout s = .next s.refresh ∧ exec .duration s = .next s.refresh) ∧
    (s.cycle.record.kind ≠ .heatToDry → exec .timeout s = .next s.refresh) ∧
    (s.cycle.record.kind = .heatToDry ∨ (s.cycle.record.kind = .cool ∧ 10 ≤ s.settleNext) →
      exec .duration s = .next s.refresh) ∧
    (s.cycle.state ≠ .active ∨ s.cycle.record.kind ≠ .cool ∨ s.settleNext < 10 →
      exec .cooled s = .next s.refresh) ∧
    (s.cycle.state ≠ .cooldown ∨ (∃ n, s.cycle.cooldown = some n ∧ n + 1 < 60 * s.param .cooldownLimit) →
      exec .cooldownLimitReached s = .next s.refresh) ∧
    (∀ p, s.param .copyDecimation = 0 ∨ s.upstream.copyCounter + 1 < s.param .copyDecimation ∨ ¬ s.accepts p →
      exec (.sampleCopy p) s = .next s.refresh)

/-- TENTH: the time base rises by 1, a running keepalive timer counts and stops at its upper bound, the suspension timer
counts, and no table, limit, action, reading, reference or moisture count moves. A tenth that ends no span and reaches no
limit adds itself to the dwell count in DWELL, the spinup count in RAMP, the coast count in DECEL without FIELD_SILENT,
and the segment's TURNING time while the drum is TURNING under the walker; nothing else of drum and walker moves but the
second's extremes and the score (02 R24; 01 R10, R11; 05 R83, R86, R88, R93; 06 R100; 08 R140). -/
def Obligations.TenthAdvancesTheTimeBase : Prop :=
  ∀ s : State, ∃ t, exec .tenth s = .next t ∧ s.tenthFrame t ∧
    t.links.keepalive =
      (if s.links.keepalive.running = false then s.links.keepalive
       else if s.param .keepaliveUpper ≤ s.links.keepalive.timer + 1 then ⟨s.param .keepaliveUpper, false, .late⟩
       else { s.links.keepalive with timer := s.links.keepalive.timer + 1 }) ∧
    (s.cycle.state = .suspended → t.cycle.state = .suspended →
      t.cycle.suspension = s.cycle.suspension.map (satSucc 72000)) ∧
    (s.plainTenth →
      t.drum =
        { s.drum with
          dwell := if s.drum.state = .dwell then s.drum.dwell.map (· + 1) else s.drum.dwell
          spinup := if s.drum.state = .ramp then s.drum.spinup.map (· + 1) else s.drum.spinup
          coast := if s.drum.state = .decel ∧ s.silent = false then s.drum.coast.map (· + 1) else s.drum.coast
          currentMin := t.drum.currentMin
          currentMax := t.drum.currentMax } ∧
      t.walker =
        { s.walker with
          turning :=
            if s.drum.state = .turning ∧ s.holds = true then satSucc 2550 s.walker.turning else s.walker.turning
          score := t.walker.score } ∧
      (s.secondNext = false →
        t.drum.currentMin = s.drum.currentMin ∧ t.drum.currentMax = s.drum.currentMax ∧
        t.walker.score = s.walker.score))

/-- SECOND_EXPIRY: it is the tenth whose new count is a multiple of 10; a new second opens for the motor current and the
lowest level, the report timer counts, and outside ACTIVE the ring keeps what it holds. In ACTIVE the ring takes the
exhaust and the second's lowest level while the drum is TURNING and the exhaust valid, keeps at most 16 records, and is
emptied otherwise; where another block moves the drum or the cycle at the expiry, this is said of the estimator's own
work at its turn (log entry 31). Phase elapsed rises by 1 in ACTIVE, and is frozen under COOL_RUN, under FIELD_SILENT
and outside ACTIVE; the settle count of a COOL phase rises at or below T_set and returns to 0 otherwise; the cooldown
timer counts, and COOLDOWN ends, with COOLDOWN_END and CYCLE_DONE ABORTED, when the exhaust is below ABORT_COOL or the
limit is reached (02 R24; 05 R90; 03 R44 to R46; 07 R125, R130; 08 R146, R147; 11 R184). -/
def Obligations.SecondExpiryOpensANewSecond : Prop :=
  (∀ s : State, (s.path.timeBase + 1).toNat % 10 = 0 →
    exec .secondExpiry s = exec .tenth s ∧
    ∃ t, exec .secondExpiry s = .next t ∧ t.drum.currentMin = none ∧ t.drum.currentMax = none ∧
      t.moisture.lowest = t.heater.commanded ∧
      t.upstream.reportTimer =
        (if s.param .reportInterval = 0 then s.upstream.reportTimer
         else if s.param .reportInterval ≤ s.upstream.reportTimer + 1 then 0 else s.upstream.reportTimer + 1) ∧
      (s.cycle.state ≠ .active → t.moisture.ring = s.moisture.ring ∧ t.cycle.elapsed = s.cycle.elapsed ∧
        t.cycle.settle = s.cycle.settle) ∧
      (s.plainTenth → s.cycle.state = .active →
        t.cycle =
          { s.cycle with
            elapsed :=
              if s.faults.effective ≠ .coolRun ∧ s.silent = false then s.cycle.elapsed + 1 else s.cycle.elapsed
            settle :=
              if s.cycle.record.kind = .cool then
                match s.exhaust? with
                | some x => if x ≤ s.cycle.record.tSet then min 10 (s.cycle.settle + 1) else 0
                | none => 0
              else s.cycle.settle } ∧
        t.moisture.ring =
          match s.exhaust? with
          | some x =>
            if s.drum.state = .turning then
              (if s.moisture.ring.length < 16 then s.moisture.ring else s.moisture.ring.tail) ++ [⟨x, s.moisture.lowest⟩]
            else []
          | none => []) ∧
      (∀ n, s.paramLaw → s.lateDue = false → s.cycle.state = .cooldown → s.cycle.cooldown = some n →
        (s.drum.state = .ramp → s.drum.spinup.getD 0 + 1 < 10 * s.param .spinupLimit) →
        (s.drum.state = .decel → s.drum.coast.getD 0 + 1 < 10 * s.param .coastLimit) →
        if (∃ x, s.exhaust? = some x ∧ x < (s.limitAt 3).high) ∨ 60 * s.param .cooldownLimit ≤ n + 1 then
          t.cycle.state = .idle ∧ t.cycle.cooldown = none ∧ s.tells 8 t [(.cooldownEnd, 0), (.cycleDone, 4)]
        else t.cycle = { s.cycle with cooldown := some (n + 1) })) ∧
  (∀ (s : State) (x : Int), s.cycle.state = .active → s.drum.state = .turning → s.exhaust? = some x →
    (moistureSecond s).moisture.ring =
      (if s.moisture.ring.length < 16 then s.moisture.ring else s.moisture.ring.tail) ++ [⟨x, s.moisture.lowest⟩]) ∧
  (∀ s : State, s.cycle.state = .active → (s.drum.state ≠ .turning ∨ s.exhaust? = none) →
    (moistureSecond s).moisture.ring = [])

/-- DWELL_SPAN_END: at the tenth at which the dwell count reaches the span length the drum acts on the winner as it
stands, and under the walker's PAUSE on the segment that the walker names next. The span length is DWELL_TIME, or the
pause length when that is more. That the count ends the span, also where the span began between two tenths, is the model's
reading of 05 R83 (log entry 33) (05 R83, R84; 06 R101). -/
def Obligations.DwellSpanEndActsOnTheWinner : Prop :=
  (∀ s : State,
    (∀ k, s.drum.winner = .walkerPause k → s.dwellSpan = max (s.param .dwellTime) (10 * k)) ∧
    ((∀ k, s.drum.winner ≠ .walkerPause k) → s.dwellSpan = s.param .dwellTime)) ∧
  ∀ (s : State) (n : Nat), s.drum.state = .dwell → s.drum.dwell = some n → s.dwellSpan ≤ n + 1 → s.quietTenth →
    ∃ t, exec .dwellSpanEnd s = .next t ∧ s.tenthFrame t ∧ t.cycle.state = s.cycle.state ∧
      (∀ v, s.drum.winner = .override v →
        t.drum.state = .ramp ∧ t.drum.dir = .cw ∧ t.drum.target = v ∧ t.drum.setpoint = 0) ∧
      (∀ d v, s.drum.winner = .walkerRun d v →
        t.drum.state = .ramp ∧ t.drum.dir = d ∧ t.drum.target = v ∧ t.drum.setpoint = 0) ∧
      (s.drum.winner = .stop → t.drum.state = .stopped ∧ t.drum.dir = .stop ∧ t.drum.setpoint = 0) ∧
      (∀ k, s.drum.winner = .walkerPause k →
        t.walker.segment = (advanceWalker s).walker.segment ∧ t.walker.index = (advanceWalker s).walker.index ∧
        t.drum.winner = (advanceWalker s).segmentDemand ∧
        (∀ d v, (advanceWalker s).segmentDemand = .walkerRun d v →
          t.drum.state = .ramp ∧ t.drum.dir = d ∧ t.drum.target = v ∧ t.drum.setpoint = 0) ∧
        (∀ j, (advanceWalker s).segmentDemand = .walkerPause j → t.drum.state = .dwell ∧ t.drum.dwell = some 0))

/-- MOTOR_STALL and DRUM_OVERRUN: at the tenth at which the count reaches its limit in seconds, the mark still clear, the
condition is present, and it arises if it was absent (05 R86, R88; 09 R158). -/
def Obligations.StallAndOverrunAriseAtTheirLimits : Prop :=
  ∀ (s : State) (n : Nat),
    (s.drum.state = .ramp → s.drum.spinup = some n → 10 * s.param .spinupLimit ≤ n + 1 → s.drum.stallMark = false →
      ∃ t, exec .motorStall s = .next t ∧ s.tenthFrame t ∧ t.present .motorStall = true ∧
        t.record .motorStall =
          if s.present .motorStall = true then s.record .motorStall
          else ⟨.active, true, satSucc 255 (s.record .motorStall).count⟩) ∧
    (s.drum.state = .decel → s.drum.coast = some n → 10 * s.param .coastLimit ≤ n + 1 → s.drum.overrunMark = false →
      s.silent = false →
      ∃ t, exec .drumOverrun s = .next t ∧ s.tenthFrame t ∧ t.present .drumOverrun = true ∧
        t.record .drumOverrun =
          if s.present .drumOverrun = true then s.record .drumOverrun
          else ⟨.active, true, satSucc 255 (s.record .drumOverrun).count⟩)

/-- SEGMENT_END: the walker names the next main entry, or the next non-EMPTY position of its pass, or at the pass's end
the entry at the return index; a drum that is TURNING takes it as 05 R78 says (06 R98 to R100, R108). -/
def Obligations.SegmentEndNamesTheNextEntry : Prop :=
  ∀ (s : State) (i : Nat), s.paramLaw → s.drumLaw → s.walkerLaw → s.quietTenth →
    (s.secondNext = true → (beginTenth s).tangleDue = false) →
    s.drum.state = .turning → s.holds = true → s.walkerTurn = true →
    s.walker.index = some i → s.walker.early = false → s.segmentLength ≤ satSucc 2550 s.walker.turning →
    ∃ t j, exec .segmentEnd s = .next t ∧ s.tenthFrame t ∧ t.walker.standsAt s j ∧
      t.drum.winner = (s.patternAt j).demand ∧
      t.drum.state = turningTakes s.drum.dir s.drum.target (s.patternAt j).demand ∧
      (s.walker.pass = false → j = s.nextMain i ∧ t.walker.pass = false) ∧
      (∀ b, s.walker.pass = true → s.walker.untangle = some b →
        match passFind s b s.walker.remaining (nextIn b 4 i) with
        | some (k, r) => j = k ∧ t.walker.pass = true ∧ t.walker.remaining = r
        | none => s.walker.ret = some j ∧ t.walker.pass = false)

/-- EARLY_END: a tangled segment that has had MIN_TURN ends; a phase with an untangle block runs a pass of at most four
positions from its start, with the next main entry as return index; any other goes on with that entry (06 R106 to
R108). -/
def Obligations.EarlyEndRunsAnUntanglePass : Prop :=
  ∀ (s : State) (i : Nat), s.paramLaw → s.drumLaw → s.walkerLaw → s.quietTenth →
    s.drum.state = .turning → s.holds = true → s.walkerTurn = true →
    s.walker.index = some i → s.walker.early = true → s.param .minTurn ≤ satSucc 2550 s.walker.turning →
    ∃ t, exec .earlyEnd s = .next t ∧ s.tenthFrame t ∧ s.endsTangled i t

/-- TANGLE: at a second expiry that judges a ripple of TANGLE_RIPPLE or more and brings the score to TANGLE_SCORE, the
score returns to 0, the count rises, and the tangle-persist flag is set at TANGLE_LIMIT. A segment that has had MIN_TURN
ends at this very expiry as a tangled segment, and any other is to end early once it has had it; TANGLE is told, and
after it TANGLE_PERSIST when the flag is newly set (06 R104 to R108, R111; 05 R78; 11 R183). -/
def Obligations.TangleIsCountedAndEndsTheSegment : Prop :=
  ∀ (s : State) (entry : Tick) (lo hi : Nat), s.quietTenth → s.secondNext = true → s.cycle.state = .active →
    s.holds = true → s.walker.pass = false → s.walker.early = false → s.drum.state = .turning →
    s.drum.turningEntry = some entry → lasted (s.path.timeBase + 1) entry 20 = true →
    s.drum.currentMin = some lo → s.drum.currentMax = some hi → s.param .tangleRipple ≤ hi - lo →
    s.param .tangleScore ≤ satSucc 10 s.walker.score →
    ∃ t, exec .tangle s = .next t ∧ s.tenthFrame t ∧ t.walker.score = 0 ∧
      t.walker.count = satSucc 255 s.walker.count ∧
      t.walker.persist = (s.walker.persist || decide (s.param .tangleLimit ≤ satSucc 255 s.walker.count)) ∧
      (satSucc 2550 s.walker.turning < s.param .minTurn → t.walker.early = true) ∧
      (∀ i, s.paramLaw → s.drumLaw → s.walkerLaw → s.walkerTurn = true → s.walker.index = some i →
        s.param .minTurn ≤ satSucc 2550 s.walker.turning → s.endsTangled i t) ∧
      s.tells 8 t
        (if s.walker.persist = false ∧ s.param .tangleLimit ≤ satSucc 255 s.walker.count then
          [(.tangle, 0), (.tanglePersist, 0)]
        else [(.tangle, 0)])

/-- REPORT: at the second expiry at which the report timer reaches REPORT_INTERVAL the timer returns to 0, and the REPORT
that joins carries the fields of 01 in their order, as they stand before the other blocks' work at that tenth (log
entry 2). With at most 8 frames in the queue it stands behind them whatever the part is doing; with the part at rest it
is the newest frame (11 R184; 01 R14). -/
def Obligations.ReportCarriesTheStateAsItStands : Prop :=
  ∀ s : State, s.secondNext = true → s.param .reportInterval ≠ 0 →
    s.param .reportInterval ≤ s.upstream.reportTimer + 1 →
    ∃ t, exec .report s = .next t ∧ s.tenthFrame t ∧ t.upstream.reportTimer = 0 ∧
      (∀ r report, s.path.readings = some r → s.links.ready = false → s.upstream.events = [] →
        report = (⟨.report,
          [byteOf s.cycle.state.code, byteOf s.cycle.slot, byteOf s.cycle.phase, byteOf s.cycle.record.kind.code] ++
          bytes16 s.cycle.elapsed ++ bytes16 (s.moisture.w16 / 16) ++ bytes16 s.moisture.streak ++
          bytesSigned16 r.exhaust.value ++ bytesSigned16 r.inlet.value ++
          [byteOf s.heater.commanded.code, byteOf s.drum.state.code, byteOf s.drum.dir.code, byteOf s.walker.count,
           byteOf s.faults.effective.code] ++
          bytes16 s.path.missed ++ bytes16 s.upstream.dropped⟩ : UpFrame) →
        (s.upstream.queue.length ≤ 8 → s.upstream.queue ++ [report] <+: t.upstream.queue) ∧
        (s.cycle.state = .idle → s.drum.state = .stopped → s.links.keepalive.running = false →
          s.upstream.queue.length < 16 → t.upstream.queue = s.upstream.queue ++ [report]))

/-- TIMEOUT, DURATION and COOLED: at the second expiry that brings a phase to its duration span, or a COOL phase to ten
settled seconds, the phase ends and the next of the run list begins, or the cycle is over; TIMEOUT alone sets the
NOT_DRY flag. PHASE_END is told with its reason, and then PHASE_BEGIN of the next phase or CYCLE_DONE with the result of
the flags (07 R125 to R134; 11 R183). -/
def Obligations.PhaseEndsAtItsSecondExpiry : Prop :=
  ∀ s : State, s.secondNext = true → s.cycle.state = .active →
    (s.cycle.record.kind = .heatToDry → s.faults.effective ≠ .coolRun → s.silent = false →
      60 * s.cycle.record.duration ≤ s.cycle.elapsed + 1 →
      ∃ t, exec .timeout s = .next t ∧ s.tenthFrame t ∧ movedOn s t ∧ t.cycle.notDry = true ∧
        t.cycle.drySeen = s.cycle.drySeen ∧ s.tells 8 t (s.endEvents 2 true)) ∧
    ((s.cycle.record.kind = .heatTimed ∨ s.cycle.record.kind = .tumble ∨ s.cycle.record.kind = .anticrease ∨
        (s.cycle.record.kind = .cool ∧ s.settleNext < 10)) →
      s.faults.effective ≠ .coolRun → s.silent = false → 60 * s.cycle.record.duration ≤ s.cycle.elapsed + 1 →
      ∃ t, exec .duration s = .next t ∧ s.tenthFrame t ∧ movedOn s t ∧ t.cycle.notDry = s.cycle.notDry ∧
        t.cycle.drySeen = s.cycle.drySeen ∧ s.tells 8 t (s.endEvents 3 s.cycle.notDry)) ∧
    (∀ x, s.cycle.record.kind = .cool → s.exhaust? = some x → x ≤ s.cycle.record.tSet → 9 ≤ s.cycle.settle →
      ∃ t, exec .cooled s = .next t ∧ s.tenthFrame t ∧ movedOn s t ∧ t.cycle.notDry = s.cycle.notDry ∧
        t.cycle.drySeen = s.cycle.drySeen ∧ s.tells 8 t (s.endEvents 4 s.cycle.notDry))

/-- COOLDOWN_LIMIT_REACHED: at the second expiry at which the cooldown timer reaches COOLDOWN_LIMIT minutes the cycle
leaves COOLDOWN, to IDLE unless a breach or a stall of the same tenth halts it, and COOLDOWN_END and CYCLE_DONE ABORTED
are told in that order (08 R146 to R148; 11 R183). -/
def Obligations.CooldownEndsAtItsLimit : Prop :=
  ∀ (s : State) (n : Nat), s.paramLaw → s.secondNext = true → s.cycle.state = .cooldown → s.cycle.cooldown = some n →
    60 * s.param .cooldownLimit ≤ n + 1 →
    ∃ t, exec .cooldownLimitReached s = .next t ∧ s.tenthFrame t ∧ t.cycle.cooldown = none ∧
      (t.cycle.state = .idle ∨ t.cycle.state = .halted) ∧
      s.tells 8 t [(.cooldownEnd, 0), (.cycleDone, 4)] ∧
      (s.links.keepalive.running = false → s.drum.state = .turning → t.cycle.state = .idle)

/-! ### An accepted SAMPLE -/

/-- The fields of a SAMPLE payload as they are decoded (02 R17, R18, R19; 01, SAMPLE and DRIVE payloads). -/
def Obligations.DecodedReadingsFollowTheLayout : Prop :=
  ∀ p : List Byte,
    (decodeReadings p).exhaust.value = fieldSigned16 p 2 ∧ (decodeReadings p).inlet.value = fieldSigned16 p 4 ∧
    ((decodeReadings p).exhaust.valid = true ↔ -300 ≤ fieldSigned16 p 2 ∧ fieldSigned16 p 2 ≤ 1800) ∧
    ((decodeReadings p).inlet.valid = true ↔ -300 ≤ fieldSigned16 p 4 ∧ fieldSigned16 p 4 ≤ 1800) ∧
    (decodeReadings p).current = min 20000 ((byteAt p 6).toNat * 256 + (byteAt p 7).toNat) ∧
    (decodeReadings p).tacho = max (-1000) (min 1000 (fieldSigned16 p 8)) ∧
    (decodeReadings p).e = (byteAt p 10).toNat ∧ (decodeReadings p).electrodes.length = (byteAt p 10).toNat ∧
    (∀ i, i < (byteAt p 10).toNat →
      (decodeReadings p).electrodes[i]? =
        some (min 4095 ((byteAt p (11 + 2 * i)).toNat * 256 + (byteAt p (12 + 2 * i)).toNat))) ∧
    (∀ k, fieldSigned16 p k =
      ((BitVec.ofNat 16 ((byteAt p k).toNat * 256 + (byteAt p (k + 1)).toNat)).toInt)) ∧
    decodeFlags p =
      ⟨(byteAt p 1).getLsbD 0, (byteAt p 1).getLsbD 1, (byteAt p 1).getLsbD 2, (byteAt p 1).getLsbD 3,
        (byteAt p 1).getLsbD 4⟩

/-- SAMPLE: a good SAMPLE that is no duplicate becomes the present readings, counts the missed ones, restarts the gap
timer, ends a silence, and is answered by a DRIVE that carries the drum and the heater as its work leaves them; the
DRIVE is the new reference (02 R15, R16, R20, R23, R26, R28; 01 R5, R7, R8; 04 R70). -/
def Obligations.AcceptedSampleIsDecodedAndAnswered : Prop :=
  ∀ (s : State) (p : List Byte), s.accepts p →
    ∃ t, exec (.sample p) s = .next t ∧
      t.path =
        { s.path with
          lastSeq := some (byteAt p 0)
          missed :=
            match s.path.lastSeq with
            | none => s.path.missed
            | some q => min 65535 (s.path.missed + (byteAt p 0 - q - 1).toNat)
          readings := some (decodeReadings p)
          door := if (byteAt p 1).getLsbD 0 = true then .isClosed else .isOpen
          flags := some (decodeFlags p)
          gapMillis := 0
          gapSpan := 10 * s.param .gapSamples } ∧
      t.silent = false ∧ s.fieldFrameLeaves t ∧ t.badCount .field = s.badCount .field - 1 ∧ t.receiver .field = .idle ∧
      t.links.fieldTx = s.links.fieldTx.hand
        (lineBytes 0x31 ([byteAt p 0, byteOf t.drum.dir.code] ++ bytes16 t.drum.setpoint ++
          [byteOf (bitOf t.heater.commanded.h1 + 2 * bitOf t.heater.commanded.h2),
           byteOf (s.param .electrodeBurst)])) ∧
      t.heater.refH1 = t.heater.commanded.h1 ∧ t.heater.refH2 = t.heater.commanded.h2

/-- The estimator on an accepted SAMPLE. With the cycle ACTIVE, the drum TURNING and no untangle pass, an all-short frame
moves the all-short count and ELECTRODE_SHORT alone, and any other frame moves W16, the hit count and the streak by
stages 1 to 7, the trim and the mean over the readings that are not shorts spelled out; otherwise the estimator holds
(03 R31 to R34, R37, R38, R40, R42, R43, R47). FIELD_SILENT holds the drum out of TURNING (03 R31), and so may FIELD_LINK
when it goes at this very frame, before the acceptance (log entry 24): neither is there, or FIELD_LINK stays. -/
def Obligations.EstimatorWorksOrHoldsOnASample : Prop :=
  ∀ (s : State) (p : List Byte), s.accepts p →
    ∃ t, exec (.sample p) s = .next t ∧
      (s.silent = false → (s.present .fieldLink = false ∨ 1 < s.badCount .field) → s.cycle.state = .active →
        s.drum.state = .turning → s.walker.pass = false →
        ((∀ e ∈ (decodeReadings p).electrodes, e = 4095) →
          t.moisture.w16 = s.moisture.w16 ∧ t.moisture.streak = s.moisture.streak ∧ t.moisture.hits = 0 ∧
          t.moisture.allShort = satSucc (s.param .shortLimit) s.moisture.allShort ∧
          t.present .electrodeShort =
            (s.present .electrodeShort || decide (s.param .shortLimit ≤ t.moisture.allShort))) ∧
        (∀ opens hits : List Nat,
          opens = (decodeReadings p).electrodes.filter (fun e => decide (e ≠ 4095 ∧ e < s.param .contactFloor)) →
          hits = (decodeReadings p).electrodes.filter (fun e => decide (e ≠ 4095 ∧ s.param .contactFloor ≤ e)) →
          hits.length + opens.length ≠ 0 →
          t.moisture.hits = hits.length ∧ t.moisture.allShort = 0 ∧ t.present .electrodeShort = false ∧
          t.moisture.w16 =
            filterW16 s.moisture.w16
              ((hits.map fun e =>
                curveMap s.curve
                  (max 0 (min 4094 ((e : Int) + 16 * ((s.param .electrodeTrim : Int) - 8)))).toNat).sum /
                (hits.length + opens.length)) s.cycle.record.depth ∧
          (s.cycle.record.kind ≠ .heatToDry → t.moisture.streak = s.moisture.streak) ∧
          (∀ n, s.cycle.record.kind = .heatToDry →
            n = (if t.moisture.w16 < 16 * s.cycle.record.dryness then
                min s.cycle.record.confirm
                  (s.moisture.streak +
                    if slopeHolds s.moisture.ring s.heater.commanded (s.param .slopeAssist) = true then 2 else 1)
              else if t.moisture.w16 < 16 * (s.cycle.record.dryness + 20) then s.moisture.streak
              else 0) →
            (n ≠ s.cycle.record.confirm → t.moisture.streak = n) ∧
            (n = s.cycle.record.confirm →
              (t.cycle.state = .active → t.cycle.drySeen = true) ∧
              (t.cycle.drySeen = true ∨ t.moisture.streak = n))))) ∧
      (s.cycle.state ≠ .active ∨ s.drum.state ≠ .turning ∨ (s.walker.pass = true ∧ s.demandLaw ∧ s.actionLaw) →
        t.moisture.w16 = s.moisture.w16 ∧ t.moisture.streak = s.moisture.streak ∧ t.moisture.hits = s.moisture.hits ∧
        t.moisture.allShort = s.moisture.allShort ∧ t.present .electrodeShort = s.present .electrodeShort)

/-- 03 R36. The curve map of a trimmed hit: linear within its segment of 512 counts, truncated toward zero, within the
segment's two points and reaching the upper one only when they are equal. -/
def Obligations.CurveMapInterpolatesWithinItsSegment : Prop :=
  ∀ (m : Nat → Nat) (e k f : Nat), (∀ i, m i ≤ 1000) → e ≤ 4094 → k = e / 512 → f = e - 512 * k →
    k ≤ 7 ∧ f ≤ 511 ∧ e = 512 * k + f ∧
    (curveMap m e : Int) = (m k : Int) + (((m (k + 1) : Int) - (m k : Int)) * (f : Int)).tdiv 512 ∧
    ((((m (k + 1) : Int) - (m k : Int)) * (f : Int)).tdiv 512).natAbs ≤ ((m (k + 1) : Int) - (m k : Int)).natAbs ∧
    (m k ≠ m (k + 1) →
      ((((m (k + 1) : Int) - (m k : Int)) * (f : Int)).tdiv 512).natAbs < ((m (k + 1) : Int) - (m k : Int)).natAbs) ∧
    min (m k) (m (k + 1)) ≤ curveMap m e ∧ curveMap m e ≤ max (m k) (m (k + 1)) ∧
    (curveMap m e = m (k + 1) ↔ m k = m (k + 1)) ∧ curveMap m e ≤ 1000 ∧ (e = 4094 → k = 7 ∧ f = 510) ∧
    (m k ≤ m (k + 1) → m k ≤ curveMap m e) ∧
    (∀ m' : Nat → Nat, (∀ i, i ≠ 8 → m' i = m i) → k ≠ 7 → curveMap m' e = curveMap m e)

/-- 03 R40. The filter: W16 moves by the truncated K-th part of its distance to 16 × m_f, never past it and never out of
0 to 16000, stops less than K away from it, and reaches it at once with K at 1; K is the depth of the current phase
record, whatever its kind. -/
def Obligations.FilterMovesTowardTheFrameMoisture : Prop :=
  (∀ s : State, ∃ mf, s.nextW16 = filterW16 s.moisture.w16 mf s.cycle.record.depth ∧
    mf = frameMoisture s.curve (s.param .contactFloor) (s.param .electrodeTrim) s.electrodes) ∧
  ∀ w mf k : Nat, w ≤ 16000 → mf ≤ 1000 → 1 ≤ k → k ≤ 64 →
    (filterW16 w mf k : Int) = (w : Int) + (16 * (mf : Int) - (w : Int)).tdiv (k : Int) ∧
    filterW16 w mf k ≤ 16000 ∧
    min w (16 * mf) ≤ filterW16 w mf k ∧ filterW16 w mf k ≤ max w (16 * mf) ∧
    (filterW16 w mf k = w ↔ (16 * (mf : Int) - (w : Int)).natAbs < k) ∧
    (k = 1 → filterW16 w mf k = 16 * mf) ∧
    0 ≤ (16 * (mf : Int) - (w : Int)).tdiv (k : Int) * (16 * (mf : Int) - (w : Int)) ∧
    ((16 * (mf : Int) - (w : Int)).tdiv (k : Int)).natAbs ≤ (16 * (mf : Int) - (w : Int)).natAbs

/-- The checks on every accepted SAMPLE: the two thresholds, the two sensors, the fuse, the overcurrent run with its
condition, and the contact checks, which compare each stage with the DRIVE built before the SAMPLE: its runs and flags
move, and HEATER_NOCLOSE and HEATER_WELD follow the flags (04 R70 to R72; 05 R89; 09 R153 to R155). -/
def Obligations.ConditionsFollowTheSample : Prop :=
  ∀ (s : State) (p : List Byte) (r : Readings), s.accepts p → r = decodeReadings p →
    ∃ t, exec (.sample p) s = .next t ∧
      t.present .exhaustHigh = thresholdAfter (s.present .exhaustHigh) (s.limitAt 0) r.exhaust ∧
      t.present .inletHigh = thresholdAfter (s.present .inletHigh) (s.limitAt 1) r.inlet ∧
      t.present .exhaustSensor = !r.exhaust.valid ∧ t.present .inletSensor = !r.inlet.valid ∧
      t.present .fuseOpen = !(decodeFlags p).fuseIntact ∧
      (t.drum.ocRun, t.present .overcurrent) =
        (if s.present .overcurrent = true then
          if (r.current : Int) ≤ (s.limitAt 2).restore then (0, false) else (s.drum.ocRun, true)
        else if (s.limitAt 2).high < (r.current : Int) then
          (satSucc 100 s.drum.ocRun, decide ((s.limitAt 2).persist ≤ satSucc 100 s.drum.ocRun))
        else (0, false)) ∧
      s.heater.h1.follows t.heater.h1 s.heater.refH1 (decodeFlags p).h1Closed ∧
      s.heater.h2.follows t.heater.h2 s.heater.refH2 (decodeFlags p).h2Closed ∧
      t.present .heaterNoclose = (t.heater.h1.noCloseFlag || t.heater.h2.noCloseFlag) ∧
      t.present .heaterWeld = (t.heater.h1.weldFlag || t.heater.h2.weldFlag)

/-- Every step keeps the walk's law: in ACTIVE and SUSPENDED the windows of the running program hold an entry to run, the
main window is that of the current phase record, the walker's indices name entries to run inside it, and the walker
holds the drum whenever its segment is the winner's line (05 R77; 06 R97, R98, R108, R110; 07 R117, R119, R120;
10 R172). -/
def Obligations.WalkLawIsKept : Prop :=
  ∀ s t : State, s.walkLaw → s.drumLaw → s.walkerLaw → s.demandLaw → s.actionLaw → step s = .next t → t.walkLaw

/-- Regulation: with the cycle ACTIVE in a heating phase and the exhaust valid the wanted level follows the zone; else it
keeps its value; nothing but the wanted level moves. An accepted SAMPLE that leaves the door closed, changes no record and
brings no DRY regulates with its own readings, whatever the drum does (04 R57, R58, R67). -/
def Obligations.RegulationFollowsTheZones : Prop :=
  ∀ s : State,
    (∀ x : Int, s.cycle.state = .active → s.cycle.record.kind.heats = true → s.exhaust? = some x →
      (s.cycle.record.tSet ≤ x → (regulate s).heater.wanted = .l0) ∧
      (s.cycle.record.tSet - s.param .regBand ≤ x → x < s.cycle.record.tSet →
        (regulate s).heater.wanted = s.heater.wanted) ∧
      (s.cycle.record.tSet - 2 * s.param .regBand ≤ x → x < s.cycle.record.tSet - s.param .regBand →
        (regulate s).heater.wanted.code = min 1 s.phaseCap.code) ∧
      (x < s.cycle.record.tSet - 2 * s.param .regBand → (regulate s).heater.wanted = s.phaseCap)) ∧
    (s.cycle.state ≠ .active ∨ s.cycle.record.kind.heats = false ∨ s.exhaust? = none →
      (regulate s).heater.wanted = s.heater.wanted) ∧
    regulate s = s.setHeater { s.heater with wanted := (regulate s).heater.wanted } ∧
    (∀ (p : List Byte) (t : State), s.accepts p → (byteAt p 1).getLsbD 0 = true → s.recordLaw →
      ¬(s.accepting p).signalsDry → exec (.sample p) s = .next t → t.faults.records = s.faults.records →
      t.heater.wanted = (regulate (s.setPath t.path)).heater.wanted)

/-- The permitted level and the three changes of the commanded level. The permitted level is the least of cycle
permission, phase cap, fault cap and airflow permission. The commanded level rises at a SAMPLE alone (log entry 12 for
FIELD_OTHER_FRAME of KIND 21h), by one level, to a level at or below the wanted one, after STAGE_INTERVAL since the last
upward step and RELAY_HOLD since the stage was switched, and the step is stamped; where the tacho reaches AIRFLOW_SPEED in
RAMP at a SAMPLE on which the stager works before the drum, it does not rise at that SAMPLE. A voluntary reduction waits
until every stage that it switches off has been on for RELAY_HOLD, and then drops to the target in one change. A forced
reduction drops to the permitted level at once. An accepted SAMPLE that finds the drum TURNING, leaves the door closed,
changes no record and brings no DRY makes exactly the stager's work with its own readings. Each change stamps the stages
that it switches and no other; no command moves the stamp of a stage without stamping the present count (02 R23, R25; 04
R56, R57, R59 to R67). That a fallen tacho forces its reduction at the stager's turn, and that the
airflow of a RAMP that was too slow waits for the drum's work, is log entry 21. -/
def Obligations.CommandedLevelMovesAndStampsItsStages : Prop :=
  (∀ s : State,
    s.permitted.code =
      min (min (if s.cycle.state = .active ∧ (s.cycle.record.kind = .heatToDry ∨ s.cycle.record.kind = .heatTimed)
            then 2 else 0)
          (if s.walker.persist = true then s.cycle.record.cap.code - 1 else s.cycle.record.cap.code))
        (min (match s.faults.effective with
            | .note => 2
            | .cutback => 1
            | .heatOff | .coolRun | .safeStop => 0)
          (if s.drum.state = .turning ∨
              (s.drum.state = .ramp ∧ s.param .airflowSpeed ≤ s.tacho.natAbs ∧ s.aux.airflowWaits = false)
            then 2 else 0)) ∧
    s.targetLevel.code = min s.heater.wanted.code s.permitted.code) ∧
  (∀ (c : Instr) (s t : State), s.paramLaw → exec c s = .next t →
    s.heater.commanded.code < t.heater.commanded.code →
    bringsSample c ∧ t.heater.commanded.code = s.heater.commanded.code + 1 ∧
      t.heater.commanded.code ≤ t.heater.wanted.code ∧ t.heater.lastUp = some s.path.timeBase ∧
      stampLasted s.path.timeBase s.heater.lastUp (10 * s.param .stageInterval) = true ∧
      (s.heater.commanded = .l0 → stampLasted s.path.timeBase s.heater.h1Switch (s.param .relayHold) = true) ∧
      (s.heater.commanded = .l1 → stampLasted s.path.timeBase s.heater.h2Switch (s.param .relayHold) = true)) ∧
  (∀ (s : State) (l : Level) (h : Heater),
    h = { s.heater with
          commanded := l
          h1Switch := if s.heater.commanded = .l0 ↔ l = .l0 then s.heater.h1Switch else some s.path.timeBase
          h2Switch := if s.heater.commanded = .l2 ↔ l = .l2 then s.heater.h2Switch else some s.path.timeBase } →
    (l = s.permitted → (forceReduction s).heater = if l.code < s.heater.commanded.code then h else s.heater) ∧
    (l = s.targetLevel → l.code < s.heater.commanded.code → s.heater.commanded.code ≤ s.permitted.code →
      (stageStep s).heater =
        if (l = .l0 → stampLasted s.path.timeBase s.heater.h1Switch (s.param .relayHold) = true) ∧
            (s.heater.commanded = .l2 → stampLasted s.path.timeBase s.heater.h2Switch (s.param .relayHold) = true) then h
        else s.heater) ∧
    (l = s.targetLevel → l = s.heater.commanded → stageStep s = s)) ∧
  (∀ s : State, s.heater.commanded.code < s.targetLevel.code →
    (stageStep s).heater =
      if stampLasted s.path.timeBase s.heater.lastUp (10 * s.param .stageInterval) = true ∧
          (s.heater.commanded = .l0 → stampLasted s.path.timeBase s.heater.h1Switch (s.param .relayHold) = true) ∧
          (s.heater.commanded = .l1 → stampLasted s.path.timeBase s.heater.h2Switch (s.param .relayHold) = true) then
        { s.heater with
          commanded := if s.heater.commanded = .l0 then .l1 else .l2
          h1Switch := if s.heater.commanded = .l0 then some s.path.timeBase else s.heater.h1Switch
          h2Switch := if s.heater.commanded = .l1 then some s.path.timeBase else s.heater.h2Switch
          lastUp := some s.path.timeBase }
      else s.heater) ∧
  (∀ s : State, heaterSample s = stageStep (forceReduction (regulate s))) ∧
  (∀ (s t : State) (p : List Byte), s.accepts p → (byteAt p 1).getLsbD 0 = true → s.drum.state = .turning →
    s.demandLaw → s.actionLaw → s.recordLaw → ¬(s.accepting p).signalsDry → exec (.sample p) s = .next t →
    t.faults.records = s.faults.records →
    t.heater =
      { (heaterSample (s.setPath t.path)).heater with
        h1 := t.heater.h1
        h2 := t.heater.h2
        refH1 := decide (t.heater.commanded ≠ .l0)
        refH2 := decide (t.heater.commanded = .l2) }) ∧
  (∀ (s t : State) (p : List Byte) (first rest : List SampleBlock), s.drum.state = .ramp →
    s.tacho.natAbs < s.param .airflowSpeed → fillOrder SampleBlock.all s.choice.sample = first ++ .heater :: rest →
    SampleBlock.drum ∈ rest → exec (.sample p) s = .next t → t.heater.commanded.code ≤ s.heater.commanded.code) ∧
  (∀ (now start : Tick) (n : Nat),
    stampLasted now none n = true ∧ (stampLasted now (some start) n = true ↔ n ≤ (now - start).toNat)) ∧
  (∀ (c : Instr) (s t : State), (∀ high, c ≠ .reset high) → exec c s = .next t →
    (¬(s.heater.commanded = .l0 ↔ t.heater.commanded = .l0) → t.heater.h1Switch = some t.path.timeBase) ∧
    (¬(s.heater.commanded = .l2 ↔ t.heater.commanded = .l2) → t.heater.h2Switch = some t.path.timeBase) ∧
    (t.heater.h1Switch = s.heater.h1Switch ∨ t.heater.h1Switch = some t.path.timeBase) ∧
    (t.heater.h2Switch = s.heater.h2Switch ∨ t.heater.h2Switch = some t.path.timeBase))

/-- The drum on a SAMPLE. In RAMP, where no record changes and the door stays closed, the setpoint moves toward its target
by RAMP_STEP, and the drum enters TURNING exactly when it has reached the target and the tacho is within SPEED_TOLERANCE
of it, stamped with the present count. A RAMP or TURNING drum at a SAMPLE that opens the door, or that brings FUSE_OPEN
before the drum's work, enters DECEL with its direction kept and the coast count at 0, and makes its first step down at
that SAMPLE; a RAMP at rest enters DWELL, and so does a DECEL that is at rest after its step. STOP, PAUSE and a RUN of the
other direction act on RAMP and TURNING in this way at every event. FIELD_LINK is absent, or stays, for its going would
act first (log entry 24). In DECEL the setpoint moves toward 0 by RAMP_STEP and a drum at rest enters DWELL with
DRUM_OVERRUN gone; a RAMP that has reached its speed enters TURNING, stamped, with MOTOR_STALL gone, and stays there
unless the going of MOTOR_STALL moves the winner; one step of a setpoint is RAMP_STEP, or the whole way when that is no
more (05 R76, R78, R80 to R82, R85, R87, R88, R92; 09 R155, R159). -/
def Obligations.DrumStepsTowardItsTarget : Prop :=
  (∀ (s : State) (p : List Byte), s.accepts p → s.drum.state = .decel →
    ∃ t, exec (.sample p) s = .next t ∧ t.drum.setpoint = s.drum.setpoint - s.param .rampStep ∧
      (if t.drum.setpoint = 0 ∧ (decodeReadings p).tacho.natAbs ≤ s.param .stopSpeed then
        t.drum.state = .dwell ∧ t.drum.dir = .stop ∧ t.present .drumOverrun = false
      else t.drum.state = .decel ∧ t.drum.dir = s.drum.dir ∧ t.present .drumOverrun = s.present .drumOverrun)) ∧
  (∀ (s t : State) (p : List Byte), s.accepts p → s.drum.state = .ramp → s.demandLaw → s.actionLaw → s.recordLaw →
    (byteAt p 1).getLsbD 0 = true → exec (.sample p) s = .next t → t.faults.records = s.faults.records →
    t.drum.setpoint =
      (if s.drum.setpoint ≤ s.drum.target then min s.drum.target (s.drum.setpoint + s.param .rampStep)
      else max s.drum.target (s.drum.setpoint - s.param .rampStep)) ∧
    t.drum.dir = s.drum.dir ∧ t.drum.target = s.drum.target ∧ t.drum.winner = s.drum.winner ∧
    (if t.drum.setpoint = s.drum.target ∧
        ((decodeReadings p).tacho - s.signedTarget).natAbs ≤ s.param .speedTolerance then
      t.drum.state = .turning ∧ t.drum.turningEntry = some s.path.timeBase ∧ t.drum.spinup = none ∧
      t.present .motorStall = false
    else t.drum.state = .ramp ∧ t.drum.turningEntry = s.drum.turningEntry ∧ t.drum.spinup = s.drum.spinup)) ∧
  (∀ (s : State) (p : List Byte), s.accepts p → s.drum.state = .ramp ∨ s.drum.state = .turning → s.drumLaw →
    s.demandLaw → s.recordLaw → (s.present .fieldLink = false ∨ 1 < s.badCount .field) →
    (byteAt p 1).getLsbD 0 = false ∨
      (s.present .fuseOpen = false ∧ (byteAt p 1).getLsbD 3 = false ∧
        ∃ first rest, fillOrder SampleBlock.all s.choice.sample = first ++ .limits :: rest ∧ SampleBlock.drum ∈ rest) →
    ∃ t, exec (.sample p) s = .next t ∧ t.drum.winner = .stop ∧ t.drum.target = 0 ∧ t.drum.spinup = none ∧
      (if s.drum.state = .ramp ∧ s.drum.setpoint = 0 ∧ (decodeReadings p).tacho.natAbs ≤ s.param .stopSpeed then
        t.drum.state = .dwell ∧ t.drum.dir = .stop ∧ t.drum.setpoint = 0 ∧ t.drum.dwell = some 0
      else t.drum.setpoint = s.drum.setpoint - s.param .rampStep ∧
        if t.drum.setpoint = 0 ∧ (decodeReadings p).tacho.natAbs ≤ s.param .stopSpeed then
          t.drum.state = .dwell ∧ t.drum.dir = .stop ∧ t.drum.dwell = some 0
        else
          t.drum.state = .decel ∧ t.drum.dir = s.drum.dir ∧ t.drum.coast = some 0 ∧ t.drum.overrunMark = false)) ∧
  (∀ (s : State) (w : Demand), s.drum.state = .ramp ∨ s.drum.state = .turning →
    (∀ d v, w.run? = some (d, v) → d ≠ s.drum.dir) →
    (actOn w s).drum =
      if s.drum.state = .ramp ∧ s.drum.setpoint = 0 ∧ s.tacho.natAbs ≤ s.param .stopSpeed then
        { s.drum with
          state := .dwell, dir := .stop, setpoint := 0, target := 0, spinup := none, coast := none, dwell := some 0 }
      else
        { s.drum with
          state := .decel, target := 0, spinup := none, coast := some 0, overrunMark := false, dwell := none }) ∧
  (∀ s : State, s.drum.state = .ramp → s.drum.setpoint = s.drum.target →
    (s.tacho - s.signedTarget).natAbs ≤ s.param .speedTolerance →
    (drumEndTest s).drum.turningEntry = some s.path.timeBase ∧ (drumEndTest s).present .motorStall = false ∧
    (s.present .motorStall = false →
      (drumEndTest s).drum.state = .turning ∧ (drumEndTest s).drum.spinup = none ∧
      (drumEndTest s).drum.dir = s.drum.dir ∧ (drumEndTest s).drum.target = s.drum.target ∧
      (drumEndTest s).drum.winner = s.drum.winner)) ∧
  (∀ step target setpoint : Nat,
    moveToward step target setpoint =
      if setpoint ≤ target then min target (setpoint + step) else max target (setpoint - step))

/-- A door opening suspends an ACTIVE cycle with cause DOOR, completes it in an ANTICREASE phase, and ends COOLDOWN, each
with its events; a fault of the same SAMPLE may halt it instead. Where the estimator signals DRY on the same SAMPLE, the
phase may end first, and the door then meets the next phase or no cycle; the acceptance comes after the frame's effect on
the LINK condition (log entry 24) (07 R127, R131, R133, R134; 08 R138, R139, R147,
R148; 11 R183). -/
def Obligations.DoorOpeningLeavesTheCycle : Prop :=
  ∀ (s : State) (p : List Byte), s.accepts p → s.path.door = .isClosed → (byteAt p 1).getLsbD 0 = false →
    ∃ t, exec (.sample p) s = .next t ∧ t.cycle.state ≠ .active ∧ t.cycle.slot = s.cycle.slot ∧
      (s.cycle.state = .active → ¬(s.accepting p).signalsDry → s.cycle.record.kind ≠ .anticrease →
        (t.cycle.state = .suspended ∧ t.cycle.suspension = some 0 ∧ s.tells 1 t [(.suspended, 2)]) ∨
        t.cycle.state = .halted) ∧
      (s.cycle.state = .active → ¬(s.accepting p).signalsDry → s.cycle.record.kind = .anticrease →
        (t.cycle.state = .idle ∧
          s.tells 1 t [(.cycleDone, if s.cycle.notDry then 2 else if s.cycle.drySeen then 1 else 3)]) ∨
        t.cycle.state = .halted) ∧
      (s.cycle.state = .active → (s.accepting p).signalsDry →
        (t.cycle.state = .suspended ∧ t.cycle.suspension = some 0 ∧ s.tells 0 t [(.suspended, 2)]) ∨
        t.cycle.state = .idle ∨ t.cycle.state = .halted) ∧
      (s.cycle.state = .cooldown → t.cycle.cooldown = none ∧
        ((t.cycle.state = .idle ∧ s.tells 1 t [(.cooldownEnd, 0), (.cycleDone, 4)]) ∨ t.cycle.state = .halted)) ∧
      (s.cycle.state = .suspended → t.cycle.state = .suspended ∨ t.cycle.state = .halted) ∧
      (s.cycle.state = .idle → t.cycle.state = .idle ∨ t.cycle.state = .halted) ∧
      (s.cycle.state = .halted → t.cycle.state = .halted) ∧
      (¬(s.accepting p).signalsDry →
        t.cycle.phase = s.cycle.phase ∧ t.cycle.record = s.cycle.record ∧ t.cycle.elapsed = s.cycle.elapsed ∧
        t.cycle.notDry = s.cycle.notDry ∧ t.cycle.drySeen = s.cycle.drySeen)

/-- SAMPLE_COPY: the accepted SAMPLE that brings the decimation counter to COPY_DECIMATION; the counter returns to 0 and
the copy, the payload as received with W and the hit count after the estimator's work, is the newest frame, unless it
finds a full queue of kept frames (11 R181, R184; 02 R30). With READY low no frame leaves. That bits 5 to 7 of the copied
flags byte are as received is the model's reading (log entry 32). -/
def Obligations.SampleCopyJoinsTheQueue : Prop :=
  ∀ (s : State) (p : List Byte), s.accepts p → s.param .copyDecimation ≠ 0 →
    s.param .copyDecimation ≤ s.upstream.copyCounter + 1 →
    exec (.sampleCopy p) s = exec (.sample p) s ∧
    ∃ t, exec (.sampleCopy p) s = .next t ∧ t.upstream.copyCounter = 0 ∧
      (s.links.ready = false →
        t.upstream.queue.getLast? = some ⟨.sampleCopy, p ++ bytes16 (t.moisture.w16 / 16) ++ [byteOf t.moisture.hits]⟩ ∨
        (16 ≤ t.upstream.queue.length ∧ hasDisplaceable t.upstream.queue = false))

/-- A condition that arises makes its record ACTIVE, sets the sticky flag, raises the count and is told by FAULT_RAISED;
one that goes makes it CLEAR with FAULT_CLEARED, or LATCHED without an event at SAFE_STOP; then the effective action is
the highest of the records that count (09 R158, R159; 03 R46). -/
def Obligations.ArisingAndGoingChangeTheRecord : Prop :=
  ∀ (s : State) (x : Source),
    (s.present x = true → arise x s = s) ∧ (s.present x = false → goAway x s = s) ∧
    (s.present x = false →
      (arise x s).present x = true ∧
      (arise x s).record x = ⟨.active, true, satSucc 255 (s.record x).count⟩ ∧
      (∀ y, y ≠ x → (arise x s).record y = s.record y ∧ (arise x s).present y = s.present y) ∧
      (arise x s).faults.effective = (arise x s).highestAction ∧
      (x = .exhaustSensor → (arise x s).moisture.ring = []) ∧
      (s.upstream.events = [] → s.links.ready = false → s.upstream.queue.length < 15 →
        (arise x s).upstream.queue = s.upstream.queue ++ [⟨.event, [0x09, byteOf x.row.index.val, 0x01]⟩])) ∧
    (s.present x = true → (s.record x).state = .active →
      (goAway x s).present x = false ∧
      (∀ y, y ≠ x → (goAway x s).record y = s.record y ∧ (goAway x s).present y = s.present y) ∧
      (goAway x s).faults.effective = (goAway x s).highestAction ∧
      (s.action x = .safeStop →
        (goAway x s).record x = { s.record x with state := .latched } ∧ (goAway x s).upstream = s.upstream) ∧
      (s.action x ≠ .safeStop →
        (goAway x s).record x = { s.record x with state := .clear } ∧
        (s.upstream.events = [] → s.links.ready = false → s.upstream.queue.length < 15 →
          (goAway x s).upstream.queue = s.upstream.queue ++ [⟨.event, [0x0A, byteOf x.row.index.val, 0x01]⟩])))

/-! ### Requests. `answered`, `State.heard`, `State.serves` and `State.quiet` say how a request is taken (10 R168); the last
two bound the upstream queue by its 16 frames, as the upstream laws do (11 R181). -/

/-- An unknown KIND is answered UNKNOWN, a KEEPALIVE with a LEN other than 0 and every request with a LEN outside its
range FORMAT; neither changes anything (01 R6; 03 R51; 07 R119; 08 R137, R141, R144; 09 R163; 10 R173, R176, R178,
R179). -/
def Obligations.UnknownAndMisformedRequestsAreAnswered : Prop :=
  ∀ s : State, s.quiet → ∀ p : List Byte, p.length ≤ 32 →
    (∀ k : Byte, ¬(0x41 ≤ k.toNat ∧ k.toNat ≤ 0x4D) →
      exec (.unknownRequest k p) s = .next (answered k (.plain .unknown) s.heard)) ∧
    (p ≠ [] → exec (.keepaliveFormat p) s = .next (answered 0x49 (.plain .format) s.heard)) ∧
    (p.length ≠ 2 →
      exec (.tableRead p) s = .next (answered 0x42 (.plain .format) s.heard) ∧
      exec (.cycleStart p) s = .next (answered 0x43 (.plain .format) s.heard)) ∧
    (p.length ≠ 1 →
      exec (.faultClear p) s = .next (answered 0x47 (.plain .format) s.heard) ∧
      exec (.trimStep p) s = .next (answered 0x4A (.plain .format) s.heard)) ∧
    (p ≠ [] →
      exec (.cyclePause p) s = .next (answered 0x44 (.plain .format) s.heard) ∧
      exec (.cycleResume p) s = .next (answered 0x45 (.plain .format) s.heard) ∧
      exec (.cycleAbort p) s = .next (answered 0x46 (.plain .format) s.heard) ∧
      exec (.statusRead p) s = .next (answered 0x48 (.plain .format) s.heard) ∧
      exec (.limitLock p) s = .next (answered 0x4B (.plain .format) s.heard) ∧
      exec (.limitUnlock p) s = .next (answered 0x4C (.plain .format) s.heard) ∧
      exec (.upstreamFlush p) s = .next (answered 0x4D (.plain .format) s.heard))

/-- The checks 1 to 6 of a TABLE_WRITE, in their order: the first that fails gives the result, and the table is not
changed. The protected range counts PROTECT_COUNT slots upward from slot 0 at LOW and downward from slot 15 at HIGH; the
safety set and the entries in use are those of 10 R175 and R172, over the phases of the running program, which end at the
first NONE record (07 R118; 10 R170, R172, R175, R177). -/
def Obligations.TableWriteChecksRefuseInOrder : Prop :=
  (∀ s : State, s.quiet →
    (∀ p : List Byte, p.length ≤ 32 → (p.length < 3 ∨ 16 < p.length) →
      exec (.tableWriteRefused p) s = .next (answered 0x41 (.plain .format) s.heard)) ∧
    (∀ p : List Byte, 3 ≤ p.length → p.length ≤ 16 → 5 < (byteAt p 0).toNat →
      exec (.tableWriteRefused p) s = .next (answered 0x41 (.plain .range) s.heard)) ∧
    (∀ (tab : TableId) (i : Byte) (d : List Byte), d.length ≤ 30 →
      (d.length ≠ tab.size → exec (writeRow tab i d) s = .next (answered 0x41 (.plain .format) s.heard)) ∧
      (d.length = tab.size → tab.count ≤ i.toNat →
        exec (writeRow tab i d) s = .next (answered 0x41 (.plain .range) s.heard)) ∧
      (d.length = tab.size → i.toNat < tab.count → s.isProtected = true → s.inSafetySet tab i.toNat = true →
        exec (writeRow tab i d) s = .next (answered 0x41 (.plain .locked) s.heard)) ∧
      (d.length = tab.size → i.toNat < tab.count → (s.isProtected = false ∨ s.inSafetySet tab i.toNat = false) →
        s.inUse tab i.toNat = true →
        exec (writeRow tab i d) s = .next (answered 0x41 (.plain .inUse) s.heard)))) ∧
  (∀ s : State,
    (s.isProtected = true ↔ s.tables.lock = true ∧ s.links.service = false) ∧
    (∀ slot, slot < 16 →
      (s.slotProtected slot = true ↔
        (s.param .protectSide = 0 ∧ slot < s.param .protectCount) ∨
        (s.param .protectSide ≠ 0 ∧ 16 ≤ slot + s.param .protectCount))) ∧
    (∀ i,
      s.inSafetySet .limits i = true ∧ s.inSafetySet .actions i = true ∧ s.inSafetySet .pattern i = false ∧
      s.inSafetySet .curve i = false ∧ (s.inSafetySet .program i = true ↔ s.slotProtected (i / 8) = true) ∧
      (s.inSafetySet .config i = true ↔ i = 8 ∨ i = 20 ∨ i = 28 ∨ i = 29)) ∧
    (∀ (slot : Nat) (q : Nat) (r : PhaseRecord),
      (q, r) ∈ s.programPhases slot ↔
        q < 8 ∧ r = s.programAt (8 * slot + q) ∧ ∀ k, k ≤ q → (s.programAt (8 * slot + k)).kind ≠ .none) ∧
    (∀ i,
      s.inUse .limits i = false ∧ s.inUse .actions i = false ∧ s.inUse .config i = false ∧
      (s.inUse .program i = true ↔
        (s.cycle.state = .active ∨ s.cycle.state = .suspended) ∧ 8 * s.cycle.slot ≤ i ∧ i < 8 * s.cycle.slot + 8) ∧
      (s.inUse .curve i = true ↔ s.cycle.state = .active ∨ s.cycle.state = .suspended) ∧
      (s.inUse .pattern i = true ↔
        (s.cycle.state = .active ∨ s.cycle.state = .suspended) ∧
        ∃ x ∈ s.programPhases s.cycle.slot,
          (x.2.start - x.2.start % x.2.wrap ≤ i ∧ i < x.2.start - x.2.start % x.2.wrap + x.2.wrap) ∨
          ∃ u, x.2.untangle = some u ∧ u - u % 4 ≤ i ∧ i < u - u % 4 + 4)))

/-- PROGRAM_WRITE, PATTERN_WRITE and CURVE_WRITE past checks 1 to 6: an unknown code is refused with RANGE, kind NONE
and direction EMPTY store the empty entry, and any other entry is stored with each field brought into range, CLAMPED
exactly when a stored byte differs from the written one (07 R115, R116; 06 R96; 03 R35; 10 R171). -/
def Obligations.ProgramPatternAndCurveWritesStoreClamped : Prop :=
  ∀ (s : State) (i : Byte) (d : List Byte), s.quiet →
    (d.length = 14 → i.toNat < 128 → (s.isProtected = false ∨ s.slotProtected (i.toNat / 8) = false) →
      s.inUse .program i.toNat = false →
      (5 < (byteAt d 0).toNat → exec (.programWrite i d) s = .next (answered 0x41 (.plain .range) s.heard)) ∧
      ((byteAt d 0).toNat = 0 →
        exec (.programWrite i d) s =
          .next (answered 0x41 (.plain .ok)
            (storeProgram i.toNat ⟨.none, 300, .l0, 0, 50, 1, 1, 0, 4, none⟩ s.heard))) ∧
      (∀ (k : PhaseKind) (r : PhaseRecord), k ≠ .none → PhaseKind.ofCode? (byteAt d 0).toNat = some k →
        r = { kind := k
              tSet := max 300 (min 800 (fieldSigned16 d 1))
              cap := if k = .heatToDry ∨ k = .heatTimed then Level.ofCode (byteAt d 3).toNat else .l0
              dryness := min 1000 (field16 d 4)
              confirm := max 50 (min 12000 (field16 d 6))
              depth := max 1 (min 64 (byteAt d 8).toNat)
              duration := max 1 (min 240 (field16 d 9))
              start := min 31 (byteAt d 11).toNat
              wrap :=
                if (byteAt d 12).toNat ≤ 4 then 4 else if (byteAt d 12).toNat ≤ 8 then 8
                else if (byteAt d 12).toNat ≤ 16 then 16 else 32
              untangle := if byteAt d 13 = 0xFF then none else some (min 31 (byteAt d 13).toNat) } →
        exec (.programWrite i d) s =
          .next (answered 0x41 (.plain (if r.bytes = d then .ok else .clamped)) (storeProgram i.toNat r s.heard)))) ∧
    (d.length = 4 → i.toNat < 32 → s.inUse .pattern i.toNat = false →
      (3 < (byteAt d 0).toNat → exec (.patternWrite i d) s = .next (answered 0x41 (.plain .range) s.heard)) ∧
      ((byteAt d 0).toNat = 0 →
        exec (.patternWrite i d) s =
          .next (answered 0x41 (.plain .ok) (storePattern i.toNat ⟨.empty, 0, 0⟩ s.heard))) ∧
      (∀ (k : PatternDir) (e : PatternEntry), k ≠ .empty → PatternDir.ofCode? (byteAt d 0).toNat = some k →
        e = ⟨k, max 200 (min 600 (field16 d 1)), max 1 (byteAt d 3).toNat⟩ →
        exec (.patternWrite i d) s =
          .next (answered 0x41 (.plain (if e.bytes = d then .ok else .clamped)) (storePattern i.toNat e s.heard)))) ∧
    (d.length = 2 → i.toNat < 9 → s.inUse .curve i.toNat = false →
      exec (.curveWrite i d) s =
        .next (answered 0x41 (.plain (if field16 d 0 ≤ 1000 then .ok else .clamped))
          (storeCurve i.toNat (min 1000 (field16 d 0)) s.heard)))

/-- LIMITS_WRITE past the checks: the threshold first, then the restore value against the stored threshold, then the
persist count; ABORT_COOL keeps its threshold alone (09 R151, R152). -/
def Obligations.LimitsWritesKeepRestoreBelowTheThreshold : Prop :=
  ∀ (s : State) (i : Byte) (d : List Byte) (high restore : Int) (persist : Nat) (e : LimitEntry), s.quiet →
    s.isProtected = false → d.length = 5 →
    high = fieldSigned16 d 0 → restore = fieldSigned16 d 2 → persist = (byteAt d 4).toNat →
    ((i = 0 ∧ e = ⟨max 400 (min 1200 high), max (-300) (min (max 400 (min 1200 high) - 10) restore), 1⟩) ∨
     (i = 1 ∧ e = ⟨max 800 (min 2200 high), max (-300) (min (max 800 (min 2200 high) - 10) restore), 1⟩) ∨
     (i = 2 ∧ e = ⟨max 1000 (min 20000 high), max 0 (min (max 1000 (min 20000 high) - 10) restore),
        max 1 (min 100 persist)⟩) →
      exec (.limitsWrite i d) s =
        .next (answered 0x41 (.plain (if e = ⟨high, restore, persist⟩ then .ok else .clamped))
          (storeLimit i.toNat e s.heard))) ∧
    (i = 3 →
      exec (.limitsWrite i d) s =
        .next (answered 0x41 (.plain (if 300 ≤ high ∧ high ≤ 800 then .ok else .clamped))
          (storeLimit 3 ⟨max 300 (min 800 high), 0, 0⟩ s.heard)))

/-- ACTIONS_WRITE past checks 1 to 6: an action below the source's floor stores the floor, the others stay, the
effective action is worked out anew, and a code above 04h is refused with RANGE (09 R159, R161, R162). That a write below
the floor is CLAMPED also where the entry holds the floor already, which R161 says and R162 answers with OK, is the
model's reading (log entry 28). -/
def Obligations.ActionsWritesKeepTheFloor : Prop :=
  ∀ (s : State) (x : Source) (i b : Byte), s.quiet → s.actionLaw → s.isProtected = false → i = byteOf x.row.index.val →
    (4 < b.toNat → exec (.actionsWrite i [b]) s = .next (answered 0x41 (.plain .range) s.heard)) ∧
    (∀ a, Action.ofCode? b.toNat = some a →
      ∃ t, exec (.actionsWrite i [b]) s = .next t ∧
        (t.action x).code = max a.code x.row.floor.code ∧ (∀ y, y ≠ x → t.action y = s.action y) ∧
        (∀ y, t.record y = s.record y ∧ t.present y = s.present y) ∧ s.requestFrame t ∧ t.tables = s.tables ∧
        t.faults.effective = t.highestAction ∧
        replied 0x41 (.plain (if a.code < x.row.floor.code then .clamped else .ok)) t)

/-- A write of a CONFIG parameter that takes effect at its next use stores the value clamped into its range, and moves
nothing else; the rows of single parameters are CONFIG_WRITEs of their index (10 R171, R174; 03 R53). -/
def Obligations.ConfigWritesStoreClamped : Prop :=
  (∀ (s : State) (p : Param) (v : Half),
    exec (paramRow p v) s = exec (.configWrite (byteOf p.row.index.val) (bytesOfHalf v)) s) ∧
  (∀ (s : State) (p : Param) (v : Half) (c : Nat), s.quiet → p.actsAtOnce = false →
    (p.row.safety = true → s.isProtected = false) →
    c = (if p = .electrodeBurst then if v.toNat ≤ 6 then 4 else 8
         else if p = .attnMask then v.toNat % 8
         else max p.row.lo (min p.row.hi v.toNat)) →
    exec (paramRow p v) s =
      .next (answered 0x41 (.plain (if c = v.toNat then .ok else .clamped)) (s.heard.setParam p c)))

/-- KEEPALIVE_UPPER_WRITE and KEEPALIVE_LOWER_WRITE: the bounds are held apart, the timer restarts or stops at 0, the
cause becomes NONE, and a present KEEPALIVE condition goes (01 R12). -/
def Obligations.KeepaliveWritesHoldTheBoundsApart : Prop :=
  (∀ (s : State) (v : Half), s.serves →
    (∃ t, exec (.keepaliveUpperWrite v) s = .next t ∧ t.present .keepalive = false ∧
      t.links.keepalive = ⟨0, decide (min 100 v.toNat ≠ 0), .none⟩ ∧
      t.param .keepaliveUpper = min 100 v.toNat ∧
      t.param .keepaliveLower =
        if min 100 v.toNat ≠ 0 ∧ min 100 v.toNat ≤ s.param .keepaliveLower then min 100 v.toNat - 1
        else s.param .keepaliveLower) ∧
    (∃ t, exec (.keepaliveLowerWrite v) s = .next t ∧ t.present .keepalive = false ∧
      t.links.keepalive = ⟨0, decide (s.param .keepaliveUpper ≠ 0), .none⟩ ∧
      t.param .keepaliveUpper = s.param .keepaliveUpper ∧
      t.param .keepaliveLower =
        if s.param .keepaliveUpper ≠ 0 ∧ s.param .keepaliveUpper ≤ min 20 v.toNat then s.param .keepaliveUpper - 1
        else min 20 v.toNat)) ∧
  ∀ (s : State) (v : Half) (c : Nat), s.quiet →
    (c = min 100 v.toNat →
      (c = 0 ∨ s.param .keepaliveLower < c →
        exec (.keepaliveUpperWrite v) s =
          .next (answered 0x41 (.plain (if c = v.toNat then .ok else .clamped))
            ((s.heard.setParam .keepaliveUpper c).setKeepalive ⟨0, decide (c ≠ 0), .none⟩))) ∧
      (c ≠ 0 → c ≤ s.param .keepaliveLower →
        exec (.keepaliveUpperWrite v) s =
          .next (answered 0x41 (.plain .clamped)
            (((s.heard.setParam .keepaliveUpper c).setParam .keepaliveLower (c - 1)).setKeepalive
              ⟨0, true, .none⟩)))) ∧
    (c = min 20 v.toNat →
      (s.param .keepaliveUpper = 0 ∨ c < s.param .keepaliveUpper →
        exec (.keepaliveLowerWrite v) s =
          .next (answered 0x41 (.plain (if c = v.toNat then .ok else .clamped))
            ((s.heard.setParam .keepaliveLower c).setKeepalive
              ⟨0, decide (s.param .keepaliveUpper ≠ 0), .none⟩))) ∧
      (s.param .keepaliveUpper ≠ 0 → s.param .keepaliveUpper ≤ c →
        exec (.keepaliveLowerWrite v) s =
          .next (answered 0x41 (.plain .clamped)
            ((s.heard.setParam .keepaliveLower (s.param .keepaliveUpper - 1)).setKeepalive ⟨0, true, .none⟩))))

/-- The other CONFIG writes that act at once: SHORT_LIMIT on the all-short count, LINK_ERR_LIMIT on both bad-frame
counters, AIRFLOW_SPEED on the commanded level, COOL_SPEED on the override, COPY_DECIMATION and REPORT_INTERVAL on their
counters (03 R39; 01 R7; 04 R62, R64; 05 R76; 11 R184). The last premise of the COOL_SPEED clause is part of the law of
the walk. -/
def Obligations.WritesThatActAtOnce : Prop :=
  ∀ (s : State) (v : Half) (c : Nat), s.quiet →
    (c = max 10 (min 1000 v.toNat) →
      ∃ t, exec (.shortLimitWrite v) s = .next t ∧ s.requestFrame t ∧ t.tables = (s.setParam .shortLimit c).tables ∧
        t.moisture.allShort = min s.moisture.allShort c ∧
        t.present .electrodeShort = (s.present .electrodeShort || decide (c ≤ s.moisture.allShort)) ∧
        replied 0x41 (.plain (if c = v.toNat then .ok else .clamped)) t) ∧
    (c = max 2 (min 15 v.toNat) →
      ∃ t, exec (.linkErrLimitWrite v) s = .next t ∧ t.path = s.path ∧ t.tables = (s.setParam .linkErrLimit c).tables ∧
        t.badCount .field = min (s.badCount .field) c ∧ t.badCount .controller = min (s.badCount .controller - 1) c ∧
        t.present .fieldLink = (s.present .fieldLink || decide (c ≤ s.badCount .field)) ∧
        t.present .controllerLink = decide (c ≤ s.badCount .controller - 1) ∧
        replied 0x41 (.plain (if c = v.toNat then .ok else .clamped)) t) ∧
    (c = max 100 (min 500 v.toNat) → s.isProtected = false → s.heatLaw →
      ∃ t, exec (.airflowSpeedWrite v) s = .next t ∧ s.requestFrame t ∧ t.tables = (s.setParam .airflowSpeed c).tables ∧
        t.heater.commanded =
          (if s.drum.state = .ramp ∧ s.speed < c then .l0 else s.heater.commanded) ∧
        replied 0x41 (.plain (if c = v.toNat then .ok else .clamped)) t) ∧
    (c = max 200 (min 600 v.toNat) → s.drumLaw → s.demandLaw → (s.walkerTurn = true → s.holds = true) →
      ∃ t, exec (.coolSpeedWrite v) s = .next t ∧ s.requestFrame t ∧ t.tables = (s.setParam .coolSpeed c).tables ∧
        t.drum.winner = (if s.stopDemand = false ∧ s.overrides = true then .override c else s.drum.winner) ∧
        (s.stopDemand = false → s.overrides = true → t.drum.state = .ramp → t.drum.target = c) ∧
        replied 0x41 (.plain (if c = v.toNat then .ok else .clamped)) t) ∧
    (c = min 100 v.toNat →
      exec (.copyDecimationWrite v) s =
        .next (answered 0x41 (.plain (if c = v.toNat then .ok else .clamped))
          ((s.heard.setParam .copyDecimation c).setUpstream { s.upstream with copyCounter := 0 }))) ∧
    (c = min 60 v.toNat →
      exec (.reportIntervalWrite v) s =
        .next (answered 0x41 (.plain (if c = v.toNat then .ok else .clamped))
          ((s.heard.setParam .reportInterval c).setUpstream { s.upstream with reportTimer := 0 })))

/-- TABLE_READ answers the entry as it stands, in the layout of its table, and changes nothing. STATUS_READ answers its 28
bytes and then clears the sticky flag of every CLEAR record (01 R13; 10 R173, R178; 09 R161, R165). -/
def Obligations.ReadsAnswerTheStateAsItStands : Prop :=
  (∀ s : State, s.quiet →
    (∀ id i : Byte,
      (5 < id.toNat → exec (.tableRead [id, i]) s = .next (answered 0x42 (.plain .range) s.heard)) ∧
      (∀ tab, TableId.ofCode? id.toNat = some tab →
        (tab.count ≤ i.toNat → exec (.tableRead [id, i]) s = .next (answered 0x42 (.plain .range) s.heard)) ∧
        (i.toNat < tab.count →
          exec (.tableRead [id, i]) s = .next (answered 0x42 ⟨.ok, s.entryBytes tab i.toNat⟩ s.heard)))) ∧
    exec (.statusRead []) s = .next (answered 0x48 ⟨.ok, s.heard.statusBytes⟩ (clearSticky s.heard)) ∧
    (∀ x : Source,
      (clearSticky s.heard).record x =
        (if (s.record x).state = .clear then { s.record x with sticky := false } else s.record x))) ∧
  (∀ s : State,
    (∀ i, i < 128 →
      s.entryBytes .program i =
        [byteOf (s.programAt i).kind.code] ++ bytesSigned16 (s.programAt i).tSet ++
        [byteOf (s.programAt i).cap.code] ++ bytes16 (s.programAt i).dryness ++ bytes16 (s.programAt i).confirm ++
        [byteOf (s.programAt i).depth] ++ bytes16 (s.programAt i).duration ++
        [byteOf (s.programAt i).start, byteOf (s.programAt i).wrap,
          match (s.programAt i).untangle with
          | none => 0xFF
          | some u => byteOf u]) ∧
    (∀ i, i < 32 →
      s.entryBytes .pattern i =
        [byteOf (s.patternAt i).dir.code] ++ bytes16 (s.patternAt i).speed ++ [byteOf (s.patternAt i).duration]) ∧
    (∀ i, i < 9 →
      s.entryBytes .curve i =
        bytes16 (s.curveAt i).value ++ [if (s.curveAt i).written = true then 0x01 else 0x00]) ∧
    (∀ i : Fin 4,
      s.entryBytes .limits i.val =
        bytesSigned16 (s.limitAt i).high ++ bytesSigned16 (s.limitAt i).restore ++
        [byteOf (s.limitAt i).persist]) ∧
    (∀ x : Source,
      s.entryBytes .actions x.row.index.val =
        [byteOf (s.action x).code, byteOf x.row.floor.code, byteOf (s.record x).count]) ∧
    (∀ p : Param, s.entryBytes .config p.row.index.val = bytes16 (s.param p)) ∧
    s.statusBytes.length = 28 ∧
    s.statusBytes.take 16 =
      [byteOf s.cycle.state.code, byteOf s.cycle.slot, byteOf s.cycle.phase] ++ bytes16 s.cycle.elapsed ++
      [byteOf s.drum.state.code, byteOf s.drum.dir.code] ++ bytes16 s.drum.setpoint ++
      [byteOf
        (s.heater.commanded.code + 4 * min s.heater.wanted.code s.permitted.code + 16 * s.heater.wanted.code +
          if s.heater.commanded.code = min s.heater.wanted.code s.permitted.code then 0 else 64)] ++
      bytes16 s.moisture.w16 ++ bytes16 s.moisture.streak ++
      [byteOf s.walker.count, byteOf s.faults.effective.code] ∧
    (∀ x : Source,
      (byteAt s.statusBytes (16 + x.row.index.val / 4)).toNat / 4 ^ (x.row.index.val % 4) % 4 =
        (s.record x).state.code ∧
      (field16 s.statusBytes 20).testBit x.row.index.val = (s.record x).sticky) ∧
    s.statusBytes.drop 22 =
      [byteOf
        ((if s.tables.lock = true then 1 else 0) + (if s.links.service = true then 2 else 0) +
          4 * s.links.keepalive.cause.code),
       byteOf s.upstream.queue.length] ++ bytes16 s.path.missed ++ bytes16 s.upstream.dropped) ∧
  (∀ n : Nat, bytes16 n = [byteOf (n / 256), byteOf (n % 256)]) ∧
  (∀ n : Int, -32768 ≤ n → n < 32768 → bytesSigned16 n = bytes16 (if n < 0 then n + 65536 else n).toNat) ∧
  [CycleState.idle, .active, .suspended, .cooldown, .halted].map CycleState.code = [0, 1, 2, 3, 4] ∧
  [DrumState.stopped, .ramp, .turning, .decel, .dwell].map DrumState.code = [0, 1, 2, 3, 4] ∧
  [Direction.stop, .cw, .ccw].map Direction.code = [0, 1, 2] ∧
  [Level.l0, .l1, .l2].map Level.code = [0, 1, 2] ∧
  [Action.note, .cutback, .heatOff, .coolRun, .safeStop].map Action.code = [0, 1, 2, 3, 4] ∧
  [RecordState.clear, .active, .latched].map RecordState.code = [0, 1, 2] ∧
  [KeepaliveCause.none, .early, .late].map KeepaliveCause.code = [0, 1, 2] ∧
  [PhaseKind.none, .heatToDry, .heatTimed, .cool, .tumble, .anticrease].map PhaseKind.code = [0, 1, 2, 3, 4, 5] ∧
  [PatternDir.empty, .cw, .ccw, .pause].map PatternDir.code = [0, 1, 2, 3]

/-- CYCLE_START: the first of the seven checks of 07 R119 that fails gives the result, in the order STATE, RANGE,
NO_PROGRAM, PATTERN_EMPTY, CURVE_INCOMPLETE, DOOR_OPEN, FIELD, and nothing else moves; an accepted one sets slot, choice,
flags and the estimator's and the stager's values, and begins the first phase of the run list with PHASE_BEGIN, at which
the walker names the phase's first entry and a STOPPED drum takes it, or completes at once with CYCLE_DONE TIMED when the
list is empty; the result codes are those of 01 (07 R118 to R121, R123; 03 R48; 04 R58; 05 R76 to R79; 06 R98, R103;
11 R183). That ELECTRODE_SHORT goes, where R121 leaves the fault records as they stand, is the model's
reading (log entry 30). -/
def Obligations.CycleStartChecksAndBegins : Prop :=
  ∀ (s : State) (slot a : Byte), s.quiet →
    (∀ r, s.startCheck slot.toNat = some r →
      exec (.cycleStart [slot, a]) s = .next (answered 0x43 (.plain r) s.heard)) ∧
    (∀ filled written : Prop,
      (filled ↔
        ∀ x ∈ s.programPhases slot.toNat,
          (∃ k, k < x.2.wrap ∧ (s.patternAt (x.2.start - x.2.start % x.2.wrap + k)).dir ≠ .empty) ∧
          (∀ u, x.2.untangle = some u → ∃ k, k < 4 ∧ (s.patternAt (u - u % 4 + k)).dir ≠ .empty)) →
      (written ↔
        ((∃ x ∈ s.programPhases slot.toNat, x.2.kind = .heatToDry) → ∀ i, i < 9 → (s.curveAt i).written = true)) →
      (s.cycle.state ≠ .idle → s.startCheck slot.toNat = some .state) ∧
      (s.cycle.state = .idle →
        (15 < slot.toNat → s.startCheck slot.toNat = some .range) ∧
        (slot.toNat ≤ 15 →
          ((s.programAt (8 * slot.toNat)).kind = .none → s.startCheck slot.toNat = some .noProgram) ∧
          ((s.programAt (8 * slot.toNat)).kind ≠ .none →
            (¬filled → s.startCheck slot.toNat = some .patternEmpty) ∧
            (filled →
              (¬written → s.startCheck slot.toNat = some .curveIncomplete) ∧
              (written →
                (s.path.door = .isOpen → s.startCheck slot.toNat = some .doorOpen) ∧
                (s.path.door = .isClosed →
                  (s.silent = true → s.startCheck slot.toNat = some .field) ∧
                  (s.silent = false → s.startCheck slot.toNat = none)))))))) ∧
    [Result.ok, .clamped, .state, .notReady, .locked, .inUse, .range, .format, .unknown, .noProgram, .patternEmpty,
        .curveIncomplete, .doorOpen, .field].map Result.code =
      [0x00, 0x01, 0x02, 0x03, 0x04, 0x05, 0x06, 0x07, 0x08, 0x09, 0x0A, 0x0B, 0x0C, 0x0D] ∧
    (s.startCheck slot.toNat = none → s.actionLaw →
      ∃ t, exec (.cycleStart [slot, a]) s = .next t ∧ replied 0x43 (.plain .ok) t ∧ s.requestFrame t ∧ t.tables = s.tables ∧
        t.cycle.slot = slot.toNat ∧ t.cycle.anticrease = decide (a ≠ 0) ∧ t.cycle.notDry = false ∧
        t.cycle.drySeen = false ∧ t.moisture.w16 = 16000 ∧ t.moisture.streak = 0 ∧ t.moisture.allShort = 0 ∧
        t.moisture.hits = 0 ∧ t.present .electrodeShort = false ∧ t.heater.wanted = .l0 ∧
        match (s.programPhases slot.toNat).filter (fun x => decide (a ≠ 0 ∨ x.2.kind ≠ .anticrease)) with
        | [] =>
          t.cycle.state = .idle ∧ t.cycle.phase = s.cycle.phase ∧ t.cycle.record = s.cycle.record ∧
          t.cycle.elapsed = s.cycle.elapsed ∧ s.tells 12 t [(.cycleDone, 3)]
        | (q, r) :: _ =>
          t.cycle.state = .active ∧ t.cycle.phase = q ∧ t.cycle.record = r ∧ t.cycle.elapsed = 0 ∧
          t.cycle.settle = 0 ∧ t.moisture.ring = [] ∧ t.walker.main = some ⟨r.start - r.start % r.wrap, r.wrap⟩ ∧
          t.walker.untangle = r.untangle.map (fun u => u - u % 4) ∧ t.walker.index = some (s.firstEntry r) ∧
          t.walker.pass = false ∧ t.walker.early = false ∧ t.walker.ret = none ∧ t.walker.score = 0 ∧
          t.walker.count = 0 ∧ t.walker.persist = false ∧ s.tells 12 t [(.phaseBegin, q)] ∧
          (s.drumLaw → s.demandLaw → s.drum.state = .stopped → s.startsDrum (s.firstEntry r) t))

/-- CYCLE_PAUSE, CYCLE_RESUME and CYCLE_ABORT by the cycle state, with their refusals: a pause suspends with a fresh
timer and L0; a resume keeps the streak of a short suspension and clears that of a long one, and the STOPPED drum takes
the entry at the walker's index unless the field is silent; an abort of a hot closed
drum goes to COOLDOWN and any other to IDLE. SUSPENDED PAUSE, RESUMED, COOLDOWN_BEGIN, COOLDOWN_END and CYCLE_DONE
ABORTED are told (08 R137, R139, R141, R142, R144, R145, R147; 05 R76 to R79; 06 R102; 11 R183). -/
def Obligations.PauseResumeAndAbortMoveTheCycle : Prop :=
  ∀ s : State, s.quiet →
    (s.cycle.state ≠ .active → exec (.cyclePause []) s = .next (answered 0x44 (.plain .state) s.heard)) ∧
    (s.cycle.state = .active →
      ∃ t, exec (.cyclePause []) s = .next t ∧ replied 0x44 (.plain .ok) t ∧ s.requestFrame t ∧ t.tables = s.tables ∧
        t.faults.actions = s.faults.actions ∧ t.faults.records = s.faults.records ∧ t.cycle.state = .suspended ∧
        t.cycle.suspension = some 0 ∧ t.heater.commanded = .l0 ∧ t.heater.wanted = s.heater.wanted ∧
        t.moisture.w16 = s.moisture.w16 ∧ t.moisture.streak = s.moisture.streak ∧
        t.moisture.ring = s.moisture.ring ∧ t.cycle.phase = s.cycle.phase ∧ t.cycle.record = s.cycle.record ∧
        t.cycle.elapsed = s.cycle.elapsed ∧ s.tells 12 t [(.suspended, 1)]) ∧
    (s.cycle.state ≠ .suspended → exec (.cycleResume []) s = .next (answered 0x45 (.plain .state) s.heard)) ∧
    (s.cycle.state = .suspended → s.path.door = .isOpen →
      exec (.cycleResume []) s = .next (answered 0x45 (.plain .doorOpen) s.heard)) ∧
    (s.cycle.state = .suspended → s.path.door = .isClosed → s.drum.state ≠ .stopped →
      exec (.cycleResume []) s = .next (answered 0x45 (.plain .notReady) s.heard)) ∧
    (∀ n, s.cycle.state = .suspended → s.path.door = .isClosed → s.drum.state = .stopped →
      s.cycle.suspension = some n →
      ∃ t, exec (.cycleResume []) s = .next t ∧ replied 0x45 (.plain .ok) t ∧ s.requestFrame t ∧ t.tables = s.tables ∧
        t.faults.actions = s.faults.actions ∧ t.faults.records = s.faults.records ∧ t.cycle.state = .active ∧
        t.cycle.suspension = none ∧ t.moisture.ring = [] ∧ t.moisture.w16 = s.moisture.w16 ∧
        t.moisture.streak = (if 600 * s.param .suspendReset ≤ n then 0 else s.moisture.streak) ∧
        t.cycle.phase = s.cycle.phase ∧ t.cycle.record = s.cycle.record ∧ t.cycle.elapsed = s.cycle.elapsed ∧
        s.tells 12 t [(.resumed, 0)] ∧
        (∀ i, s.drumLaw → s.demandLaw → s.actionLaw → s.silent = false → s.walker.index = some i →
          s.usable i = true → s.startsDrum i t)) ∧
    (s.cycle.state = .idle ∨ s.cycle.state = .halted →
      exec (.cycleAbort []) s = .next (answered 0x46 (.plain .state) s.heard)) ∧
    (s.cycle.state = .active ∨ s.cycle.state = .suspended ∨ s.cycle.state = .cooldown →
      ∃ t, exec (.cycleAbort []) s = .next t ∧ replied 0x46 (.plain .ok) t ∧ s.requestFrame t ∧ t.tables = s.tables ∧
        t.faults.actions = s.faults.actions ∧ t.faults.records = s.faults.records ∧ t.heater.commanded = .l0 ∧
        t.cycle.suspension = none ∧
        (if s.cycle.state ≠ .cooldown ∧ s.path.door = .isClosed ∧
            (∃ x, s.exhaust? = some x ∧ (s.limitAt 3).high ≤ x) then
          t.cycle.state = .cooldown ∧ t.cycle.cooldown = some 0 ∧ s.tells 12 t [(.cooldownBegin, 0)]
        else
          t.cycle.state = .idle ∧ t.cycle.cooldown = none ∧
          s.tells 12 t (if s.cycle.state = .cooldown then [(.cooldownEnd, 0), (.cycleDone, 4)] else [(.cycleDone, 4)])) ∧
        t.cycle.phase = s.cycle.phase ∧ t.cycle.record = s.cycle.record ∧ t.cycle.elapsed = s.cycle.elapsed ∧
        t.cycle.slot = s.cycle.slot)

/-- FAULT_CLEAR: a source byte from 15 to 254 is refused with RANGE; in scope a LATCHED record becomes CLEAR and an
ACTIVE one stays, MOTOR_STALL alone becoming CLEAR with its condition gone; FAULT_CLEARED is told of each record that
becomes CLEAR, in source order; a drum in RAMP starts its spinup count anew, with its mark clear, when the scope has
MOTOR_STALL; flags and counts stay, and the cycle leaves HALTED when no SAFE_STOP record is left (09 R163, R164; 05 R87;
08 R149; 11 R183). -/
def Obligations.FaultClearClearsLatchedRecords : Prop :=
  ∀ (s : State) (b : Byte), s.quiet →
    (15 ≤ b.toNat → b.toNat ≤ 254 → exec (.faultClear [b]) s = .next (answered 0x47 (.plain .range) s.heard)) ∧
    (b.toNat < 15 ∨ b.toNat = 255 → s.actionLaw → s.recordLaw →
      ∃ t, exec (.faultClear [b]) s = .next t ∧ replied 0x47 (.plain .ok) t ∧ s.requestFrame t ∧ t.tables = s.tables ∧
        t.faults.actions = s.faults.actions ∧
        (∀ x : Source,
          (t.record x).sticky = (s.record x).sticky ∧ (t.record x).count = (s.record x).count ∧
          (b.toNat = 255 ∨ b.toNat = x.row.index.val →
            (t.record x).state =
              (if (s.record x).state = .active ∧ x ≠ .motorStall then RecordState.active else .clear) ∧
            t.present x = (s.present x && decide (x ≠ .motorStall))) ∧
          (b.toNat ≠ 255 → b.toNat ≠ x.row.index.val → t.record x = s.record x ∧ t.present x = s.present x)) ∧
        (∀ cleared : List Source,
          cleared = Source.all.filter (fun x =>
            decide (b.toNat = 255 ∨ b.toNat = x.row.index.val) &&
              (decide ((s.record x).state = .latched) ||
                decide (x = .motorStall ∧ (s.record x).state = .active))) →
          s.tells (15 - cleared.length) t (cleared.map fun x => (.faultCleared, x.row.index.val))) ∧
        (b.toNat = 255 ∨ b.toNat = Source.motorStall.row.index.val → t.drum.state = .ramp →
          t.drum.spinup = some 0 ∧ t.drum.stallMark = false) ∧
        t.faults.effective = t.highestAction ∧
        t.cycle.state =
          (if s.cycle.state = .halted ∧ t.anySafeStop = false then CycleState.idle else s.cycle.state))

/-- TRIM_STEP moves ELECTRODE_TRIM by one within 0 to 15 and answers it; LIMIT_LOCK sets the lock; LIMIT_UNLOCK clears
it with SERVICE high and is refused with LOCKED with SERVICE low; UPSTREAM_FLUSH removes the displaceable frames alone
(03 R51; 10 R176, R179; 11 R182). That the trim value is one byte of the RESPONSE is the model's choice (log entry 27). -/
def Obligations.TrimLockAndFlushActAlone : Prop :=
  ∀ (s : State) (trim : Nat), s.quiet → trim = s.param .electrodeTrim →
    (trim < 15 → exec (.trimStep [0x01]) s =
      .next (answered 0x4A ⟨.ok, [byteOf (trim + 1)]⟩ (s.heard.setParam .electrodeTrim (trim + 1)))) ∧
    (15 ≤ trim → exec (.trimStep [0x01]) s = .next (answered 0x4A ⟨.clamped, [byteOf trim]⟩ s.heard)) ∧
    (0 < trim → exec (.trimStep [0x00]) s =
      .next (answered 0x4A ⟨.ok, [byteOf (trim - 1)]⟩ (s.heard.setParam .electrodeTrim (trim - 1)))) ∧
    (trim = 0 → exec (.trimStep [0x00]) s = .next (answered 0x4A ⟨.clamped, [byteOf trim]⟩ s.heard)) ∧
    (∀ b : Byte, 1 < b.toNat → exec (.trimStep [b]) s = .next (answered 0x4A (.plain .range) s.heard)) ∧
    exec (.limitLock []) s =
      .next (answered 0x4B (.plain .ok) (s.heard.setTables { s.tables with lock := true })) ∧
    (s.links.service = true →
      exec (.limitUnlock []) s =
        .next (answered 0x4C (.plain .ok) (s.heard.setTables { s.tables with lock := false }))) ∧
    (s.links.service = false → exec (.limitUnlock []) s = .next (answered 0x4C (.plain .locked) s.heard)) ∧
    exec (.upstreamFlush []) s =
      .next (answered 0x4D (.plain .ok)
        (moveEvents (s.heard.setUpstream
          { s.upstream with queue := s.upstream.queue.filter fun f => !f.displaceable })))

/-! ### What every step keeps -/

/-- 04 R63, R64: the commanded level stays at or below the permitted level, whatever happens. -/
def Obligations.HeatLawIsKept : Prop :=
  ∀ s t : State, s.heatLaw → s.actionLaw → s.drumLaw → step s = .next t → t.heatLaw

/-- 09 R157, R159, R161; 08 R148: the effective action is the highest of the records that count, SAFE_STOP means HALTED,
a record is ACTIVE exactly while its condition is present, and no action lies below its floor. -/
def Obligations.FaultLawsAreKept : Prop :=
  ∀ s t : State, s.actionLaw → s.recordLaw → step s = .next t → t.actionLaw ∧ t.recordLaw

/-- 11 R181 to R183, R186: the bounds of the upstream queue and of the event list, and why entries wait. -/
def Obligations.UpstreamLawsAreKept : Prop :=
  ∀ s t : State, s.queueLaw → s.eventLaw → step s = .next t → t.queueLaw ∧ t.eventLaw

/-- 10 R174; 01 R12; 03 R38, R40, R42, R45: the ranges of the parameters and of the estimator. -/
def Obligations.RangeLawsAreKept : Prop :=
  ∀ s t : State, s.paramLaw → s.moistureLaw → step s = .next t → t.paramLaw ∧ t.moistureLaw

/-- 05 R75, R77, R78; 06 R97, R105, R108: the drum holds what its state says, its winner is the selected demand, and the
walker's pass has its block and its return index. -/
def Obligations.MotionLawsAreKept : Prop :=
  ∀ s t : State, s.drumLaw → s.walkerLaw → s.demandLaw → s.actionLaw → step s = .next t →
    t.drumLaw ∧ t.walkerLaw ∧ t.demandLaw

/-- 10 R177: while the lock is 1 and SERVICE is low, no entry of the safety set changes, reset alone excepted. -/
def Obligations.SafetySetIsFixedWhileProtected : Prop :=
  ∀ (c : Instr) (s t : State), s.isProtected = true → (∀ high, c ≠ .reset high) → exec c s = .next t →
    sameSafetySet s t
end

