-- ==== Sys2Proof/Laws/State.lean ====
section
/-! SUPPORT. What each setter of State leaves in each field: one lemma per setter and field, all by definition. -/

namespace Sys2Proof.Machine

/-! ### setLinks -/

@[simp] theorem State.setLinks_pending (s : State) (b : Links) : (s.setLinks b).pending = s.pending := rfl
@[simp] theorem State.setLinks_links (s : State) (b : Links) : (s.setLinks b).links = b := rfl
@[simp] theorem State.setLinks_path (s : State) (b : Links) : (s.setLinks b).path = s.path := rfl
@[simp] theorem State.setLinks_moisture (s : State) (b : Links) : (s.setLinks b).moisture = s.moisture := rfl
@[simp] theorem State.setLinks_heater (s : State) (b : Links) : (s.setLinks b).heater = s.heater := rfl
@[simp] theorem State.setLinks_drum (s : State) (b : Links) : (s.setLinks b).drum = s.drum := rfl
@[simp] theorem State.setLinks_walker (s : State) (b : Links) : (s.setLinks b).walker = s.walker := rfl
@[simp] theorem State.setLinks_cycle (s : State) (b : Links) : (s.setLinks b).cycle = s.cycle := rfl
@[simp] theorem State.setLinks_faults (s : State) (b : Links) : (s.setLinks b).faults = s.faults := rfl
@[simp] theorem State.setLinks_tables (s : State) (b : Links) : (s.setLinks b).tables = s.tables := rfl
@[simp] theorem State.setLinks_upstream (s : State) (b : Links) : (s.setLinks b).upstream = s.upstream := rfl
@[simp] theorem State.setLinks_aux (s : State) (b : Links) : (s.setLinks b).aux = s.aux := rfl
@[simp] theorem State.setLinks_twice (s : State) (a b : Links) : (s.setLinks a).setLinks b = s.setLinks b := rfl

/-! ### setPath -/

@[simp] theorem State.setPath_pending (s : State) (b : SamplePath) : (s.setPath b).pending = s.pending := rfl
@[simp] theorem State.setPath_links (s : State) (b : SamplePath) : (s.setPath b).links = s.links := rfl
@[simp] theorem State.setPath_path (s : State) (b : SamplePath) : (s.setPath b).path = b := rfl
@[simp] theorem State.setPath_moisture (s : State) (b : SamplePath) : (s.setPath b).moisture = s.moisture := rfl
@[simp] theorem State.setPath_heater (s : State) (b : SamplePath) : (s.setPath b).heater = s.heater := rfl
@[simp] theorem State.setPath_drum (s : State) (b : SamplePath) : (s.setPath b).drum = s.drum := rfl
@[simp] theorem State.setPath_walker (s : State) (b : SamplePath) : (s.setPath b).walker = s.walker := rfl
@[simp] theorem State.setPath_cycle (s : State) (b : SamplePath) : (s.setPath b).cycle = s.cycle := rfl
@[simp] theorem State.setPath_faults (s : State) (b : SamplePath) : (s.setPath b).faults = s.faults := rfl
@[simp] theorem State.setPath_tables (s : State) (b : SamplePath) : (s.setPath b).tables = s.tables := rfl
@[simp] theorem State.setPath_upstream (s : State) (b : SamplePath) : (s.setPath b).upstream = s.upstream := rfl
@[simp] theorem State.setPath_aux (s : State) (b : SamplePath) : (s.setPath b).aux = s.aux := rfl
@[simp] theorem State.setPath_twice (s : State) (a b : SamplePath) : (s.setPath a).setPath b = s.setPath b := rfl

/-! ### setMoisture -/

@[simp] theorem State.setMoisture_pending (s : State) (b : Moisture) : (s.setMoisture b).pending = s.pending := rfl
@[simp] theorem State.setMoisture_links (s : State) (b : Moisture) : (s.setMoisture b).links = s.links := rfl
@[simp] theorem State.setMoisture_path (s : State) (b : Moisture) : (s.setMoisture b).path = s.path := rfl
@[simp] theorem State.setMoisture_moisture (s : State) (b : Moisture) : (s.setMoisture b).moisture = b := rfl
@[simp] theorem State.setMoisture_heater (s : State) (b : Moisture) : (s.setMoisture b).heater = s.heater := rfl
@[simp] theorem State.setMoisture_drum (s : State) (b : Moisture) : (s.setMoisture b).drum = s.drum := rfl
@[simp] theorem State.setMoisture_walker (s : State) (b : Moisture) : (s.setMoisture b).walker = s.walker := rfl
@[simp] theorem State.setMoisture_cycle (s : State) (b : Moisture) : (s.setMoisture b).cycle = s.cycle := rfl
@[simp] theorem State.setMoisture_faults (s : State) (b : Moisture) : (s.setMoisture b).faults = s.faults := rfl
@[simp] theorem State.setMoisture_tables (s : State) (b : Moisture) : (s.setMoisture b).tables = s.tables := rfl
@[simp] theorem State.setMoisture_upstream (s : State) (b : Moisture) : (s.setMoisture b).upstream = s.upstream := rfl
@[simp] theorem State.setMoisture_aux (s : State) (b : Moisture) : (s.setMoisture b).aux = s.aux := rfl
@[simp] theorem State.setMoisture_twice (s : State) (a b : Moisture) :
    (s.setMoisture a).setMoisture b = s.setMoisture b := rfl

/-! ### setHeater -/

@[simp] theorem State.setHeater_pending (s : State) (b : Heater) : (s.setHeater b).pending = s.pending := rfl
@[simp] theorem State.setHeater_links (s : State) (b : Heater) : (s.setHeater b).links = s.links := rfl
@[simp] theorem State.setHeater_path (s : State) (b : Heater) : (s.setHeater b).path = s.path := rfl
@[simp] theorem State.setHeater_moisture (s : State) (b : Heater) : (s.setHeater b).moisture = s.moisture := rfl
@[simp] theorem State.setHeater_heater (s : State) (b : Heater) : (s.setHeater b).heater = b := rfl
@[simp] theorem State.setHeater_drum (s : State) (b : Heater) : (s.setHeater b).drum = s.drum := rfl
@[simp] theorem State.setHeater_walker (s : State) (b : Heater) : (s.setHeater b).walker = s.walker := rfl
@[simp] theorem State.setHeater_cycle (s : State) (b : Heater) : (s.setHeater b).cycle = s.cycle := rfl
@[simp] theorem State.setHeater_faults (s : State) (b : Heater) : (s.setHeater b).faults = s.faults := rfl
@[simp] theorem State.setHeater_tables (s : State) (b : Heater) : (s.setHeater b).tables = s.tables := rfl
@[simp] theorem State.setHeater_upstream (s : State) (b : Heater) : (s.setHeater b).upstream = s.upstream := rfl
@[simp] theorem State.setHeater_aux (s : State) (b : Heater) : (s.setHeater b).aux = s.aux := rfl
@[simp] theorem State.setHeater_twice (s : State) (a b : Heater) : (s.setHeater a).setHeater b = s.setHeater b := rfl

/-! ### setDrum -/

@[simp] theorem State.setDrum_pending (s : State) (b : Drum) : (s.setDrum b).pending = s.pending := rfl
@[simp] theorem State.setDrum_links (s : State) (b : Drum) : (s.setDrum b).links = s.links := rfl
@[simp] theorem State.setDrum_path (s : State) (b : Drum) : (s.setDrum b).path = s.path := rfl
@[simp] theorem State.setDrum_moisture (s : State) (b : Drum) : (s.setDrum b).moisture = s.moisture := rfl
@[simp] theorem State.setDrum_heater (s : State) (b : Drum) : (s.setDrum b).heater = s.heater := rfl
@[simp] theorem State.setDrum_drum (s : State) (b : Drum) : (s.setDrum b).drum = b := rfl
@[simp] theorem State.setDrum_walker (s : State) (b : Drum) : (s.setDrum b).walker = s.walker := rfl
@[simp] theorem State.setDrum_cycle (s : State) (b : Drum) : (s.setDrum b).cycle = s.cycle := rfl
@[simp] theorem State.setDrum_faults (s : State) (b : Drum) : (s.setDrum b).faults = s.faults := rfl
@[simp] theorem State.setDrum_tables (s : State) (b : Drum) : (s.setDrum b).tables = s.tables := rfl
@[simp] theorem State.setDrum_upstream (s : State) (b : Drum) : (s.setDrum b).upstream = s.upstream := rfl
@[simp] theorem State.setDrum_aux (s : State) (b : Drum) : (s.setDrum b).aux = s.aux := rfl
@[simp] theorem State.setDrum_twice (s : State) (a b : Drum) : (s.setDrum a).setDrum b = s.setDrum b := rfl

/-! ### setWalker -/

@[simp] theorem State.setWalker_pending (s : State) (b : Walker) : (s.setWalker b).pending = s.pending := rfl
@[simp] theorem State.setWalker_links (s : State) (b : Walker) : (s.setWalker b).links = s.links := rfl
@[simp] theorem State.setWalker_path (s : State) (b : Walker) : (s.setWalker b).path = s.path := rfl
@[simp] theorem State.setWalker_moisture (s : State) (b : Walker) : (s.setWalker b).moisture = s.moisture := rfl
@[simp] theorem State.setWalker_heater (s : State) (b : Walker) : (s.setWalker b).heater = s.heater := rfl
@[simp] theorem State.setWalker_drum (s : State) (b : Walker) : (s.setWalker b).drum = s.drum := rfl
@[simp] theorem State.setWalker_walker (s : State) (b : Walker) : (s.setWalker b).walker = b := rfl
@[simp] theorem State.setWalker_cycle (s : State) (b : Walker) : (s.setWalker b).cycle = s.cycle := rfl
@[simp] theorem State.setWalker_faults (s : State) (b : Walker) : (s.setWalker b).faults = s.faults := rfl
@[simp] theorem State.setWalker_tables (s : State) (b : Walker) : (s.setWalker b).tables = s.tables := rfl
@[simp] theorem State.setWalker_upstream (s : State) (b : Walker) : (s.setWalker b).upstream = s.upstream := rfl
@[simp] theorem State.setWalker_aux (s : State) (b : Walker) : (s.setWalker b).aux = s.aux := rfl
@[simp] theorem State.setWalker_twice (s : State) (a b : Walker) : (s.setWalker a).setWalker b = s.setWalker b := rfl

/-! ### setCycle -/

@[simp] theorem State.setCycle_pending (s : State) (b : Cycle) : (s.setCycle b).pending = s.pending := rfl
@[simp] theorem State.setCycle_links (s : State) (b : Cycle) : (s.setCycle b).links = s.links := rfl
@[simp] theorem State.setCycle_path (s : State) (b : Cycle) : (s.setCycle b).path = s.path := rfl
@[simp] theorem State.setCycle_moisture (s : State) (b : Cycle) : (s.setCycle b).moisture = s.moisture := rfl
@[simp] theorem State.setCycle_heater (s : State) (b : Cycle) : (s.setCycle b).heater = s.heater := rfl
@[simp] theorem State.setCycle_drum (s : State) (b : Cycle) : (s.setCycle b).drum = s.drum := rfl
@[simp] theorem State.setCycle_walker (s : State) (b : Cycle) : (s.setCycle b).walker = s.walker := rfl
@[simp] theorem State.setCycle_cycle (s : State) (b : Cycle) : (s.setCycle b).cycle = b := rfl
@[simp] theorem State.setCycle_faults (s : State) (b : Cycle) : (s.setCycle b).faults = s.faults := rfl
@[simp] theorem State.setCycle_tables (s : State) (b : Cycle) : (s.setCycle b).tables = s.tables := rfl
@[simp] theorem State.setCycle_upstream (s : State) (b : Cycle) : (s.setCycle b).upstream = s.upstream := rfl
@[simp] theorem State.setCycle_aux (s : State) (b : Cycle) : (s.setCycle b).aux = s.aux := rfl
@[simp] theorem State.setCycle_twice (s : State) (a b : Cycle) : (s.setCycle a).setCycle b = s.setCycle b := rfl

/-! ### setFaults -/

@[simp] theorem State.setFaults_pending (s : State) (b : Faults) : (s.setFaults b).pending = s.pending := rfl
@[simp] theorem State.setFaults_links (s : State) (b : Faults) : (s.setFaults b).links = s.links := rfl
@[simp] theorem State.setFaults_path (s : State) (b : Faults) : (s.setFaults b).path = s.path := rfl
@[simp] theorem State.setFaults_moisture (s : State) (b : Faults) : (s.setFaults b).moisture = s.moisture := rfl
@[simp] theorem State.setFaults_heater (s : State) (b : Faults) : (s.setFaults b).heater = s.heater := rfl
@[simp] theorem State.setFaults_drum (s : State) (b : Faults) : (s.setFaults b).drum = s.drum := rfl
@[simp] theorem State.setFaults_walker (s : State) (b : Faults) : (s.setFaults b).walker = s.walker := rfl
@[simp] theorem State.setFaults_cycle (s : State) (b : Faults) : (s.setFaults b).cycle = s.cycle := rfl
@[simp] theorem State.setFaults_faults (s : State) (b : Faults) : (s.setFaults b).faults = b := rfl
@[simp] theorem State.setFaults_tables (s : State) (b : Faults) : (s.setFaults b).tables = s.tables := rfl
@[simp] theorem State.setFaults_upstream (s : State) (b : Faults) : (s.setFaults b).upstream = s.upstream := rfl
@[simp] theorem State.setFaults_aux (s : State) (b : Faults) : (s.setFaults b).aux = s.aux := rfl
@[simp] theorem State.setFaults_twice (s : State) (a b : Faults) : (s.setFaults a).setFaults b = s.setFaults b := rfl

/-! ### setTables -/

@[simp] theorem State.setTables_pending (s : State) (b : Tables) : (s.setTables b).pending = s.pending := rfl
@[simp] theorem State.setTables_links (s : State) (b : Tables) : (s.setTables b).links = s.links := rfl
@[simp] theorem State.setTables_path (s : State) (b : Tables) : (s.setTables b).path = s.path := rfl
@[simp] theorem State.setTables_moisture (s : State) (b : Tables) : (s.setTables b).moisture = s.moisture := rfl
@[simp] theorem State.setTables_heater (s : State) (b : Tables) : (s.setTables b).heater = s.heater := rfl
@[simp] theorem State.setTables_drum (s : State) (b : Tables) : (s.setTables b).drum = s.drum := rfl
@[simp] theorem State.setTables_walker (s : State) (b : Tables) : (s.setTables b).walker = s.walker := rfl
@[simp] theorem State.setTables_cycle (s : State) (b : Tables) : (s.setTables b).cycle = s.cycle := rfl
@[simp] theorem State.setTables_faults (s : State) (b : Tables) : (s.setTables b).faults = s.faults := rfl
@[simp] theorem State.setTables_tables (s : State) (b : Tables) : (s.setTables b).tables = b := rfl
@[simp] theorem State.setTables_upstream (s : State) (b : Tables) : (s.setTables b).upstream = s.upstream := rfl
@[simp] theorem State.setTables_aux (s : State) (b : Tables) : (s.setTables b).aux = s.aux := rfl
@[simp] theorem State.setTables_twice (s : State) (a b : Tables) : (s.setTables a).setTables b = s.setTables b := rfl

/-! ### setUpstream -/

@[simp] theorem State.setUpstream_pending (s : State) (b : Upstream) : (s.setUpstream b).pending = s.pending := rfl
@[simp] theorem State.setUpstream_links (s : State) (b : Upstream) : (s.setUpstream b).links = s.links := rfl
@[simp] theorem State.setUpstream_path (s : State) (b : Upstream) : (s.setUpstream b).path = s.path := rfl
@[simp] theorem State.setUpstream_moisture (s : State) (b : Upstream) : (s.setUpstream b).moisture = s.moisture := rfl
@[simp] theorem State.setUpstream_heater (s : State) (b : Upstream) : (s.setUpstream b).heater = s.heater := rfl
@[simp] theorem State.setUpstream_drum (s : State) (b : Upstream) : (s.setUpstream b).drum = s.drum := rfl
@[simp] theorem State.setUpstream_walker (s : State) (b : Upstream) : (s.setUpstream b).walker = s.walker := rfl
@[simp] theorem State.setUpstream_cycle (s : State) (b : Upstream) : (s.setUpstream b).cycle = s.cycle := rfl
@[simp] theorem State.setUpstream_faults (s : State) (b : Upstream) : (s.setUpstream b).faults = s.faults := rfl
@[simp] theorem State.setUpstream_tables (s : State) (b : Upstream) : (s.setUpstream b).tables = s.tables := rfl
@[simp] theorem State.setUpstream_upstream (s : State) (b : Upstream) : (s.setUpstream b).upstream = b := rfl
@[simp] theorem State.setUpstream_aux (s : State) (b : Upstream) : (s.setUpstream b).aux = s.aux := rfl
@[simp] theorem State.setUpstream_twice (s : State) (a b : Upstream) :
    (s.setUpstream a).setUpstream b = s.setUpstream b := rfl

/-! ### setAux -/

@[simp] theorem State.setAux_pending (s : State) (b : Aux) : (s.setAux b).pending = s.pending := rfl
@[simp] theorem State.setAux_links (s : State) (b : Aux) : (s.setAux b).links = s.links := rfl
@[simp] theorem State.setAux_path (s : State) (b : Aux) : (s.setAux b).path = s.path := rfl
@[simp] theorem State.setAux_moisture (s : State) (b : Aux) : (s.setAux b).moisture = s.moisture := rfl
@[simp] theorem State.setAux_heater (s : State) (b : Aux) : (s.setAux b).heater = s.heater := rfl
@[simp] theorem State.setAux_drum (s : State) (b : Aux) : (s.setAux b).drum = s.drum := rfl
@[simp] theorem State.setAux_walker (s : State) (b : Aux) : (s.setAux b).walker = s.walker := rfl
@[simp] theorem State.setAux_cycle (s : State) (b : Aux) : (s.setAux b).cycle = s.cycle := rfl
@[simp] theorem State.setAux_faults (s : State) (b : Aux) : (s.setAux b).faults = s.faults := rfl
@[simp] theorem State.setAux_tables (s : State) (b : Aux) : (s.setAux b).tables = s.tables := rfl
@[simp] theorem State.setAux_upstream (s : State) (b : Aux) : (s.setAux b).upstream = s.upstream := rfl
@[simp] theorem State.setAux_aux (s : State) (b : Aux) : (s.setAux b).aux = b := rfl
@[simp] theorem State.setAux_twice (s : State) (a b : Aux) : (s.setAux a).setAux b = s.setAux b := rfl

/-! ### Accessors over setters of other blocks -/

@[simp] theorem State.setLinks_now (s : State) (b : Links) : (s.setLinks b).now = s.now := rfl
@[simp] theorem State.setMoisture_now (s : State) (b : Moisture) : (s.setMoisture b).now = s.now := rfl
@[simp] theorem State.setHeater_now (s : State) (b : Heater) : (s.setHeater b).now = s.now := rfl
@[simp] theorem State.setDrum_now (s : State) (b : Drum) : (s.setDrum b).now = s.now := rfl
@[simp] theorem State.setWalker_now (s : State) (b : Walker) : (s.setWalker b).now = s.now := rfl
@[simp] theorem State.setCycle_now (s : State) (b : Cycle) : (s.setCycle b).now = s.now := rfl
@[simp] theorem State.setFaults_now (s : State) (b : Faults) : (s.setFaults b).now = s.now := rfl
@[simp] theorem State.setTables_now (s : State) (b : Tables) : (s.setTables b).now = s.now := rfl
@[simp] theorem State.setUpstream_now (s : State) (b : Upstream) : (s.setUpstream b).now = s.now := rfl
@[simp] theorem State.setAux_now (s : State) (b : Aux) : (s.setAux b).now = s.now := rfl

@[simp] theorem State.setLinks_param (s : State) (b : Links) (p : Param) : (s.setLinks b).param p = s.param p := rfl
@[simp] theorem State.setPath_param (s : State) (b : SamplePath) (p : Param) :
    (s.setPath b).param p = s.param p := rfl
@[simp] theorem State.setMoisture_param (s : State) (b : Moisture) (p : Param) :
    (s.setMoisture b).param p = s.param p := rfl
@[simp] theorem State.setHeater_param (s : State) (b : Heater) (p : Param) :
    (s.setHeater b).param p = s.param p := rfl
@[simp] theorem State.setDrum_param (s : State) (b : Drum) (p : Param) : (s.setDrum b).param p = s.param p := rfl
@[simp] theorem State.setWalker_param (s : State) (b : Walker) (p : Param) :
    (s.setWalker b).param p = s.param p := rfl
@[simp] theorem State.setCycle_param (s : State) (b : Cycle) (p : Param) : (s.setCycle b).param p = s.param p := rfl
@[simp] theorem State.setFaults_param (s : State) (b : Faults) (p : Param) :
    (s.setFaults b).param p = s.param p := rfl
@[simp] theorem State.setUpstream_param (s : State) (b : Upstream) (p : Param) :
    (s.setUpstream b).param p = s.param p := rfl
@[simp] theorem State.setAux_param (s : State) (b : Aux) (p : Param) : (s.setAux b).param p = s.param p := rfl

@[simp] theorem State.setLinks_record (s : State) (b : Links) (x : Source) :
    (s.setLinks b).record x = s.record x := rfl
@[simp] theorem State.setPath_record (s : State) (b : SamplePath) (x : Source) :
    (s.setPath b).record x = s.record x := rfl
@[simp] theorem State.setMoisture_record (s : State) (b : Moisture) (x : Source) :
    (s.setMoisture b).record x = s.record x := rfl
@[simp] theorem State.setHeater_record (s : State) (b : Heater) (x : Source) :
    (s.setHeater b).record x = s.record x := rfl
@[simp] theorem State.setDrum_record (s : State) (b : Drum) (x : Source) : (s.setDrum b).record x = s.record x := rfl
@[simp] theorem State.setWalker_record (s : State) (b : Walker) (x : Source) :
    (s.setWalker b).record x = s.record x := rfl
@[simp] theorem State.setCycle_record (s : State) (b : Cycle) (x : Source) :
    (s.setCycle b).record x = s.record x := rfl
@[simp] theorem State.setTables_record (s : State) (b : Tables) (x : Source) :
    (s.setTables b).record x = s.record x := rfl
@[simp] theorem State.setUpstream_record (s : State) (b : Upstream) (x : Source) :
    (s.setUpstream b).record x = s.record x := rfl
@[simp] theorem State.setAux_record (s : State) (b : Aux) (x : Source) : (s.setAux b).record x = s.record x := rfl

@[simp] theorem State.setLinks_present (s : State) (b : Links) (x : Source) :
    (s.setLinks b).present x = s.present x := rfl
@[simp] theorem State.setPath_present (s : State) (b : SamplePath) (x : Source) :
    (s.setPath b).present x = s.present x := rfl
@[simp] theorem State.setMoisture_present (s : State) (b : Moisture) (x : Source) :
    (s.setMoisture b).present x = s.present x := rfl
@[simp] theorem State.setHeater_present (s : State) (b : Heater) (x : Source) :
    (s.setHeater b).present x = s.present x := rfl
@[simp] theorem State.setDrum_present (s : State) (b : Drum) (x : Source) :
    (s.setDrum b).present x = s.present x := rfl
@[simp] theorem State.setWalker_present (s : State) (b : Walker) (x : Source) :
    (s.setWalker b).present x = s.present x := rfl
@[simp] theorem State.setCycle_present (s : State) (b : Cycle) (x : Source) :
    (s.setCycle b).present x = s.present x := rfl
@[simp] theorem State.setTables_present (s : State) (b : Tables) (x : Source) :
    (s.setTables b).present x = s.present x := rfl
@[simp] theorem State.setUpstream_present (s : State) (b : Upstream) (x : Source) :
    (s.setUpstream b).present x = s.present x := rfl
@[simp] theorem State.setAux_present (s : State) (b : Aux) (x : Source) : (s.setAux b).present x = s.present x := rfl

@[simp] theorem State.setLinks_action (s : State) (b : Links) (x : Source) :
    (s.setLinks b).action x = s.action x := rfl
@[simp] theorem State.setPath_action (s : State) (b : SamplePath) (x : Source) :
    (s.setPath b).action x = s.action x := rfl
@[simp] theorem State.setMoisture_action (s : State) (b : Moisture) (x : Source) :
    (s.setMoisture b).action x = s.action x := rfl
@[simp] theorem State.setHeater_action (s : State) (b : Heater) (x : Source) :
    (s.setHeater b).action x = s.action x := rfl
@[simp] theorem State.setDrum_action (s : State) (b : Drum) (x : Source) : (s.setDrum b).action x = s.action x := rfl
@[simp] theorem State.setWalker_action (s : State) (b : Walker) (x : Source) :
    (s.setWalker b).action x = s.action x := rfl
@[simp] theorem State.setCycle_action (s : State) (b : Cycle) (x : Source) :
    (s.setCycle b).action x = s.action x := rfl
@[simp] theorem State.setTables_action (s : State) (b : Tables) (x : Source) :
    (s.setTables b).action x = s.action x := rfl
@[simp] theorem State.setUpstream_action (s : State) (b : Upstream) (x : Source) :
    (s.setUpstream b).action x = s.action x := rfl
@[simp] theorem State.setAux_action (s : State) (b : Aux) (x : Source) : (s.setAux b).action x = s.action x := rfl

@[simp] theorem State.setLinks_silent (s : State) (b : Links) : (s.setLinks b).silent = s.silent := rfl
@[simp] theorem State.setPath_silent (s : State) (b : SamplePath) : (s.setPath b).silent = s.silent := rfl
@[simp] theorem State.setMoisture_silent (s : State) (b : Moisture) : (s.setMoisture b).silent = s.silent := rfl
@[simp] theorem State.setHeater_silent (s : State) (b : Heater) : (s.setHeater b).silent = s.silent := rfl
@[simp] theorem State.setDrum_silent (s : State) (b : Drum) : (s.setDrum b).silent = s.silent := rfl
@[simp] theorem State.setWalker_silent (s : State) (b : Walker) : (s.setWalker b).silent = s.silent := rfl
@[simp] theorem State.setCycle_silent (s : State) (b : Cycle) : (s.setCycle b).silent = s.silent := rfl
@[simp] theorem State.setTables_silent (s : State) (b : Tables) : (s.setTables b).silent = s.silent := rfl
@[simp] theorem State.setUpstream_silent (s : State) (b : Upstream) : (s.setUpstream b).silent = s.silent := rfl
@[simp] theorem State.setAux_silent (s : State) (b : Aux) : (s.setAux b).silent = s.silent := rfl

@[simp] theorem State.setLinks_limitAt (s : State) (b : Links) (i : Fin 4) :
    (s.setLinks b).limitAt i = s.limitAt i := rfl
@[simp] theorem State.setPath_limitAt (s : State) (b : SamplePath) (i : Fin 4) :
    (s.setPath b).limitAt i = s.limitAt i := rfl
@[simp] theorem State.setMoisture_limitAt (s : State) (b : Moisture) (i : Fin 4) :
    (s.setMoisture b).limitAt i = s.limitAt i := rfl
@[simp] theorem State.setHeater_limitAt (s : State) (b : Heater) (i : Fin 4) :
    (s.setHeater b).limitAt i = s.limitAt i := rfl
@[simp] theorem State.setDrum_limitAt (s : State) (b : Drum) (i : Fin 4) :
    (s.setDrum b).limitAt i = s.limitAt i := rfl
@[simp] theorem State.setWalker_limitAt (s : State) (b : Walker) (i : Fin 4) :
    (s.setWalker b).limitAt i = s.limitAt i := rfl
@[simp] theorem State.setCycle_limitAt (s : State) (b : Cycle) (i : Fin 4) :
    (s.setCycle b).limitAt i = s.limitAt i := rfl
@[simp] theorem State.setTables_limitAt (s : State) (b : Tables) (i : Fin 4) :
    (s.setTables b).limitAt i = s.limitAt i := rfl
@[simp] theorem State.setUpstream_limitAt (s : State) (b : Upstream) (i : Fin 4) :
    (s.setUpstream b).limitAt i = s.limitAt i := rfl
@[simp] theorem State.setAux_limitAt (s : State) (b : Aux) (i : Fin 4) : (s.setAux b).limitAt i = s.limitAt i := rfl

@[simp] theorem State.setLinks_programAt (s : State) (b : Links) (i : Nat) :
    (s.setLinks b).programAt i = s.programAt i := rfl
@[simp] theorem State.setPath_programAt (s : State) (b : SamplePath) (i : Nat) :
    (s.setPath b).programAt i = s.programAt i := rfl
@[simp] theorem State.setMoisture_programAt (s : State) (b : Moisture) (i : Nat) :
    (s.setMoisture b).programAt i = s.programAt i := rfl
@[simp] theorem State.setHeater_programAt (s : State) (b : Heater) (i : Nat) :
    (s.setHeater b).programAt i = s.programAt i := rfl
@[simp] theorem State.setDrum_programAt (s : State) (b : Drum) (i : Nat) :
    (s.setDrum b).programAt i = s.programAt i := rfl
@[simp] theorem State.setWalker_programAt (s : State) (b : Walker) (i : Nat) :
    (s.setWalker b).programAt i = s.programAt i := rfl
@[simp] theorem State.setCycle_programAt (s : State) (b : Cycle) (i : Nat) :
    (s.setCycle b).programAt i = s.programAt i := rfl
@[simp] theorem State.setFaults_programAt (s : State) (b : Faults) (i : Nat) :
    (s.setFaults b).programAt i = s.programAt i := rfl
@[simp] theorem State.setUpstream_programAt (s : State) (b : Upstream) (i : Nat) :
    (s.setUpstream b).programAt i = s.programAt i := rfl
@[simp] theorem State.setAux_programAt (s : State) (b : Aux) (i : Nat) :
    (s.setAux b).programAt i = s.programAt i := rfl

@[simp] theorem State.setLinks_patternAt (s : State) (b : Links) (i : Nat) :
    (s.setLinks b).patternAt i = s.patternAt i := rfl
@[simp] theorem State.setPath_patternAt (s : State) (b : SamplePath) (i : Nat) :
    (s.setPath b).patternAt i = s.patternAt i := rfl
@[simp] theorem State.setMoisture_patternAt (s : State) (b : Moisture) (i : Nat) :
    (s.setMoisture b).patternAt i = s.patternAt i := rfl
@[simp] theorem State.setHeater_patternAt (s : State) (b : Heater) (i : Nat) :
    (s.setHeater b).patternAt i = s.patternAt i := rfl
@[simp] theorem State.setDrum_patternAt (s : State) (b : Drum) (i : Nat) :
    (s.setDrum b).patternAt i = s.patternAt i := rfl
@[simp] theorem State.setWalker_patternAt (s : State) (b : Walker) (i : Nat) :
    (s.setWalker b).patternAt i = s.patternAt i := rfl
@[simp] theorem State.setCycle_patternAt (s : State) (b : Cycle) (i : Nat) :
    (s.setCycle b).patternAt i = s.patternAt i := rfl
@[simp] theorem State.setFaults_patternAt (s : State) (b : Faults) (i : Nat) :
    (s.setFaults b).patternAt i = s.patternAt i := rfl
@[simp] theorem State.setUpstream_patternAt (s : State) (b : Upstream) (i : Nat) :
    (s.setUpstream b).patternAt i = s.patternAt i := rfl
@[simp] theorem State.setAux_patternAt (s : State) (b : Aux) (i : Nat) :
    (s.setAux b).patternAt i = s.patternAt i := rfl

@[simp] theorem State.setLinks_curveAt (s : State) (b : Links) (i : Nat) :
    (s.setLinks b).curveAt i = s.curveAt i := rfl
@[simp] theorem State.setPath_curveAt (s : State) (b : SamplePath) (i : Nat) :
    (s.setPath b).curveAt i = s.curveAt i := rfl
@[simp] theorem State.setMoisture_curveAt (s : State) (b : Moisture) (i : Nat) :
    (s.setMoisture b).curveAt i = s.curveAt i := rfl
@[simp] theorem State.setHeater_curveAt (s : State) (b : Heater) (i : Nat) :
    (s.setHeater b).curveAt i = s.curveAt i := rfl
@[simp] theorem State.setDrum_curveAt (s : State) (b : Drum) (i : Nat) : (s.setDrum b).curveAt i = s.curveAt i := rfl
@[simp] theorem State.setWalker_curveAt (s : State) (b : Walker) (i : Nat) :
    (s.setWalker b).curveAt i = s.curveAt i := rfl
@[simp] theorem State.setCycle_curveAt (s : State) (b : Cycle) (i : Nat) :
    (s.setCycle b).curveAt i = s.curveAt i := rfl
@[simp] theorem State.setFaults_curveAt (s : State) (b : Faults) (i : Nat) :
    (s.setFaults b).curveAt i = s.curveAt i := rfl
@[simp] theorem State.setUpstream_curveAt (s : State) (b : Upstream) (i : Nat) :
    (s.setUpstream b).curveAt i = s.curveAt i := rfl
@[simp] theorem State.setAux_curveAt (s : State) (b : Aux) (i : Nat) : (s.setAux b).curveAt i = s.curveAt i := rfl

@[simp] theorem State.setLinks_choice (s : State) (b : Links) : (s.setLinks b).choice = s.choice := rfl
@[simp] theorem State.setPath_choice (s : State) (b : SamplePath) : (s.setPath b).choice = s.choice := rfl
@[simp] theorem State.setMoisture_choice (s : State) (b : Moisture) : (s.setMoisture b).choice = s.choice := rfl
@[simp] theorem State.setHeater_choice (s : State) (b : Heater) : (s.setHeater b).choice = s.choice := rfl
@[simp] theorem State.setDrum_choice (s : State) (b : Drum) : (s.setDrum b).choice = s.choice := rfl
@[simp] theorem State.setWalker_choice (s : State) (b : Walker) : (s.setWalker b).choice = s.choice := rfl
@[simp] theorem State.setCycle_choice (s : State) (b : Cycle) : (s.setCycle b).choice = s.choice := rfl
@[simp] theorem State.setFaults_choice (s : State) (b : Faults) : (s.setFaults b).choice = s.choice := rfl
@[simp] theorem State.setTables_choice (s : State) (b : Tables) : (s.setTables b).choice = s.choice := rfl
@[simp] theorem State.setUpstream_choice (s : State) (b : Upstream) : (s.setUpstream b).choice = s.choice := rfl

@[simp] theorem State.setLinks_counts (s : State) (b : Links) (x : Source) :
    (s.setLinks b).counts x = s.counts x := rfl
@[simp] theorem State.setPath_counts (s : State) (b : SamplePath) (x : Source) :
    (s.setPath b).counts x = s.counts x := rfl
@[simp] theorem State.setMoisture_counts (s : State) (b : Moisture) (x : Source) :
    (s.setMoisture b).counts x = s.counts x := rfl
@[simp] theorem State.setHeater_counts (s : State) (b : Heater) (x : Source) :
    (s.setHeater b).counts x = s.counts x := rfl
@[simp] theorem State.setDrum_counts (s : State) (b : Drum) (x : Source) : (s.setDrum b).counts x = s.counts x := rfl
@[simp] theorem State.setWalker_counts (s : State) (b : Walker) (x : Source) :
    (s.setWalker b).counts x = s.counts x := rfl
@[simp] theorem State.setCycle_counts (s : State) (b : Cycle) (x : Source) :
    (s.setCycle b).counts x = s.counts x := rfl
@[simp] theorem State.setTables_counts (s : State) (b : Tables) (x : Source) :
    (s.setTables b).counts x = s.counts x := rfl
@[simp] theorem State.setUpstream_counts (s : State) (b : Upstream) (x : Source) :
    (s.setUpstream b).counts x = s.counts x := rfl
@[simp] theorem State.setAux_counts (s : State) (b : Aux) (x : Source) : (s.setAux b).counts x = s.counts x := rfl

@[simp] theorem State.setLinks_highestAction (s : State) (b : Links) :
    (s.setLinks b).highestAction = s.highestAction := rfl
@[simp] theorem State.setPath_highestAction (s : State) (b : SamplePath) :
    (s.setPath b).highestAction = s.highestAction := rfl
@[simp] theorem State.setMoisture_highestAction (s : State) (b : Moisture) :
    (s.setMoisture b).highestAction = s.highestAction := rfl
@[simp] theorem State.setHeater_highestAction (s : State) (b : Heater) :
    (s.setHeater b).highestAction = s.highestAction := rfl
@[simp] theorem State.setDrum_highestAction (s : State) (b : Drum) :
    (s.setDrum b).highestAction = s.highestAction := rfl
@[simp] theorem State.setWalker_highestAction (s : State) (b : Walker) :
    (s.setWalker b).highestAction = s.highestAction := rfl
@[simp] theorem State.setCycle_highestAction (s : State) (b : Cycle) :
    (s.setCycle b).highestAction = s.highestAction := rfl
@[simp] theorem State.setTables_highestAction (s : State) (b : Tables) :
    (s.setTables b).highestAction = s.highestAction := rfl
@[simp] theorem State.setUpstream_highestAction (s : State) (b : Upstream) :
    (s.setUpstream b).highestAction = s.highestAction := rfl
@[simp] theorem State.setAux_highestAction (s : State) (b : Aux) : (s.setAux b).highestAction = s.highestAction := rfl

@[simp] theorem State.setLinks_anySafeStop (s : State) (b : Links) : (s.setLinks b).anySafeStop = s.anySafeStop := rfl
@[simp] theorem State.setPath_anySafeStop (s : State) (b : SamplePath) :
    (s.setPath b).anySafeStop = s.anySafeStop := rfl
@[simp] theorem State.setMoisture_anySafeStop (s : State) (b : Moisture) :
    (s.setMoisture b).anySafeStop = s.anySafeStop := rfl
@[simp] theorem State.setHeater_anySafeStop (s : State) (b : Heater) :
    (s.setHeater b).anySafeStop = s.anySafeStop := rfl
@[simp] theorem State.setDrum_anySafeStop (s : State) (b : Drum) : (s.setDrum b).anySafeStop = s.anySafeStop := rfl
@[simp] theorem State.setWalker_anySafeStop (s : State) (b : Walker) :
    (s.setWalker b).anySafeStop = s.anySafeStop := rfl
@[simp] theorem State.setCycle_anySafeStop (s : State) (b : Cycle) : (s.setCycle b).anySafeStop = s.anySafeStop := rfl
@[simp] theorem State.setTables_anySafeStop (s : State) (b : Tables) :
    (s.setTables b).anySafeStop = s.anySafeStop := rfl
@[simp] theorem State.setUpstream_anySafeStop (s : State) (b : Upstream) :
    (s.setUpstream b).anySafeStop = s.anySafeStop := rfl
@[simp] theorem State.setAux_anySafeStop (s : State) (b : Aux) : (s.setAux b).anySafeStop = s.anySafeStop := rfl

@[simp] theorem State.setLinks_tacho (s : State) (b : Links) : (s.setLinks b).tacho = s.tacho := rfl
@[simp] theorem State.setMoisture_tacho (s : State) (b : Moisture) : (s.setMoisture b).tacho = s.tacho := rfl
@[simp] theorem State.setHeater_tacho (s : State) (b : Heater) : (s.setHeater b).tacho = s.tacho := rfl
@[simp] theorem State.setDrum_tacho (s : State) (b : Drum) : (s.setDrum b).tacho = s.tacho := rfl
@[simp] theorem State.setWalker_tacho (s : State) (b : Walker) : (s.setWalker b).tacho = s.tacho := rfl
@[simp] theorem State.setCycle_tacho (s : State) (b : Cycle) : (s.setCycle b).tacho = s.tacho := rfl
@[simp] theorem State.setFaults_tacho (s : State) (b : Faults) : (s.setFaults b).tacho = s.tacho := rfl
@[simp] theorem State.setTables_tacho (s : State) (b : Tables) : (s.setTables b).tacho = s.tacho := rfl
@[simp] theorem State.setUpstream_tacho (s : State) (b : Upstream) : (s.setUpstream b).tacho = s.tacho := rfl
@[simp] theorem State.setAux_tacho (s : State) (b : Aux) : (s.setAux b).tacho = s.tacho := rfl

@[simp] theorem State.setLinks_speed (s : State) (b : Links) : (s.setLinks b).speed = s.speed := rfl
@[simp] theorem State.setMoisture_speed (s : State) (b : Moisture) : (s.setMoisture b).speed = s.speed := rfl
@[simp] theorem State.setHeater_speed (s : State) (b : Heater) : (s.setHeater b).speed = s.speed := rfl
@[simp] theorem State.setDrum_speed (s : State) (b : Drum) : (s.setDrum b).speed = s.speed := rfl
@[simp] theorem State.setWalker_speed (s : State) (b : Walker) : (s.setWalker b).speed = s.speed := rfl
@[simp] theorem State.setCycle_speed (s : State) (b : Cycle) : (s.setCycle b).speed = s.speed := rfl
@[simp] theorem State.setFaults_speed (s : State) (b : Faults) : (s.setFaults b).speed = s.speed := rfl
@[simp] theorem State.setTables_speed (s : State) (b : Tables) : (s.setTables b).speed = s.speed := rfl
@[simp] theorem State.setUpstream_speed (s : State) (b : Upstream) : (s.setUpstream b).speed = s.speed := rfl
@[simp] theorem State.setAux_speed (s : State) (b : Aux) : (s.setAux b).speed = s.speed := rfl

end Sys2Proof.Machine
end

