-- ==== Sys2Proof/Laws/Accessors.lean ====
section
/-! SUPPORT. What a store of one table entry, record, condition, action, counter or receiver leaves to be read: each is
read back where it was stored, and every other is as before. -/

namespace Sys2Proof.Machine

/-! ### Indices -/

theorem Source.ofIndex?_index (x : Source) : Source.ofIndex? x.row.index.val = some x := by cases x <;> rfl

theorem Param.ofIndex?_index (p : Param) : Param.ofIndex? p.row.index.val = some p := by cases p <;> rfl

theorem Source.index_inj {x y : Source} (h : x.row.index.val = y.row.index.val) : x = y := by
  have hx := Source.ofIndex?_index x
  rw [h, Source.ofIndex?_index y] at hx
  exact (Option.some.inj hx).symm

theorem Param.index_inj {p q : Param} (h : p.row.index.val = q.row.index.val) : p = q := by
  have hp := Param.ofIndex?_index p
  rw [h, Param.ofIndex?_index q] at hp
  exact (Option.some.inj hp).symm

theorem Source.mem_all (x : Source) : x ∈ Source.all := by cases x <;> decide

theorem Param.mem_all (p : Param) : p ∈ Param.all := by cases p <;> decide

/-! ### Records, conditions, actions, parameters -/

@[simp] theorem State.record_setRecord (s : State) (x y : Source) (r : FaultRecord) :
    (s.setRecord x r).record y = if x = y then r else s.record y := by
  simp only [State.record, State.setRecord, State.setFaults, Fin.getElem_fin, Vector.getElem_set]
  by_cases h : x = y
  · simp [h]
  · have hn : x.row.index.val ≠ y.row.index.val := fun e => h (Source.index_inj e)
    simp [h, hn]

@[simp] theorem State.present_setPresent (s : State) (x y : Source) (b : Bool) :
    (s.setPresent x b).present y = if x = y then b else s.present y := by
  simp only [State.present, State.setPresent, State.setFaults, Fin.getElem_fin, Vector.getElem_set]
  by_cases h : x = y
  · simp [h]
  · have hn : x.row.index.val ≠ y.row.index.val := fun e => h (Source.index_inj e)
    simp [h, hn]

@[simp] theorem State.action_setAction (s : State) (x y : Source) (a : Action) :
    (s.setAction x a).action y = if x = y then a else s.action y := by
  simp only [State.action, State.setAction, State.setFaults, Fin.getElem_fin, Vector.getElem_set]
  by_cases h : x = y
  · simp [h]
  · have hn : x.row.index.val ≠ y.row.index.val := fun e => h (Source.index_inj e)
    simp [h, hn]

@[simp] theorem State.param_setParam (s : State) (p q : Param) (v : Nat) :
    (s.setParam p v).param q = if p = q then v else s.param q := by
  simp only [State.param, State.setParam, State.setTables, Fin.getElem_fin, Vector.getElem_set]
  by_cases h : p = q
  · simp [h]
  · have hn : p.row.index.val ≠ q.row.index.val := fun e => h (Param.index_inj e)
    simp [h, hn]

@[simp] theorem State.record_setPresent (s : State) (x y : Source) (b : Bool) :
    (s.setPresent x b).record y = s.record y := rfl

@[simp] theorem State.action_setPresent (s : State) (x y : Source) (b : Bool) :
    (s.setPresent x b).action y = s.action y := rfl

@[simp] theorem State.present_setRecord (s : State) (x y : Source) (r : FaultRecord) :
    (s.setRecord x r).present y = s.present y := rfl

@[simp] theorem State.action_setRecord (s : State) (x y : Source) (r : FaultRecord) :
    (s.setRecord x r).action y = s.action y := rfl

@[simp] theorem State.record_setAction (s : State) (x y : Source) (a : Action) :
    (s.setAction x a).record y = s.record y := rfl

@[simp] theorem State.present_setAction (s : State) (x y : Source) (a : Action) :
    (s.setAction x a).present y = s.present y := rfl

/-! ### Counters and receivers of the two ports -/

@[simp] theorem State.badCount_setBadCount (s : State) (p q : Port) (n : Nat) :
    (s.setBadCount p n).badCount q = if p = q then n else s.badCount q := by
  cases p <;> cases q <;> rfl

@[simp] theorem State.receiver_setReceiver (s : State) (p q : Port) (r : Receiver) :
    (s.setReceiver p r).receiver q = if p = q then r else s.receiver q := by
  cases p <;> cases q <;> rfl

@[simp] theorem State.receiver_setBadCount (s : State) (p q : Port) (n : Nat) :
    (s.setBadCount p n).receiver q = s.receiver q := by
  cases p <;> cases q <;> rfl

@[simp] theorem State.badCount_setReceiver (s : State) (p q : Port) (r : Receiver) :
    (s.setReceiver p r).badCount q = s.badCount q := by
  cases p <;> cases q <;> rfl

end Sys2Proof.Machine
end

