-- ==== Sys2Proof/Laws/Frames.lean ====
section
/-! SUPPORT. What each shared operation can move at all: six frames, each an equation that says every field the operation
leaves, and one lemma per operation that places it in its frame. A field is read off a frame `h : Moves… s t` by
`rw [h]`. -/

namespace Sys2Proof.Machine

/-! ### The frames -/

/-- Only the upstream block and the controller port transmitter may move. -/
def MovesUpstream (s t : State) : Prop :=
  t = { s with upstream := t.upstream, links := { s.links with controllerTx := t.links.controllerTx } }

/-- Only the commanded level, its two stamps and the second's lowest level may move. -/
def MovesLevel (s t : State) : Prop :=
  t = { s with
        heater :=
          { s.heater with
            commanded := t.heater.commanded, h1Switch := t.heater.h1Switch, h2Switch := t.heater.h2Switch }
        moisture := { s.moisture with lowest := t.moisture.lowest } }

/-- Only the walker may move, with the mark that its segment is new. -/
def MovesWalker (s t : State) : Prop :=
  t = { s with walker := t.walker, aux := { s.aux with segFresh := t.aux.segFresh } }

/-- Only the drum's motion, the walker and the commanded level may move. -/
def MovesDrum (s t : State) : Prop :=
  t = { s with
        heater :=
          { s.heater with
            commanded := t.heater.commanded, h1Switch := t.heater.h1Switch, h2Switch := t.heater.h2Switch }
        moisture := { s.moisture with lowest := t.moisture.lowest }
        drum :=
          { t.drum with
            turningEntry := s.drum.turningEntry, ocRun := s.drum.ocRun, currentMin := s.drum.currentMin,
            currentMax := s.drum.currentMax }
        walker := t.walker
        aux := { s.aux with segFresh := t.aux.segFresh, deferred := t.aux.deferred } }

/-- Beyond that, only the cycle state with its two timers and the effective action may move. -/
def MovesAction (s t : State) : Prop :=
  t = { s with
        heater :=
          { s.heater with
            commanded := t.heater.commanded, h1Switch := t.heater.h1Switch, h2Switch := t.heater.h2Switch }
        moisture := { s.moisture with lowest := t.moisture.lowest }
        drum :=
          { t.drum with
            turningEntry := s.drum.turningEntry, ocRun := s.drum.ocRun, currentMin := s.drum.currentMin,
            currentMax := s.drum.currentMax }
        walker := t.walker
        cycle :=
          { s.cycle with
            state := t.cycle.state, suspension := t.cycle.suspension, cooldown := t.cycle.cooldown }
        faults := { s.faults with effective := t.faults.effective }
        aux := { s.aux with segFresh := t.aux.segFresh, deferred := t.aux.deferred } }

/-- Beyond that, only records and conditions, the ring, the upstream block and the transmitter may move. -/
def MovesRecord (s t : State) : Prop :=
  t = { s with
        links := { s.links with controllerTx := t.links.controllerTx }
        heater :=
          { s.heater with
            commanded := t.heater.commanded, h1Switch := t.heater.h1Switch, h2Switch := t.heater.h2Switch }
        moisture := { s.moisture with lowest := t.moisture.lowest, ring := t.moisture.ring }
        drum :=
          { t.drum with
            turningEntry := s.drum.turningEntry, ocRun := s.drum.ocRun, currentMin := s.drum.currentMin,
            currentMax := s.drum.currentMax }
        walker := t.walker
        cycle :=
          { s.cycle with
            state := t.cycle.state, suspension := t.cycle.suspension, cooldown := t.cycle.cooldown }
        faults := { t.faults with limits := s.faults.limits, actions := s.faults.actions }
        upstream := t.upstream
        aux := { s.aux with segFresh := t.aux.segFresh, deferred := t.aux.deferred } }

/-- What no block's work on a SAMPLE or at a tenth moves: the queue of commands, the links but for the keepalive window
and the transmitter, the sample path, the reference DRIVE, the LIMITS and ACTIONS entries, the tables, and the orders. -/
def MovesBlocks (s t : State) : Prop :=
  t = { t with
        pending := s.pending
        links := { s.links with keepalive := t.links.keepalive, controllerTx := t.links.controllerTx }
        path := s.path
        heater := { t.heater with refH1 := s.heater.refH1, refH2 := s.heater.refH2 }
        faults := { t.faults with limits := s.faults.limits, actions := s.faults.actions }
        tables := s.tables
        aux := { t.aux with choices := s.aux.choices } }

/-! ### Each frame holds of no move and of two moves, and the frames include one another -/

theorem MovesUpstream.refl (s : State) : MovesUpstream s s := rfl
theorem MovesLevel.refl (s : State) : MovesLevel s s := rfl
theorem MovesWalker.refl (s : State) : MovesWalker s s := rfl
theorem MovesDrum.refl (s : State) : MovesDrum s s := rfl
theorem MovesAction.refl (s : State) : MovesAction s s := rfl
theorem MovesRecord.refl (s : State) : MovesRecord s s := rfl
theorem MovesBlocks.refl (s : State) : MovesBlocks s s := rfl

theorem MovesUpstream.trans {s t u : State} (h : MovesUpstream s t) (k : MovesUpstream t u) : MovesUpstream s u := by
  unfold MovesUpstream at *; rw [k, h]
theorem MovesLevel.trans {s t u : State} (h : MovesLevel s t) (k : MovesLevel t u) : MovesLevel s u := by
  unfold MovesLevel at *; rw [k, h]
theorem MovesWalker.trans {s t u : State} (h : MovesWalker s t) (k : MovesWalker t u) : MovesWalker s u := by
  unfold MovesWalker at *; rw [k, h]
theorem MovesDrum.trans {s t u : State} (h : MovesDrum s t) (k : MovesDrum t u) : MovesDrum s u := by
  unfold MovesDrum at *; rw [k, h]
theorem MovesAction.trans {s t u : State} (h : MovesAction s t) (k : MovesAction t u) : MovesAction s u := by
  unfold MovesAction at *; rw [k, h]
theorem MovesRecord.trans {s t u : State} (h : MovesRecord s t) (k : MovesRecord t u) : MovesRecord s u := by
  unfold MovesRecord at *; rw [k, h]
theorem MovesBlocks.trans {s t u : State} (h : MovesBlocks s t) (k : MovesBlocks t u) : MovesBlocks s u := by
  unfold MovesBlocks at *; rw [k, h]

theorem MovesLevel.drum {s t : State} (h : MovesLevel s t) : MovesDrum s t := by
  unfold MovesLevel at h; unfold MovesDrum; rw [h]
theorem MovesWalker.drum {s t : State} (h : MovesWalker s t) : MovesDrum s t := by
  unfold MovesWalker at h; unfold MovesDrum; rw [h]
theorem MovesDrum.action {s t : State} (h : MovesDrum s t) : MovesAction s t := by
  unfold MovesDrum at h; unfold MovesAction; rw [h]
theorem MovesAction.record {s t : State} (h : MovesAction s t) : MovesRecord s t := by
  unfold MovesAction at h; unfold MovesRecord; rw [h]
theorem MovesUpstream.record {s t : State} (h : MovesUpstream s t) : MovesRecord s t := by
  unfold MovesUpstream at h; unfold MovesRecord; rw [h]
theorem MovesRecord.blocks {s t : State} (h : MovesRecord s t) : MovesBlocks s t := by
  unfold MovesRecord at h; unfold MovesBlocks; rw [h]

end Sys2Proof.Machine
end

