-- ==== Sys2Proof/Laws/Operations.lean ====
section
/-! SUPPORT. The frame of each shared operation: proofs cite these and do not unfold the operations. -/

namespace Sys2Proof.Machine

/-! ### The upstream block (11) -/

theorem setUpstream_moves (s : State) (b : Upstream) : MovesUpstream s (s.setUpstream b) := rfl

theorem moveEvents_moves (s : State) : MovesUpstream s (moveEvents s) := rfl

theorem startTransmission_moves (s : State) : MovesUpstream s (startTransmission s) := by
  unfold startTransmission
  split
  · split <;> exact rfl
  · exact rfl

theorem joinQueue_moves (f : UpFrame) (s : State) : MovesUpstream s (joinQueue f s) :=
  (setUpstream_moves s _).trans (startTransmission_moves _)

theorem raiseEvent_moves (k : EventKind) (a : Nat) (s : State) : MovesUpstream s (raiseEvent k a s) :=
  ((setUpstream_moves s _).trans (moveEvents_moves _)).trans (startTransmission_moves _)

theorem refresh_moves (s : State) : MovesUpstream s s.refresh := rfl

theorem refresh_refresh (s : State) : s.refresh.refresh = s.refresh := rfl

/-- A hand-on moves the upstream block alone. -/
theorem handOnCopy_moves (p : List Byte) (s : State) : MovesUpstream s (handOnCopy p s) := by
  unfold handOnCopy
  split
  · exact .refl s
  · split
    · exact (setUpstream_moves s _).trans (joinQueue_moves _ _)
    · exact rfl

/-! ### The commanded level (04) -/

theorem setCommanded_moves (l : Level) (s : State) : MovesLevel s (setCommanded l s) := rfl

/-- The forced reduction moves the level alone, and leaves the heat law true. -/
theorem forceReduction_moves (s : State) : MovesLevel s (forceReduction s) := by
  unfold forceReduction
  split
  · exact rfl
  · exact .refl s

theorem forceReduction_commanded (s : State) :
    (forceReduction s).heater.commanded.code = min s.heater.commanded.code s.permitted.code := by
  unfold forceReduction
  split
  · simp only [setCommanded, State.setMoisture_heater, State.setHeater_heater]; omega
  · omega

/-! ### The pattern walker (06) -/

theorem nameEntry_moves (i : Nat) (s : State) : MovesWalker s (nameEntry i s) := rfl

theorem setWalker_moves (s : State) (b : Walker) : MovesWalker s (s.setWalker b) := rfl

theorem loseDrum_moves (s : State) : MovesWalker s (loseDrum s) := by
  unfold loseDrum
  dsimp only
  repeat' split
  all_goals exact rfl

theorem regainDrum_moves (s : State) : MovesWalker s (regainDrum s) := by
  unfold regainDrum
  split <;> exact rfl

theorem endPass_moves (s : State) : MovesWalker s (endPass s) := by
  unfold endPass
  split <;> exact rfl

theorem passAt_moves (b r i : Nat) (s : State) : MovesWalker s (passAt b r i s) := by
  unfold passAt
  split
  · exact rfl
  · exact endPass_moves s

theorem beginPass_moves (u b r : Nat) (s : State) : MovesWalker s (beginPass u b r s) :=
  (setWalker_moves s _).trans (passAt_moves _ _ _ _)

theorem advanceWalker_moves (s : State) : MovesWalker s (advanceWalker s) := by
  unfold advanceWalker
  split
  · exact .refl s
  · split
    · split
      · exact endPass_moves s
      · exact passAt_moves _ _ _ s
    · exact rfl

theorem endTangled_moves (s : State) : MovesWalker s (endTangled s) := by
  unfold endTangled
  split
  · exact .refl s
  · split
    · exact beginPass_moves _ _ _ s
    all_goals exact rfl

theorem walkerPhaseBegin_moves (r : PhaseRecord) (s : State) : MovesWalker s (walkerPhaseBegin r s) := by
  unfold walkerPhaseBegin
  dsimp only
  split <;> exact rfl

/-! ### The drum (05) -/

/-- The six entries are a write of the drum and a forced reduction. -/
theorem drumWrite_moves (s : State) (d : Drum)
    (h : d.turningEntry = s.drum.turningEntry ∧ d.ocRun = s.drum.ocRun ∧ d.currentMin = s.drum.currentMin ∧
      d.currentMax = s.drum.currentMax) : MovesDrum s (s.setDrum d) := by
  obtain ⟨h1, h2, h3, h4⟩ := h
  unfold MovesDrum
  simp only [State.setDrum, ← h1, ← h2, ← h3, ← h4]

theorem enterRamp_moves (d : Direction) (v a : Nat) (s : State) : MovesDrum s (enterRamp d v a s) :=
  (drumWrite_moves s _ ⟨rfl, rfl, rfl, rfl⟩).trans (forceReduction_moves _).drum

theorem enterDecel_moves (s : State) : MovesDrum s (enterDecel s) :=
  (drumWrite_moves s _ ⟨rfl, rfl, rfl, rfl⟩).trans (forceReduction_moves _).drum

theorem enterDwell_moves (s : State) : MovesDrum s (enterDwell s) :=
  (drumWrite_moves s _ ⟨rfl, rfl, rfl, rfl⟩).trans (forceReduction_moves _).drum

theorem enterStopped_moves (s : State) : MovesDrum s (enterStopped s) :=
  (drumWrite_moves s _ ⟨rfl, rfl, rfl, rfl⟩).trans (forceReduction_moves _).drum

theorem leaveRamp_moves (s : State) : MovesDrum s (leaveRamp s) := by
  unfold leaveRamp
  split
  · exact enterDwell_moves s
  · exact enterDecel_moves s

theorem setTarget_moves (v : Nat) (s : State) : MovesDrum s (s.setDrum { s.drum with target := v }) :=
  drumWrite_moves s _ ⟨rfl, rfl, rfl, rfl⟩

theorem restartDwell_moves (s : State) : MovesDrum s (s.setDrum { s.drum with dwell := some 0 }) :=
  drumWrite_moves s _ ⟨rfl, rfl, rfl, rfl⟩

/-- Acting on a change of the winner moves the drum's motion and the level alone. -/
theorem actOn_moves (w : Demand) (s : State) : MovesDrum s (actOn w s) := by
  unfold actOn
  split
  · split
    · exact .refl s
    · exact enterRamp_moves _ _ _ s
    · exact enterRamp_moves _ _ _ s
    · exact enterDwell_moves s
  · split
    · split
      · exact setTarget_moves _ s
      · exact leaveRamp_moves s
    · exact leaveRamp_moves s
  · split
    · split
      · split
        · exact .refl s
        · exact enterRamp_moves _ _ _ s
      · exact enterDecel_moves s
    · exact enterDecel_moves s
  · exact .refl s
  · split
    · exact .refl s
    · exact .refl s
    · exact .refl s
    · exact restartDwell_moves s

theorem handWalker_moves (s : State) : MovesWalker s (handWalker s) := by
  unfold handWalker
  split
  · exact loseDrum_moves s
  · split
    · exact regainDrum_moves s
    · exact .refl s

theorem meetWinner_moves (w : Demand) (s : State) : MovesDrum s (meetWinner w s) := by
  unfold meetWinner
  split
  · exact rfl
  · exact actOn_moves w s

/-- A new selection of the winner moves the drum, the walker and the level alone. -/
theorem reselect_moves (n : Bool) (s : State) : MovesDrum s (reselect n s) := by
  unfold reselect
  dsimp only
  split
  · exact ((handWalker_moves s).drum.trans (drumWrite_moves _ _ ⟨rfl, rfl, rfl, rfl⟩)).trans (meetWinner_moves _ _)
  · exact (handWalker_moves s).drum.trans (drumWrite_moves _ _ ⟨rfl, rfl, rfl, rfl⟩)

/-- While the reaction waits, a selection leaves the drum's motion, setpoint and direction as they are. -/
theorem reselect_deferred (n : Bool) (s : State) (h : s.aux.drumDeferred = true) :
    (reselect n s).drum = { s.drum with winner := (reselect n s).drum.winner } := by
  have hw : (handWalker s).drum = s.drum := by rw [handWalker_moves s]
  have ha : (handWalker s).aux.drumDeferred = true := by rw [handWalker_moves s]; exact h
  unfold reselect meetWinner
  dsimp only
  split
  · simp only [State.setDrum_aux, ha, if_true, State.setAux_drum, State.setDrum_drum, hw]
  · simp only [State.setDrum_drum, hw]

theorem endDwell_moves (s : State) : MovesDrum s (endDwell s) := by
  unfold endDwell
  split
  · exact enterStopped_moves s
  · exact enterRamp_moves _ _ _ s
  · exact enterRamp_moves _ _ _ s
  · dsimp only
    have h := (advanceWalker_moves s).drum.trans
      (drumWrite_moves (advanceWalker s)
        { (advanceWalker s).drum with winner := (advanceWalker s).segmentDemand } ⟨rfl, rfl, rfl, rfl⟩)
    split
    · exact h.trans (enterStopped_moves _)
    · exact h.trans (enterRamp_moves _ _ _ _)
    · exact h.trans (enterRamp_moves _ _ _ _)
    · exact h.trans (drumWrite_moves _ _ ⟨rfl, rfl, rfl, rfl⟩)

theorem stepSetpoint_moves (s : State) : MovesDrum s (stepSetpoint s) := by
  unfold stepSetpoint
  split <;> first | exact .refl s | exact rfl

theorem countTenth_moves (s : State) : MovesDrum s (countTenth s) := by
  unfold countTenth
  split
  · exact rfl
  · exact rfl
  · split
    · exact .refl s
    · exact rfl
  · exact .refl s
  · exact .refl s

/-! ### Cycle state, effective action, records (08, 09) -/

/-- A change of the cycle state moves that state and its timers, and what follows in level, drum and walker. -/
theorem cycleTo_moves (c : CycleState) (s : State) : MovesAction s (cycleTo c s) := by
  have h : MovesAction s (s.setCycle
      { s.cycle with
        state := c
        suspension := if c = .suspended then some 0 else none
        cooldown := if c = .cooldown then some 0 else none }) := rfl
  exact (h.trans (forceReduction_moves _).drum.action).trans (reselect_moves _ _).action

theorem enterHalted_moves (s : State) : MovesAction s (enterHalted s) := by
  unfold enterHalted
  split
  · exact .refl s
  · exact cycleTo_moves _ s

/-- The new effective action moves itself, and the cycle state, the level, the drum and the walker. -/
theorem workOutAction_moves (s : State) : MovesAction s (workOutAction s) := by
  unfold workOutAction
  dsimp only
  have h : MovesAction s (reselect false (forceReduction
      (s.setFaults { s.faults with effective := s.highestAction }))) := by
    have h0 : MovesAction s (s.setFaults { s.faults with effective := s.highestAction }) := rfl
    exact (h0.trans (forceReduction_moves _).drum.action).trans (reselect_moves _ _).action
  split
  · exact .refl s
  · split
    · exact h.trans (enterHalted_moves _)
    · exact h

theorem setRecord_moves (s : State) (x : Source) (r : FaultRecord) : MovesRecord s (s.setRecord x r) := rfl

theorem setPresent_moves (s : State) (x : Source) (b : Bool) : MovesRecord s (s.setPresent x b) := rfl

theorem emptyRingFor_moves (x : Source) (s : State) : MovesRecord s (emptyRingFor x s) := by
  unfold emptyRingFor
  split <;> first | exact .refl s | exact rfl

theorem arise_moves (x : Source) (s : State) : MovesRecord s (arise x s) := by
  unfold arise
  split
  · exact .refl s
  · exact ((((setPresent_moves s x true).trans (emptyRingFor_moves x _)).trans (setRecord_moves _ x _)).trans
      (raiseEvent_moves _ _ _).record).trans (workOutAction_moves _).record

theorem goAway_moves (x : Source) (s : State) : MovesRecord s (goAway x s) := by
  unfold goAway
  split
  · dsimp only
    split
    · split
      · exact ((setPresent_moves s x false).trans (setRecord_moves _ x _)).trans (workOutAction_moves _).record
      · exact (((setPresent_moves s x false).trans (setRecord_moves _ x _)).trans
          (raiseEvent_moves _ _ _).record).trans (workOutAction_moves _).record
    · exact setPresent_moves s x false
  · exact .refl s

theorem handCondition_moves (x : Source) (b : Bool) (s : State) : MovesRecord s (handCondition x b s) := by
  unfold handCondition
  split
  · exact arise_moves x s
  · exact goAway_moves x s

theorem thresholdCheck_moves (x : Source) (l : LimitEntry) (t : Temperature) (s : State) :
    MovesRecord s (thresholdCheck x l t s) := by
  unfold thresholdCheck
  repeat' split
  all_goals first | exact .refl s | exact goAway_moves x s | exact arise_moves x s

theorem limitsSample_moves (s : State) : MovesRecord s (limitsSample s) := by
  unfold limitsSample
  split
  · exact ((((thresholdCheck_moves _ _ _ _).trans (thresholdCheck_moves _ _ _ _)).trans
      (handCondition_moves _ _ _)).trans (handCondition_moves _ _ _)).trans (handCondition_moves _ _ _)
  all_goals exact .refl s

/-! ### Whole blocks on a SAMPLE and at a tenth (02 R22, R24) -/

theorem stepContacts_moves (s : State) : MovesBlocks s (stepContacts s) := by
  unfold stepContacts
  split <;> first | exact .refl s | exact rfl

theorem contactsSample_moves (s : State) : MovesBlocks s (contactsSample s) :=
  ((stepContacts_moves s).trans (handCondition_moves _ _ _).blocks).trans (handCondition_moves _ _ _).blocks

theorem regulate_moves (s : State) : MovesBlocks s (regulate s) := by
  unfold regulate
  repeat' split
  all_goals first | exact .refl s | exact rfl

theorem stageStep_moves (s : State) : MovesBlocks s (stageStep s) := by
  unfold stageStep
  repeat' split
  all_goals first | exact .refl s | exact rfl

theorem heaterSample_moves (s : State) : MovesBlocks s (heaterSample s) :=
  ((regulate_moves s).trans (forceReduction_moves _).drum.action.record.blocks).trans (stageStep_moves _)

theorem beginPhase_moves (p : Nat) (r : PhaseRecord) (s : State) : MovesBlocks s (beginPhase p r s) := by
  unfold beginPhase
  dsimp only
  refine MovesBlocks.trans ?_ (reselect_moves _ _).action.record.blocks
  refine MovesBlocks.trans ?_ (forceReduction_moves _).drum.action.record.blocks
  refine MovesBlocks.trans ?_ (raiseEvent_moves _ _ _).record.blocks
  refine MovesBlocks.trans ?_ (walkerPhaseBegin_moves _ _).drum.action.record.blocks
  exact rfl

theorem completeCycle_moves (s : State) : MovesBlocks s (completeCycle s) :=
  (cycleTo_moves _ s).record.blocks.trans (raiseEvent_moves _ _ _).record.blocks

theorem endPhase_moves (e : EndReason) (s : State) : MovesBlocks s (endPhase e s) := by
  have h : MovesBlocks s (raiseEvent .phaseEnd e.code (s.setCycle (markEnd e s.cycle))) := by
    have h0 : MovesBlocks s (s.setCycle (markEnd e s.cycle)) := rfl
    exact h0.trans (raiseEvent_moves _ _ _).record.blocks
  unfold endPhase
  dsimp only
  split
  · exact h.trans (beginPhase_moves _ _ _)
  · exact h.trans (completeCycle_moves _)

theorem suspend_moves (c : SuspendCause) (s : State) : MovesBlocks s (suspend c s) :=
  (cycleTo_moves _ s).record.blocks.trans (raiseEvent_moves _ _ _).record.blocks

theorem endCooldown_moves (s : State) : MovesBlocks s (endCooldown s) :=
  ((raiseEvent_moves _ _ s).record.blocks.trans (cycleTo_moves _ _).record.blocks).trans
    (raiseEvent_moves _ _ _).record.blocks

theorem cycleSample_moves (o : Bool) (s : State) : MovesBlocks s (cycleSample o s) := by
  unfold cycleSample
  repeat' split
  all_goals
    first
    | exact .refl s
    | exact completeCycle_moves s
    | exact suspend_moves _ s
    | exact endCooldown_moves s

theorem takeDry_moves (s : State) : MovesBlocks s (takeDry s) := by
  unfold takeDry
  split
  · exact endPhase_moves _ s
  · exact .refl s

theorem moistureSample_moves (s0 s : State) : MovesBlocks s (moistureSample s0 s) := by
  unfold moistureSample
  split
  · split
    · unfold allShortWork
      dsimp only
      have h : MovesBlocks s (s.setMoisture
          { s.moisture with
            allShort := satSucc (s.param .shortLimit) s.moisture.allShort, hits := 0 }) := rfl
      split
      · exact h.trans (arise_moves _ _).blocks
      · exact h
    · unfold contactWork
      dsimp only
      have h : MovesBlocks s (s.setMoisture
          { s.moisture with
            allShort := 0, hits := (hitsOf (s0.param .contactFloor) s0.electrodes).length, w16 := s0.nextW16,
            streak := s0.nextStreak }) := rfl
      split
      · exact (h.trans (goAway_moves _ _).blocks).trans (takeDry_moves _)
      · exact h.trans (goAway_moves _ _).blocks
  · exact .refl s

theorem noteCurrent_moves (c : Nat) (s : State) : MovesBlocks s (noteCurrent c s) := rfl

theorem handOvercurrent_moves (h : Option Bool) (s : State) : MovesBlocks s (handOvercurrent h s) := by
  unfold handOvercurrent
  split
  · exact .refl s
  · exact (handCondition_moves _ _ s).blocks

theorem reactDrum_moves (s : State) : MovesBlocks s (reactDrum s) := by
  have h : MovesBlocks s (s.setAux { s.aux with drumDeferred := false, deferred := [], airflowWaits := false }) := rfl
  have k : ∀ (l : List Demand) (t : State), MovesBlocks t (l.foldl (fun t w => actOn w t) t) := by
    intro l
    induction l with
    | nil => exact .refl
    | cons w ws ih => exact fun t => (actOn_moves w t).action.record.blocks.trans (ih _)
  exact h.trans (k _ _)

/-- Step 2 leaves nothing waiting: neither the drum's reaction nor the airflow of the SAMPLE. -/
theorem reactDrum_waits (s : State) :
    (reactDrum s).aux.drumDeferred = false ∧ (reactDrum s).aux.airflowWaits = false := by
  have k : ∀ (l : List Demand) (t : State),
      (l.foldl (fun t w => actOn w t) t).aux.drumDeferred = t.aux.drumDeferred ∧
      (l.foldl (fun t w => actOn w t) t).aux.airflowWaits = t.aux.airflowWaits := by
    intro l
    induction l with
    | nil => exact fun _ => ⟨rfl, rfl⟩
    | cons w ws ih => intro t; rw [List.foldl_cons, (ih _).1, (ih _).2, actOn_moves w t]; exact ⟨rfl, rfl⟩
  exact ⟨(k _ _).1, (k _ _).2⟩

/-- From a SAMPLE's acceptance the drum's reaction waits, and the airflow of a RAMP that was too slow. -/
theorem beginSample_waits (p : List Byte) (s : State) :
    (beginSample p s).aux.drumDeferred = true ∧ (beginSample p s).aux.airflowWaits = s.slowRamp := by
  unfold beginSample
  dsimp only
  rw [goAway_moves]
  exact ⟨rfl, rfl⟩

theorem enterTurning_moves (s : State) : MovesBlocks s (enterTurning s) := by
  unfold enterTurning
  dsimp only
  refine MovesBlocks.trans ?_ (goAway_moves _ _).blocks
  refine MovesBlocks.trans ?_ (forceReduction_moves _).drum.action.record.blocks
  exact rfl

theorem drumEndTest_moves (s : State) : MovesBlocks s (drumEndTest s) := by
  unfold drumEndTest
  repeat' split
  all_goals
    first
    | exact .refl s
    | exact enterTurning_moves s
    | exact (enterDwell_moves s).action.record.blocks.trans (goAway_moves _ _).blocks

theorem drumSample_moves (l : Bool) (s : State) : MovesBlocks s (drumSample l s) := by
  unfold drumSample
  dsimp only
  have h : ∀ (n c : Nat), MovesBlocks s (noteCurrent c (s.setDrum { s.drum with ocRun := n })) := fun n c => by
    have h0 : MovesBlocks s (s.setDrum { s.drum with ocRun := n }) := rfl
    exact h0.trans (noteCurrent_moves c _)
  have k : ∀ t, MovesBlocks t (drumEndTest (stepSetpoint (reactDrum t))) := fun t =>
    ((reactDrum_moves t).trans (stepSetpoint_moves _).action.record.blocks).trans (drumEndTest_moves _)
  cases l
  · exact ((h _ _).trans (handOvercurrent_moves _ _)).trans (k _)
  · exact ((h _ _).trans (k _)).trans (handOvercurrent_moves _ _)

/-- Every block's work on a SAMPLE stays in the frame of the blocks. -/
theorem sampleBlock_moves (s0 : State) (o l : Bool) (b : SampleBlock) (s : State) :
    MovesBlocks s (sampleBlock s0 o l b s) := by
  cases b
  · exact (limitsSample_moves s).blocks
  · exact moistureSample_moves s0 s
  · exact contactsSample_moves s
  · exact heaterSample_moves s
  · exact drumSample_moves l s
  · exact cycleSample_moves o s

theorem sampleBlocks_moves (order : List SampleBlock) (l o : Bool) (s0 : State) :
    MovesBlocks s0 (sampleBlocks order l o s0) := by
  unfold sampleBlocks
  have h : ∀ t, MovesBlocks t (order.foldl (fun t b => sampleBlock s0 o l b t) t) := by
    induction order with
    | nil => exact .refl
    | cons b bs ih => exact fun t => (sampleBlock_moves s0 o l b t).trans (ih _)
  exact (reselect_moves _ s0).action.record.blocks.trans (h _)

theorem notePersist_moves (s : State) : MovesBlocks s (notePersist s) := by
  unfold notePersist
  split
  · have h0 : MovesBlocks s (s.setWalker { s.walker with persist := true }) := rfl
    exact (h0.trans (raiseEvent_moves _ _ _).record.blocks).trans (forceReduction_moves _).drum.action.record.blocks
  · exact .refl s

theorem judgeSecond_moves (s : State) : MovesBlocks s (judgeSecond s) := by
  have k : ∀ t : State, MovesBlocks t (t.setDrum { t.drum with currentMin := none, currentMax := none }) := fun _ => rfl
  unfold judgeSecond
  dsimp only
  split
  · refine MovesBlocks.trans ?_ (k _)
    unfold detectTangle
    have h0 : MovesBlocks s (s.setWalker
        { s.walker with score := 0, count := satSucc 255 s.walker.count, early := true }) := rfl
    exact (h0.trans (raiseEvent_moves _ _ _).record.blocks).trans (notePersist_moves _)
  · exact rfl

theorem walkerCount_moves (s : State) : MovesBlocks s (walkerCount s) := by
  have h0 : MovesBlocks s (countTurning s) := by
    unfold countTurning
    split <;> first | exact .refl s | exact rfl
  unfold walkerCount
  dsimp only
  split
  · exact (h0.trans (endTangled_moves _).drum.action.record.blocks).trans (reselect_moves _ _).action.record.blocks
  · split
    · exact (h0.trans (advanceWalker_moves _).drum.action.record.blocks).trans
        (reselect_moves _ _).action.record.blocks
    · exact h0

theorem drumTenth_moves (s : State) : MovesBlocks s (drumTenth s) := by
  unfold drumTenth
  split
  · have h0 : MovesBlocks s (s.setDrum { s.drum with stallMark := true }) := rfl
    exact h0.trans (arise_moves _ _).blocks
  · split
    · have h0 : MovesBlocks s (s.setDrum { s.drum with overrunMark := true }) := rfl
      exact h0.trans (arise_moves _ _).blocks
    · split
      · exact (endDwell_moves s).action.record.blocks
      · exact .refl s

theorem keepaliveTenth_moves (s : State) : MovesBlocks s (keepaliveTenth s) := by
  unfold keepaliveTenth
  split
  · have h0 : MovesBlocks s (s.setKeepalive ⟨s.param .keepaliveUpper, false, .late⟩) := rfl
    exact h0.trans (arise_moves _ _).blocks
  · split
    · exact rfl
    · exact .refl s

theorem countSecond_moves (s : State) : MovesBlocks s (countSecond s) := rfl

theorem cycleTenth_moves (b : Bool) (s : State) : MovesBlocks s (cycleTenth b s) := by
  unfold cycleTenth
  split
  · exact rfl
  · split
    · unfold activeSecond
      split
      · exact countSecond_moves s
      · exact (countSecond_moves s).trans (endPhase_moves _ _)
    · exact .refl s
  · split
    · unfold cooldownSecond
      dsimp only
      have h0 : MovesBlocks s (s.setCycle { s.cycle with cooldown := s.cycle.cooldown.map (· + 1) }) := rfl
      split
      · exact h0.trans (endCooldown_moves _)
      · exact h0
    · exact .refl s
  · exact .refl s
  · exact .refl s

theorem reportSecond_moves (s : State) : MovesBlocks s (reportSecond s) := by
  unfold reportSecond
  split
  · exact .refl s
  · split
    · exact rfl
    · have h0 : MovesBlocks s ((s.setUpstream { s.upstream with reportTimer := 0 }).setAux
          { s.aux with freeCount := s.aux.freeCount + 2 }) := rfl
      exact h0.trans (joinQueue_moves _ _).record.blocks

/-- Every block's work at a tenth stays in the frame of the blocks. -/
theorem tenthBlock_moves (second : Bool) (b : TenthBlock) (s : State) : MovesBlocks s (tenthBlock second b s) := by
  cases b
  · exact keepaliveTenth_moves s
  · exact drumTenth_moves s
  · show MovesBlocks s (if second then moistureSecond s else s)
    split
    · exact rfl
    · exact .refl s
  · show MovesBlocks s (walkerCount (if second then judgeSecond s else s))
    split
    · exact (judgeSecond_moves s).trans (walkerCount_moves _)
    · exact walkerCount_moves s
  · exact cycleTenth_moves second s
  · show MovesBlocks s (if second then reportSecond s else s)
    split
    · exact reportSecond_moves s
    · exact .refl s

theorem tenthBlocks_moves (second : Bool) (order : List TenthBlock) (s : State) :
    MovesBlocks s (tenthBlocks second order s) := by
  unfold tenthBlocks
  induction order generalizing s with
  | nil => exact .refl s
  | cons b bs ih => exact (tenthBlock_moves second b s).trans (ih _)

end Sys2Proof.Machine
end

