-- ==== Sys2Proof/Laws/Orders.lean ====
section
/-! SUPPORT. The order of coinciding blocks (log entry 5): every order has each block once, and the block of a timer row
comes first. -/

namespace Sys2Proof.Machine

theorem mem_firstUses {α : Type} [DecidableEq α] (x : α) (l : List α) : x ∈ firstUses l ↔ x ∈ l := by
  induction l with
  | nil => simp [firstUses]
  | cons a l ih =>
    simp only [firstUses, List.mem_cons, List.mem_filter, ih, decide_eq_true_eq]
    by_cases h : x = a <;> simp [h]

theorem nodup_firstUses {α : Type} [DecidableEq α] (l : List α) : (firstUses l).Nodup := by
  induction l with
  | nil => simp [firstUses]
  | cons a l ih =>
    simp only [firstUses, List.nodup_cons, List.mem_filter, decide_eq_true_eq]
    exact ⟨fun h => h.2 rfl, ih.filter _⟩

theorem mem_fillOrder {α : Type} [DecidableEq α] (x : α) (all named : List α) :
    x ∈ fillOrder all named ↔ x ∈ named ∨ x ∈ all := by
  simp only [fillOrder, List.mem_append, List.mem_filter, mem_firstUses, decide_eq_true_eq]
  tauto

theorem nodup_fillOrder {α : Type} [DecidableEq α] {all : List α} (h : all.Nodup) (named : List α) :
    (fillOrder all named).Nodup := by
  refine List.Nodup.append (nodup_firstUses named) (h.filter _) fun x hx hy => ?_
  simp only [List.mem_filter, decide_eq_true_eq] at hy
  exact hy.2 ((mem_firstUses x named).mp hx)

/-- The block named first is first, and does not come again. -/
theorem fillOrder_cons {α : Type} [DecidableEq α] {all : List α} (h : all.Nodup) (b : α) (named : List α) :
    ∃ rest, fillOrder all (b :: named) = b :: rest ∧ b ∉ rest ∧ rest.Nodup ∧
      ∀ x, x ∈ rest ↔ x ≠ b ∧ (x ∈ named ∨ x ∈ all) := by
  have hd := nodup_fillOrder h (b :: named)
  have hm := fun x => mem_fillOrder x all (b :: named)
  refine ⟨_, rfl, ?_⟩
  change (b :: _).Nodup at hd
  rw [List.nodup_cons] at hd
  refine ⟨hd.1, hd.2, fun x => ?_⟩
  have hx : x ∈ fillOrder all (b :: named) ↔ x = b ∨ x ∈ _ := List.mem_cons
  rw [hm x] at hx
  constructor
  · intro hr
    refine ⟨fun e => hd.1 (e ▸ hr), ?_⟩
    rcases hx.mpr (Or.inr hr) with hn | ha
    · rcases List.mem_cons.mp hn with e | hn
      · exact absurd (e ▸ hr) hd.1
      · exact Or.inl hn
    · exact Or.inr ha
  · rintro ⟨hne, hn | ha⟩
    · exact (hx.mp (Or.inl (List.mem_cons_of_mem _ hn))).resolve_left hne
    · exact (hx.mp (Or.inr ha)).resolve_left hne

theorem nodup_sampleBlocks : SampleBlock.all.Nodup := by decide

theorem nodup_tenthBlocks : TenthBlock.all.Nodup := by decide

end Sys2Proof.Machine
end

