-- ==== Sys2Proof/Tests/Slice0.lean ====
section
/-! SUPPORT. The model's own tests: well-formedness, the worked examples of the spec, small steps of the commands, and
for every statement with hypotheses a state that meets them. -/

namespace Sys2Proof.Tests

open Sys2Proof.Machine

set_option Elab.async false

/-! ### Helpers -/

/-- The state after a command. -/
def after (c : Instr) (s : State) : State :=
  match exec c s with
  | .next t => t
  | .fault _ => s
  | .refused _ => s

/-- A SAMPLE payload with four electrode readings. -/
def sample4 (seq flags : Byte) (exhaust : Int) (current : Nat) (tacho : Int) (e : Nat) : List Byte :=
  [seq, flags] ++ bytesSigned16 exhaust ++ bytesSigned16 500 ++ bytes16 current ++ bytesSigned16 tacho ++ [4] ++
    bytes16 e ++ bytes16 0 ++ bytes16 0 ++ bytes16 0

/-- The record of the running phase. -/
def phase : PhaseRecord :=
  { kind := .heatTimed, tSet := 650, cap := .l2, dryness := 990, confirm := 50, depth := 2, duration := 1, start := 13,
    wrap := 8, untangle := some 22 }

/-- A cycle that turns: ACTIVE, CW at 450 under the entry 13 of the window 8 to 15, with an untangle block at 20. -/
def run : State :=
  { State.reset with
    path :=
      { resetPath with
        lastSeq := some 1, door := .isClosed, flags := some ⟨true, false, false, true, true⟩,
        readings := some ⟨⟨600, true⟩, ⟨700, true⟩, 1000, 450, 4, [0, 0, 0, 0]⟩ }
    drum :=
      { resetDrum with
        state := .turning, dir := .cw, setpoint := 450, target := 450, winner := .walkerRun .cw 450,
        turningEntry := some 0 }
    walker :=
      { resetWalker with main := some ⟨8, 8⟩, untangle := some 20, index := some 13, segment := some ⟨.cw, 450, 4⟩ }
    cycle := { resetCycle with state := .active, record := phase }
    tables :=
      { resetTables with
        program := resetTables.program.set 0 phase
        pattern := ((resetTables.pattern.set 13 ⟨.cw, 450, 4⟩).set 15 ⟨.ccw, 350, 1⟩).set 23 ⟨.pause, 200, 1⟩ } }

/-- The same at the tenth before a second expiry. -/
def runLate : State := run.setPath { run.path with timeBase := 99 }

/-- A drum in a DWELL that ends at the coming tenth. -/
def dwelling (w : Demand) : State :=
  run.setDrum { resetDrum with state := .dwell, winner := w, dwell := some 39 }

/-- A cycle that turns in a phase of a kind, at the last second of its span. -/
def ending (k : PhaseKind) : State :=
  runLate.setCycle { run.cycle with record := { phase with kind := k }, elapsed := 59, settle := 9 }

/-- A state with a lock and SERVICE low. -/
def locked : State := State.reset.setTables { resetTables with lock := true }

theorem quiet_reset : State.reset.quiet := by unfold State.quiet State.serves; decide +kernel

theorem quiet_run : run.quiet := by unfold State.quiet State.serves; decide +kernel

theorem quiet_locked : locked.quiet := by unfold State.quiet State.serves; decide +kernel

theorem paramLaw_run : run.paramLaw := ⟨fun p => by cases p <;> decide +kernel, by decide +kernel, by decide +kernel⟩

theorem drumLaw_run : run.drumLaw :=
  ⟨(by decide +kernel : run.drum.dir ≠ .stop ∧ run.drum.setpoint = run.drum.target ∧ run.drum.spinup = none ∧
      run.drum.coast = none ∧ run.drum.dwell = none),
    (by decide +kernel : Direction.cw ≠ .stop), by decide +kernel, by decide +kernel⟩

theorem drumLaw_stopped (s : State) (h : s.drum = resetDrum)
    (aux : (s.aux.drumDeferred, s.aux.deferred, s.aux.airflowWaits) = (false, [], false)) : s.drumLaw := by
  unfold State.drumLaw
  rw [h]
  simp only [Prod.mk.injEq] at aux
  exact ⟨⟨rfl, rfl, rfl, rfl, rfl, rfl⟩, trivial, aux⟩

theorem walkerLaw_run : run.walkerLaw := by unfold State.walkerLaw; decide +kernel

theorem demandLaw_run : run.demandLaw :=
  ⟨by decide +kernel, (by decide +kernel : run.drum.winner.run? = some (run.drum.dir, run.drum.target))⟩

theorem actionLaw_run : run.actionLaw := by unfold State.actionLaw; decide +kernel

theorem recordLaw_run : run.recordLaw := fun x => by cases x <;> decide +kernel

theorem heatLaw_run : run.heatLaw := by unfold State.heatLaw; decide +kernel

theorem quietTenth_run : run.quietTenth := by unfold State.quietTenth; decide +kernel

theorem plainTenth_run : run.plainTenth := by unfold State.plainTenth State.quietTenth; decide +kernel

theorem walkLaw_run : run.walkLaw :=
  ⟨by decide +kernel, fun _ => ⟨by decide +kernel, by decide +kernel, ⟨8, 8⟩, 13, by decide +kernel, by decide +kernel,
    by decide +kernel, by decide +kernel, by decide +kernel, fun _ h _ => absurd h (by decide +kernel)⟩⟩

/-! ### Well-formed commands: an ill-formed one for each check -/

theorem test_wellFormed_sample : (Instr.sample (sample4 1 9 600 1000 450 0)).wellFormed = true := by decide +kernel
theorem test_illFormed_sample_len : (Instr.sample (List.replicate 18 4)).wellFormed = false := by decide +kernel
theorem test_illFormed_sample_e : (Instr.sample (List.replicate 19 5)).wellFormed = false := by decide +kernel
theorem test_illFormed_sample_both : (Instr.sample (List.replicate 19 8)).wellFormed = false := by decide +kernel
theorem test_illFormed_sampleCopy : (Instr.sampleCopy []).wellFormed = false := by decide +kernel
theorem test_illFormed_fieldOther_kind : (Instr.fieldOtherFrame 0x21 []).wellFormed = false := by decide +kernel
theorem test_illFormed_fieldOther_len :
    (Instr.fieldOtherFrame 0x31 (List.replicate 33 0)).wellFormed = false := by decide +kernel
theorem test_illFormed_arrival_keepalive : (Instr.requestArrival 0x49 []).wellFormed = false := by decide +kernel
theorem test_illFormed_arrival_len :
    (Instr.requestArrival 0x41 (List.replicate 33 0)).wellFormed = false := by decide +kernel
theorem test_illFormed_unknown_kind : (Instr.unknownRequest 0x44 []).wellFormed = false := by decide +kernel
theorem test_illFormed_unknown_len :
    (Instr.unknownRequest 0x21 (List.replicate 33 0)).wellFormed = false := by decide +kernel
theorem test_illFormed_keepaliveFormat_empty : (Instr.keepaliveFormat []).wellFormed = false := by decide +kernel
theorem test_illFormed_keepaliveFormat_len :
    (Instr.keepaliveFormat (List.replicate 33 0)).wellFormed = false := by decide +kernel
theorem test_illFormed_refused_good : (Instr.tableWriteRefused [5, 0, 0, 4]).wellFormed = false := by decide +kernel
theorem test_illFormed_refused_len :
    (Instr.tableWriteRefused (List.replicate 33 0)).wellFormed = false := by decide +kernel
theorem test_illFormed_configWrite_row : (Instr.configWrite 0 [0, 4]).wellFormed = false := by decide +kernel
theorem test_illFormed_writes_len :
    [Instr.programWrite 0 (List.replicate 31 0), .patternWrite 0 (List.replicate 31 0),
      .curveWrite 0 (List.replicate 31 0), .limitsWrite 0 (List.replicate 31 0), .actionsWrite 0 (List.replicate 31 0),
      .configWrite 1 (List.replicate 31 0)].all (fun c => !c.wellFormed) = true := by decide +kernel
theorem test_illFormed_requests_len :
    [Instr.tableRead (List.replicate 33 0), .cycleStart (List.replicate 33 0), .cyclePause (List.replicate 33 0),
      .cycleResume (List.replicate 33 0), .cycleAbort (List.replicate 33 0), .faultClear (List.replicate 33 0),
      .statusRead (List.replicate 33 0), .trimStep (List.replicate 33 0), .limitLock (List.replicate 33 0),
      .limitUnlock (List.replicate 33 0), .upstreamFlush (List.replicate 33 0)].all (fun c => !c.wellFormed) = true := by
  decide +kernel
theorem test_word_spells_no_command : decodeTableWord 16 0x2100 = none := by decide +kernel
theorem test_withFetchWord_unchanged : run.withFetchWord 16 0x2100 = run := by decide +kernel

/-! ### Worked examples of the spec -/

theorem test_check_byte_example : lineBytes 0x49 [] = [0xC5, 0x49, 0x00, 0x31] ∧ crcByte 0xFF 0x49 = 0x0B := by
  decide +kernel
theorem test_drive_example : drivePayload 118 .cw 450 true true 8 = [0x76, 0x01, 0x01, 0xC2, 0x03, 0x08] := by
  decide +kernel

/-- The CURVE of the examples of 03. -/
def exampleCurve (i : Nat) : Nat := [0, 40, 120, 260, 430, 600, 760, 900, 1000].getD i 0

theorem test_curve_examples :
    curveMap exampleCurve (trimmed 15 4080) = 999 ∧ curveMap exampleCurve (trimmed 0 210) = 6 ∧
    curveMap (fun i => if i = 6 then 560 else exampleCurve i) (trimmed 8 2860) = 577 := by decide +kernel
theorem test_filter_examples :
    filterW16 6400 255 16 = 6255 ∧ filterW16 3205 200 16 = 3205 ∧ filterW16 0 3 64 = 0 ∧ filterW16 0 3 16 = 3 ∧
    filterW16 1000 0 1 = 0 := by decide +kernel
theorem test_frame_example :
    frameMoisture exampleCurve 200 10 [3210, 0, 0, 1800, 4095, 0, 2600, 150] = 255 ∧
    (hitsOf 200 [3210, 0, 0, 1800, 4095, 0, 2600, 150]).length = 3 := by decide +kernel
theorem test_streak_example :
    stepStreak 1333 80 3000 0 true = 0 ∧ stepStreak 1250 80 3000 0 true = 2 ∧ stepStreak 1054 80 3000 6 false = 7 ∧
    stepStreak 6255 80 3000 9 true = 0 := by decide +kernel
theorem test_zone_example :
    zoneLevel 650 650 30 .l2 .l2 = .l0 ∧ zoneLevel 620 650 30 .l2 .l1 = .l1 ∧ zoneLevel 619 650 30 .l2 .l0 = .l1 ∧
    zoneLevel 589 650 30 .l2 .l0 = .l2 := by decide +kernel
theorem test_missed_example : missedNext (some 40) 57 12 = 28 ∧ missedNext (some 255) 0 12 = 12 := by decide +kernel
theorem test_window_example : windowOf 13 8 = ⟨8, 8⟩ ∧ untangleBase 22 = 20 := by decide +kernel
theorem test_walk_example :
    run.nextMain 13 = 15 ∧ run.nextMain 15 = 13 ∧ passFind run 20 4 22 = some (23, 2) := by decide +kernel
theorem test_recovery_example :
    ((List.replicate 8 (Instr.badFrame .field)).foldl (fun s c => after c s) State.reset).present .fieldLink = true := by
  decide +kernel
theorem test_lock_example :
    (after (.limitsWrite 0 [0x03, 0xE8, 0x03, 0x20, 1]) locked).limitAt 0 = ⟨900, 800, 1⟩ ∧
    (after (.limitsWrite 0 [0x03, 0xE8, 0x03, 0x20, 1]) (after (.serviceChange true) locked)).limitAt 0 =
      ⟨1000, 800, 1⟩ := by decide +kernel

/-! ### Small steps of the commands -/

theorem test_reset : (after (.reset true) run).links.rate = .high250000 ∧
(after (.reset true) run).cycle = resetCycle := by
  decide +kernel
theorem test_sample : (after (.sample (sample4 2 9 600 1000 450 0)) run).links.fieldTx =
    .sending (lineBytes 0x31 [0x02, 0x01, 0x01, 0xC2, 0x01, 0x08]) := by decide +kernel
theorem test_sample_duplicate : (after (.sample (sample4 1 9 600 1000 450 0)) run).links.fieldTx = .idle := by
  decide +kernel
theorem test_badFrame : (after (.badFrame .field) run).links.fieldBad = 1 := by decide +kernel
theorem test_interByteGap :
    (after (.interByteGapExpiry .field) (after (.byteArrival .field 0xC5 false true) run)).links.fieldBad = 1 := by
  decide +kernel
theorem test_fieldOther :
    (after (.fieldOtherFrame 0x31 []) (after (.badFrame .field) run)).links.fieldBad = 0 := by decide +kernel
theorem test_keepalive : (after .keepalive (run.setParam .keepaliveUpper 20)).links.keepalive.running = true := by
  decide +kernel
theorem test_lateBreach :
    (after .lateBreach ((run.setParam .keepaliveUpper 20).setKeepalive ⟨19, true, .none⟩)).links.keepalive =
      ⟨20, false, .late⟩ := by decide +kernel
theorem test_requestArrival :
    (after (.requestArrival 0x44 []) run).cycle.state = .suspended := by decide +kernel
theorem test_unknownRequest :
    ((after (.unknownRequest 0x21 [7]) run).upstream.queue.map UpFrame.payload).getLast? = some [0x21, 0x08] := by
  decide +kernel
theorem test_programWrite :
    (after (.programWrite 3 [1, 0x02, 0x8A, 2, 0, 80, 0x0B, 0xB8, 16, 0, 90, 13, 8, 22]) State.reset).programAt 3 =
      ⟨.heatToDry, 650, .l2, 80, 3000, 16, 90, 13, 8, some 22⟩ := by decide +kernel
theorem test_programWrite_unknown_kind :
    (after (.programWrite 3 (6 :: List.replicate 13 0)) State.reset).upstream.queue.map UpFrame.payload =
      [[1, 0, 1], [0x41, 0x06]] := by decide +kernel
theorem test_patternWrite :
    (after (.patternWrite 2 [1, 0x01, 0xC2, 20]) State.reset).patternAt 2 = ⟨.cw, 450, 20⟩ := by decide +kernel
theorem test_curveWrite : (after (.curveWrite 8 [0xFF, 0xFF]) State.reset).curveAt 8 = ⟨1000, true⟩ := by decide +kernel
theorem test_limitsWrite :
    (after (.limitsWrite 1 [0x00, 0x00, 0x7F, 0xFF, 9]) State.reset).limitAt 1 = ⟨800, 790, 1⟩ := by decide +kernel
theorem test_actionsWrite : (after (.actionsWrite 5 [0]) State.reset).action .heaterWeld = .coolRun := by decide +kernel
theorem test_configWrite : (after (.configWrite 6 [0, 30]) State.reset).param .dwellTime = 30 := by decide +kernel
theorem test_electrodeBurstWrite : (after (.electrodeBurstWrite 6) State.reset).param .electrodeBurst = 4 := by
  decide +kernel
theorem test_electrodeTrimWrite : (after (.electrodeTrimWrite 16) State.reset).param .electrodeTrim = 15 := by
  decide +kernel
theorem test_shortLimitWrite :
    (after (.shortLimitWrite 10) (run.setMoisture { run.moisture with allShort := 12 })).present .electrodeShort = true := by
  decide +kernel
theorem test_linkErrLimitWrite :
    (after (.linkErrLimitWrite 2) (run.setBadCount .field 5)).links.fieldBad = 2 := by decide +kernel
theorem test_keepaliveUpperWrite :
    (after (.keepaliveUpperWrite 5) (run.setParam .keepaliveLower 9)).param .keepaliveLower = 4 := by decide +kernel
theorem test_keepaliveLowerWrite :
    (after (.keepaliveLowerWrite 9) (run.setParam .keepaliveUpper 5)).param .keepaliveLower = 4 := by decide +kernel
theorem test_gapSamplesWrite :
    (after (.gapSamplesWrite 9) run).param .gapSamples = 9 ∧ (after (.gapSamplesWrite 9) run).path.gapSpan = 50 := by
  decide +kernel
theorem test_airflowSpeedWrite : (after (.airflowSpeedWrite 0) run).param .airflowSpeed = 100 := by decide +kernel
theorem test_coolSpeedWrite : (after (.coolSpeedWrite 999) run).param .coolSpeed = 600 := by decide +kernel
theorem test_copyDecimationWrite :
    (after (.copyDecimationWrite 7) (run.setUpstream { run.upstream with copyCounter := 3 })).upstream.copyCounter = 0 := by
  decide +kernel
theorem test_reportIntervalWrite :
    (after (.reportIntervalWrite 7) (run.setUpstream { run.upstream with reportTimer := 3 })).upstream.reportTimer = 0 := by
  decide +kernel
theorem test_upstreamLevelWrite : (after (.upstreamLevelWrite 1) run).upstream.levelFlag = true := by decide +kernel
theorem test_attnMaskWrite : (after (.attnMaskWrite 0x0A) run).param .attnMask = 2 := by decide +kernel
theorem test_protectCountWrite : (after (.protectCountWrite 99) run).param .protectCount = 16 := by decide +kernel
theorem test_protectSideWrite : (after (.protectSideWrite 5) run).param .protectSide = 1 := by decide +kernel
theorem test_tableRead :
    ((after (.tableRead [4, 6]) run).upstream.queue.map UpFrame.payload).getLast? = some [0x42, 0, 4, 4, 0] := by
  decide +kernel
theorem test_cycleStart :
    (after (.cycleStart [0, 1]) (run.setCycle resetCycle)).cycle.state = .active := by decide +kernel
theorem test_cyclePause : (after (.cyclePause []) run).drum.state = .decel := by decide +kernel
theorem test_cycleResume_refused :
    ((after (.cycleResume []) run).upstream.queue.map UpFrame.payload).getLast? = some [0x45, 0x02] := by decide +kernel
theorem test_cycleAbort :
    (after (.cycleAbort []) run).cycle.state = .cooldown ∧
    (after (.cycleAbort []) run).drum.winner = .override 450 := by
  decide +kernel
theorem test_faultClear :
    (after (.faultClear [0xFF]) (run.setRecord .fuseOpen ⟨.latched, true, 1⟩)).record .fuseOpen = ⟨.clear, true, 1⟩ := by
  decide +kernel
theorem test_statusRead : ((after (.statusRead []) run).upstream.queue.map fun f => f.payload.length).getLast? = some 30 := by
  decide +kernel
theorem test_trimStep :
    ((after (.trimStep [1]) run).upstream.queue.map UpFrame.payload).getLast? = some [0x4A, 0, 9] := by decide +kernel
theorem test_limitLock : (after (.limitLock []) run).tables.lock = true := by decide +kernel
theorem test_limitUnlock : (after (.limitUnlock []) locked).tables.lock = true := by decide +kernel
theorem test_upstreamFlush :
    (after (.upstreamFlush []) (run.setUpstream { run.upstream with queue := [⟨.report, []⟩] })).upstream.queue =
      [⟨.response, [0x4D, 0]⟩] := by decide +kernel
theorem test_gapExpiry :
    (after .gapExpiry run).drum.setpoint = 0 ∧ (after .gapExpiry run).faults.effective = .heatOff := by decide +kernel
theorem test_tenth : (after .tenth run).path.timeBase = 1 ∧ (after .tenth run).walker.turning = 1 := by decide +kernel
theorem test_secondExpiry : (after .secondExpiry runLate).cycle.elapsed = 1 := by decide +kernel
theorem test_dwellSpanEnd : (after .dwellSpanEnd (dwelling (.walkerRun .ccw 350))).drum.state = .ramp := by decide +kernel
theorem test_motorStall :
    (after .motorStall (run.setDrum { run.drum with state := .ramp, spinup := some 79 })).cycle.state = .halted := by
  decide +kernel
theorem test_drumOverrun :
    (after .drumOverrun (run.setDrum { run.drum with state := .decel, coast := some 99 })).present .drumOverrun = true := by
  decide +kernel
theorem test_segmentEnd :
    (after .segmentEnd (run.setWalker { run.walker with turning := 39 })).walker.index = some 15 := by decide +kernel
theorem test_earlyEnd :
    (after .earlyEnd (run.setWalker { run.walker with turning := 39, early := true })).walker.index = some 23 := by
  decide +kernel
theorem test_tangle :
    (after .tangle ((runLate.setDrum { run.drum with currentMin := some 100, currentMax := some 2000 }).setWalker
      { run.walker with score := 2 })).walker.count = 1 := by decide +kernel
theorem test_report : (after .report runLate).upstream.reportTimer = 0 := by decide +kernel
theorem test_sampleCopy :
    ((after (.sampleCopy (sample4 2 9 600 1000 450 0)) (run.setParam .copyDecimation 1)).upstream.queue.map
      UpFrame.kind).getLast? = some .sampleCopy := by decide +kernel
theorem test_timeout : (after .timeout (ending .heatToDry)).cycle.notDry = true := by decide +kernel
theorem test_duration : (after .duration (ending .heatTimed)).cycle.state = .idle := by decide +kernel
theorem test_cooled : (after .cooled (ending .cool)).cycle.state = .idle := by decide +kernel
theorem test_cooldownLimit :
    (after .cooldownLimitReached (runLate.setCycle { run.cycle with state := .cooldown, cooldown := some 599 })).cycle.state =
      .idle := by decide +kernel
theorem test_readyRise : (after .readyRise run).upstream.queue = [] := by decide +kernel
theorem test_controllerTxEnd : (after .controllerTxEnd (after .readyRise run)).links.controllerTx = none := by
  decide +kernel
theorem test_driveTxEnd :
    (after .driveTxEnd (run.setLinks { run.links with fieldTx := .sendingWaiting [1] [2] })).links.fieldTx =
      .sending [2] := by decide +kernel
theorem test_serviceChange : (after (.serviceChange true) run).links.service = true := by decide +kernel
theorem test_readyFall : (after .readyFall (after .readyRise run)).links.ready = false := by decide +kernel
theorem test_byteArrival : (after (.byteArrival .field 0xC5 false true) run).links.fieldRx.state = .kind := by decide +kernel
theorem test_byteArrival_parity : (after (.byteArrival .field 0xC5 true true) run).links.fieldRx.state = .hunt := by
  decide +kernel
theorem test_keepaliveFormat :
    ((after (.keepaliveFormat [1]) run).upstream.queue.map UpFrame.payload).getLast? = some [0x49, 0x07] := by
  decide +kernel
theorem test_tableWriteRefused :
    ((after (.tableWriteRefused [6, 0, 0]) run).upstream.queue.map UpFrame.payload).getLast? = some [0x41, 0x06] := by
  decide +kernel
/-- A RAMP at rest that a silence of this millisecond takes to DWELL, at the last millisecond of a tenth. -/
def rampAtRest : State :=
  ((run.setDrum { run.drum with state := .ramp, setpoint := 0, spinup := some 0 }).setPath
    { run.path with
      gapMillis := 49, millis := 99, readings := some ⟨⟨600, true⟩, ⟨700, true⟩, 1000, 3, 4, [0, 0, 0, 0]⟩ })

theorem test_tenth_with_dwell_begin_not_counted :
    (match step rampAtRest with | .next t => t.drum.dwell | .fault _ => none | .refused _ => none) = some 0 := by
  decide +kernel

/-- INLET_SENSOR, acting at COOL_RUN, comes and goes before the drum's step 2 of one SAMPLE. -/
def twiceMoved (coolSpeed : Nat) : State :=
  reactDrum (goAway .inletSensor (arise .inletSensor
    (((run.setAction .inletSensor .coolRun).setParam .coolSpeed coolSpeed).setAux
      { run.aux with drumDeferred := true })))

theorem test_drum_meets_each_winner_in_turn :
    (twiceMoved 450).drum.state = .turning ∧ (twiceMoved 300).drum.state = .ramp ∧
    (twiceMoved 300).drum.target = 450 := by decide +kernel
theorem test_idle_millisecond :
    (match step run with | .next t => t.path.gapMillis | .fault _ => 99 | .refused _ => 99) = 1 := by decide +kernel

/-! ### States that meet the hypotheses of the statements

One theorem per statement that has hypotheses; each clause at a boundary value of its range. -/

/-- A SAMPLE payload with any electrode readings: door closed or open, fuse intact. -/
def sampleE (seq flags : Byte) (tacho : Int) (es : List Nat) : List Byte :=
  [seq, flags] ++ bytesSigned16 600 ++ bytesSigned16 500 ++ bytes16 1000 ++ bytesSigned16 tacho ++ [byteOf es.length] ++
    es.flatMap bytes16

/-- A queue of n EVENT frames. -/
def queued (n : Nat) (s : State) : State :=
  (s.setUpstream { s.upstream with queue := List.replicate n ⟨.event, [9, 0, 1]⟩ }).refresh

/-- A full queue that can accept a response: one displaceable frame at the head of 15 kept ones, READY high and the
transmitter idle, so that the next event sends the head. -/
def crowded (s : State) : State :=
  (s.setUpstream { s.upstream with queue := ⟨.report, []⟩ :: List.replicate 15 ⟨.event, [9, 0, 1]⟩, events := [] }).setLinks
    { s.links with ready := true, controllerTx := none }

theorem serves_crowded (s : State) (h : s.serves) : (crowded s).serves := ⟨h.1, h.2.1, rfl, Nat.le_refl 16⟩

theorem quiet_crowded (s : State) (h : s.quiet) : (crowded s).quiet := ⟨serves_crowded s h.1, h.2⟩

/-- The newest frame of the queue is the RESPONSE to a request KIND with a result, behind kept frames that filled the queue. -/
def newestAnswer (kind : Byte) (r : Result) (t : State) : Bool :=
  decide (t.upstream.queue.getLast? = some (responseFrame kind (.plain r)) ∧ 14 ≤ t.upstream.queue.length)

/-- An exhaust reading put into a state. -/
def exhaustAt (x : Int) (s : State) : State :=
  s.setPath { s.path with readings := some ⟨⟨x, true⟩, ⟨700, true⟩, 1000, 450, 4, [0, 0, 0, 0]⟩ }

/-- The walker of `run` in a pass: at an entry, with positions left. -/
def inPass (index remaining turning : Nat) : State :=
  run.setWalker { run.walker with index := some index, pass := true, remaining, ret := some 15, turning }

theorem accepts_sample : run.accepts (sample4 2 9 600 1000 450 0) := by unfold State.accepts; decide +kernel

theorem accepts_door : run.accepts (sample4 2 8 600 1000 450 0) := by unfold State.accepts; decide +kernel

theorem witness_IdleStepIsOneMillisecond :
    (run.pending = [] ∧ run.links.fieldRx.state = .hunt ∧ run.links.controllerRx.state = .hunt) ∧
    (48 + 1 < run.path.gapSpan ∧ 98 + 1 < 100) ∧ (run.path.gapSpan ≤ 49 + 1 ∧ 100 ≤ 99 + 1) ∧
    (rampAtRest.pending = [] ∧ rampAtRest.path.gapSpan ≤ rampAtRest.path.gapMillis + 1 ∧
      100 ≤ rampAtRest.path.millis + 1 ∧ rampAtRest.silent = false ∧ rampAtRest.drum.state = .ramp ∧
      rampAtRest.atRest = true) ∧
    rampAtRest.paramLaw ∧ rampAtRest.drumLaw ∧ rampAtRest.demandLaw :=
  ⟨by decide +kernel, by decide +kernel, by decide +kernel, by decide +kernel, paramLaw_run,
    ⟨(by decide +kernel : rampAtRest.drum.dir ≠ .stop ∧ rampAtRest.drum.spinup ≠ none ∧ rampAtRest.drum.coast = none ∧
        rampAtRest.drum.dwell = none),
      (by decide +kernel : Direction.cw ≠ .stop), by decide +kernel, by decide +kernel⟩,
    ⟨by decide +kernel,
      (by decide +kernel : rampAtRest.drum.winner.run? = some (rampAtRest.drum.dir, rampAtRest.drum.target))⟩⟩

theorem witness_LevelFlagFollowsOccupancy :
    (∃ t, exec .tenth run = .next t) ∧ (queued 12 run).settled ∧ (queued 13 run).settled ∧
    (queued 13 run).param .upstreamLevel = 12 ∧ (queued 16 run).upstream.queue.length = 16 :=
  ⟨⟨_, rfl⟩, (by decide +kernel : (queued 12 run).refresh = queued 12 run),
    (by decide +kernel : (queued 13 run).refresh = queued 13 run), by decide +kernel, by decide +kernel⟩

theorem witness_ResetCommandGivesResetState : run.links.ready = false ∧ (after .readyRise run).links.ready = true := by
  decide +kernel

theorem witness_BadFramesAndByteGapsRaiseTheCounter :
    Port.field ≠ .controller ∧ (run.setBadCount .field 6).badCount .field + 1 < run.param .linkErrLimit := by
  decide +kernel

theorem witness_IgnoredFieldFramesAreGoodFrames :
    samplePayloadOk (sample4 1 9 600 1000 450 0) = true ∧ run.path.lastSeq = some 1 ∧
    samplePayloadOk (List.replicate 18 4) = false ∧ (0x31 : Byte) ≠ 0x21 ∧ (List.replicate 32 (0 : Byte)).length ≤ 32 ∧
    run.present .fieldLink = false := by decide +kernel

theorem witness_ByteArrivalFollowsTheReceiverTable :
    byteError 0xC5 false true = false ∧ byteError 0xC5 true true = true ∧ byteError 0xC5 false false = true := by
  decide +kernel

theorem test_keepalive_line : lineBytes 0x49 [] = [0xC5, 0x49, 0x00, 0x31] := by decide +kernel

theorem witness_ReceivedBytesAreTheFrameCommand :
    (List.replicate 32 (0xC5 : Byte)).length ≤ 32 ∧ run.receiver .controller = .idle ∧ run.settled :=
  ⟨by decide +kernel, by decide +kernel, (by decide +kernel : run.refresh = run)⟩

/-- A keepalive window of 5 to 20 tenths with the timer at 19. -/
def window19 : State := ((run.setParam .keepaliveUpper 20).setParam .keepaliveLower 5).setKeepalive ⟨19, true, .none⟩

theorem witness_KeepaliveFramesAndBreachesMoveTheWindow :
    (window19.links.keepalive.running = true ∧ window19.param .keepaliveUpper ≤ window19.links.keepalive.timer + 1) ∧
    ((window19.setKeepalive ⟨18, true, .none⟩).links.keepalive.timer + 1 < window19.param .keepaliveUpper) ∧
    run.links.keepalive.running = false := by decide +kernel

theorem witness_QueueAndEventListKeepTheirOrder :
    ((queued 15 run).upstream.queue.length < 16) ∧
    (let q : List UpFrame := List.replicate 7 ⟨.event, []⟩ ++ ⟨.report, []⟩ :: List.replicate 8 ⟨.sampleCopy, []⟩
     16 ≤ q.length ∧ (∀ x ∈ List.replicate 7 (⟨.event, []⟩ : UpFrame), x.displaceable = false) ∧
       (⟨.report, []⟩ : UpFrame).displaceable = true) ∧
    (16 ≤ (queued 16 run).upstream.queue.length ∧ ∀ x ∈ (queued 16 run).upstream.queue, x.displaceable = false) ∧
    (∀ e ∈ [(⟨.tangle, 0, 1⟩ : EventEntry)], ¬(e.kind = .phaseEnd ∧ e.arg = 0)) ∧
    (let l : List EventEntry := (List.range 15).map fun i => ⟨.faultRaised, i, 1⟩
     15 ≤ (l.filter fun e => decide (e.kind ≠ .overflow)).length ∧ (∀ e ∈ l, ¬(e.kind = .overflow ∧ e.arg = 0)) ∧
       ((l.tail).filter fun e => decide (e.kind ≠ .overflow)).length < 15) ∧
    run.links.ready = false := by decide +kernel

theorem witness_RequestArrivalQueuesOrIsDiscarded :
    ¬((0x49 : Byte) = 0x49 ∧ [(1 : Byte)] = []) ∧ (arise .controllerLink (arise .keepalive run)).serves ∧
    (run.serves ∧ (after (.requestArrival 0x41 [0x05, 0x15, 0x00, 0x02]) (run.setBadCount .controller 8)).badCount
      .controller = 2 ∧ (after (.requestArrival 0x48 []) (run.setBadCount .controller 8)).badCount .controller = 7) ∧
    ((crowded run).serves ∧ newestAnswer 0x4D .ok (after (.requestArrival 0x4D []) (crowded run)) = true) ∧
    4 ≤ (run.setLinks { run.links with receiveQueue := List.replicate 4 ⟨0x48, []⟩ }).links.receiveQueue.length ∧
    ((queued 16 run).setLinks { run.links with receiveQueue := List.replicate 3 ⟨0x48, []⟩ }).links.receiveQueue.length <
      4 ∧
    (queued 16 run).present .controllerLink = false ∧ (queued 16 run).present .keepalive = false ∧
    (queued 16 run).upstream.canAccept = false ∧ (queued 16 run).links.ready = false ∧
    ((queued 16 run).setLinks { run.links with controllerTx := some [] }).links.controllerTx ≠ none :=
  ⟨by decide +kernel, by unfold State.serves; decide +kernel, by unfold State.serves; decide +kernel,
    ⟨serves_crowded _ quiet_run.1, by decide +kernel⟩, by decide +kernel⟩

theorem witness_TransmitterStartsTheHeadFrame :
    (run.upstream.events = [] ∧ run.links.receiveQueue = [] ∧
      run.upstream.queue = ⟨.event, [0x01, 0x00, 0x01]⟩ :: [] ∧ run.links.controllerTx = none ∧
      (run.setLinks { run.links with ready := true }).links.ready = true) ∧
    (keptCount (queued 15 run).upstream.queue.tail = 14 ∧ (queued 15 run).upstream.queue.tail.length < 16 ∧
      15 ≤ keptCount (queued 16 run).upstream.queue.tail) ∧
    (¬(0x41 ≤ (0x21 : Byte).toNat ∧ (0x21 : Byte).toNat ≤ 0x4D) ∧ run.tables.inProgress = none ∧
      (queued 16 run).upstream.queue.tail.length < 16) ∧
    (let s := ((queued 16 run).setUpstream { (queued 16 run).upstream with events := [⟨.tangle, 0, 1⟩] }).setLinks
       { run.links with receiveQueue := [⟨0x21, []⟩, ⟨0x48, []⟩] }
     s.upstream.events ≠ [] ∧ s.links.receiveQueue ≠ [] ∧ s.tables.inProgress = none ∧
       keptCount s.upstream.queue.tail = 15 ∧ s.upstream.queue.tail.length = 15 ∧
       (after .readyRise s).links.receiveQueue = [⟨0x48, []⟩] ∧ (after .readyRise s).upstream.events ≠ []) ∧
    ((after .readyRise run).links.controllerTx ≠ none ∧ (after .readyRise run).upstream.queue = [] ∧
      (after .readyRise run).upstream.events = [] ∧ run.links.ready = false) ∧
    (run.links.fieldTx = .idle ∧
      (run.setLinks { run.links with fieldTx := .sending [1] }).links.fieldTx = .sending [1] ∧
      (run.setLinks { run.links with fieldTx := .sendingWaiting [1] [2] }).links.fieldTx = .sendingWaiting [1] [2]) := by
  decide +kernel

/-- The walker of `run` between a tangle and its early end. -/
def earlyPending : State := run.setWalker { run.walker with early := true }

theorem witness_WalkStepsToTheNextNonEmptyEntry :
    (run.walker.main = some ⟨8, 8⟩ ∧ 8 ≤ 15 ∧ 15 < 8 + 8 ∧ (run.patternAt (8 + 5)).dir ≠ .empty) ∧
    (0 < phase.wrap ∧ 8 = phase.start - phase.start % phase.wrap) ∧ (20 ≤ 23 ∧ 23 < 20 + 4) ∧
    (passFind run 20 4 20 = some (23, 0) ∧ passFind run 20 3 20 = none) ∧
    ((inPass 21 2 9).walker.pass = true ∧ earlyPending.walker.pass = false ∧ earlyPending.walker.early = true ∧
      run.walker.early = false) ∧
    ((run.setPath { run.path with door := .isOpen }).holds = true ∧
      (run.setPath { run.path with door := .isOpen }).walkerTurn = false ∧ run.holds = run.walkerTurn ∧
      (run.setDrum resetDrum).holds = false ∧ (run.setDrum resetDrum).walkerTurn = true) ∧
    run.quiet ∧ run.cycle.state = .active ∧ run.holds = true ∧ run.overrides = false :=
  ⟨by decide +kernel, by decide +kernel, by decide +kernel, by decide +kernel, by decide +kernel, by decide +kernel,
    quiet_run, by decide +kernel⟩

theorem witness_GapExpiryBringsSilenceAndTheGapDrive :
    run.silent = false ∧ (after .gapExpiry run).silent = true ∧
    (after .gapExpiry (run.setDrum { run.drum with state := .decel, coast := some 0, target := 0 })).drum.state =
      .decel := by decide +kernel

theorem witness_TimerRowOutOfTimeIsNoEvent :
    (run.secondNext = false ∧ run.drum.state ≠ .dwell ∧ run.drum.state ≠ .ramp ∧ run.drum.state ≠ .decel ∧
      State.reset.drum.state ≠ .turning ∧ State.reset.holds = false ∧ run.param .copyDecimation = 0) ∧
    ((dwelling .stop).drum.dwell = some 39 ∧ 18 + 1 < (dwelling .stop).dwellSpan ∧
      78 + 1 < 10 * run.param .spinupLimit ∧ 98 + 1 < 10 * run.param .coastLimit) ∧
    (satSucc 2550 38 < run.segmentLength ∧ satSucc 2550 38 < run.param .minTurn ∧ run.walker.early = false ∧
      satSucc 10 1 < run.param .tangleScore ∧ 999 - 100 < run.param .tangleRipple) ∧
    (58 + 1 < 60 * phase.duration ∧ (ending .cool).settleNext = 10 ∧
      ((ending .cool).setCycle { (ending .cool).cycle with settle := 8 }).settleNext < 10 ∧
      598 + 1 < 60 * run.param .cooldownLimit ∧ 0 + 1 < (run.setParam .reportInterval 2).param .reportInterval ∧
      8 + 1 < (run.setParam .copyDecimation 10).param .copyDecimation ∧
      run.path.lastSeq = some (byteAt (sample4 1 9 600 1000 450 0) 0)) := by decide +kernel

theorem witness_TenthAdvancesTheTimeBase :
    run.plainTenth ∧
    ((dwelling .stop).setDrum { (dwelling .stop).drum with dwell := some 18 }).plainTenth ∧
    (run.setDrum { run.drum with state := .ramp, spinup := some 78 }).plainTenth ∧
    (run.setDrum { run.drum with state := .decel, coast := some 98 }).plainTenth ∧
    ((run.setWalker { run.walker with turning := 38 }).plainTenth) ∧
    (run.links.keepalive.running = false ∧ window19.links.keepalive.running = true ∧
      (after (.cyclePause []) run).cycle.state = .suspended ∧
      (after .tenth (after (.cyclePause []) run)).cycle.state = .suspended) :=
  ⟨plainTenth_run, by unfold State.plainTenth State.quietTenth; decide +kernel,
    by unfold State.plainTenth State.quietTenth; decide +kernel,
    by unfold State.plainTenth State.quietTenth; decide +kernel,
    by unfold State.plainTenth State.quietTenth; decide +kernel, by decide +kernel⟩

/-- A COOLDOWN whose timer stands at a count, the exhaust at a value, before a second expiry. -/
def cooling (x : Int) (n : Nat) : State :=
  exhaustAt x (runLate.setCycle { run.cycle with state := .cooldown, cooldown := some n })

/-- The tenth before a second expiry with the drum at rest and a record in the ring. -/
def restedRing : State := (runLate.setDrum resetDrum).setMoisture { run.moisture with ring := [⟨600, .l0⟩] }

theorem witness_SecondExpiryOpensANewSecond :
    runLate.plainTenth ∧ run.paramLaw ∧
    ((runLate.path.timeBase + 1).toNat % 10 = 0 ∧ State.reset.cycle.state ≠ .active ∧ runLate.cycle.state = .active) ∧
    (run.cycle.state = .active ∧ run.drum.state = .turning ∧ run.exhaust? = some 600) ∧
    ((run.setDrum resetDrum).cycle.state = .active ∧ (run.setDrum resetDrum).drum.state ≠ .turning) ∧
    ((cooling 550 598).lateDue = false ∧ (cooling 550 598).cycle.state = .cooldown ∧
      (cooling 550 598).drum.state = .turning ∧ ((cooling 550 598).limitAt 3).high = 550 ∧
      (after .secondExpiry (cooling 550 598)).cycle.cooldown = some 599 ∧
      (after .secondExpiry (cooling 549 598)).cycle.state = .idle ∧
      (after .secondExpiry (cooling 550 599)).cycle.state = .idle) ∧
    ((after .secondExpiry ((ending .cool).setCycle { (ending .cool).cycle with settle := 8, elapsed := 58 })).cycle.settle =
      9) ∧
    (restedRing.plainTenth ∧ restedRing.cycle.state = .active) ∧
    ((after .secondExpiry runLate).moisture.ring = [⟨600, .l0⟩] ∧ (after .secondExpiry restedRing).moisture.ring = []) :=
  ⟨by unfold State.plainTenth State.quietTenth; decide +kernel, paramLaw_run, by decide +kernel, by decide +kernel,
    by decide +kernel, by decide +kernel, by decide +kernel,
    by unfold State.plainTenth State.quietTenth; decide +kernel, by decide +kernel⟩

theorem witness_DwellSpanEndActsOnTheWinner :
    (∀ w ∈ [Demand.override 450, .walkerRun .ccw 350, .stop],
      (dwelling w).drum.state = .dwell ∧ (dwelling w).drum.dwell = some 39 ∧ (dwelling w).dwellSpan ≤ 39 + 1) ∧
    (dwelling (.walkerPause 4)).dwellSpan ≤ 39 + 1 ∧
    (advanceWalker (dwelling (.walkerPause 4))).segmentDemand = .walkerRun .ccw 350 ∧
    (advanceWalker ((dwelling (.walkerPause 4)).setTables
      { run.tables with pattern := run.tables.pattern.set 15 ⟨.pause, 200, 1⟩ })).segmentDemand = .walkerPause 1 := by
  decide +kernel

theorem quietTenth_dwelling (w : Demand) : (dwelling w).quietTenth := by cases w <;> exact quietTenth_run

theorem witness_StallAndOverrunAriseAtTheirLimits :
    10 * run.param .spinupLimit ≤ 79 + 1 ∧ 10 * run.param .coastLimit ≤ 99 + 1 ∧ run.drum.stallMark = false ∧
    run.drum.overrunMark = false ∧ run.silent = false ∧ run.present .motorStall = false ∧
    (after .motorStall (run.setDrum { run.drum with state := .ramp, spinup := some 79 })).present .motorStall = true := by
  decide +kernel

theorem witness_SegmentEndNamesTheNextEntry :
    run.paramLaw ∧ run.drumLaw ∧ run.walkerLaw ∧ run.quietTenth ∧ (inPass 21 2 9).walkerLaw ∧
    (run.drum.state = .turning ∧ run.holds = true ∧ run.walkerTurn = true ∧
      run.walker.index = some 13 ∧ run.walker.early = false ∧ run.walker.pass = false ∧ run.secondNext = false ∧
      (run.setWalker { run.walker with turning := 39 }).segmentLength ≤ satSucc 2550 39) ∧
    (runLate.secondNext = true ∧ (beginTenth runLate).tangleDue = false) ∧
    ((inPass 21 2 9).walker.untangle = some 20 ∧ passFind (inPass 21 2 9) 20 2 (nextIn 20 4 21) = some (23, 0) ∧
      passFind (inPass 23 0 9) 20 0 (nextIn 20 4 23) = none ∧ (inPass 21 2 39).segmentLength ≤ satSucc 2550 39) :=
  ⟨paramLaw_run, drumLaw_run, walkerLaw_run, quietTenth_run, by unfold State.walkerLaw; decide +kernel, by decide +kernel⟩

/-- A tangled segment at the tenth at which it has had MIN_TURN. -/
def tangled : State := run.setWalker { run.walker with turning := 39, early := true }

theorem witness_EarlyEndRunsAnUntanglePass :
    tangled.paramLaw ∧ tangled.drumLaw ∧ tangled.walkerLaw ∧ tangled.quietTenth ∧
    (tangled.drum.state = .turning ∧ tangled.holds = true ∧ tangled.walkerTurn = true ∧
      tangled.walker.index = some 13 ∧ tangled.walker.early = true ∧
      tangled.param .minTurn ≤ satSucc 2550 tangled.walker.turning) ∧
    (tangled.cycle.record.untangle = some 22 ∧ passFind tangled (untangleBase 22) 4 22 = some (23, 2)) ∧
    ((tangled.setCycle { run.cycle with record := { phase with untangle := none } }).cycle.record.untangle = none) ∧
    passFind (tangled.setTables { run.tables with pattern := run.tables.pattern.set 23 emptyEntry }) 20 4 22 = none :=
  ⟨paramLaw_run, drumLaw_run, by unfold State.walkerLaw; decide +kernel, by unfold State.quietTenth; decide +kernel,
    by decide +kernel⟩

/-- The tenth before a second expiry that detects a tangle in a segment that has turned for a time. -/
def ripplingAt (turning : Nat) : State :=
  (runLate.setDrum { run.drum with currentMin := some 100, currentMax := some 1000 }).setWalker
    { run.walker with score := 2, turning }

/-- The same in a segment that has not turned yet. -/
def rippling : State := ripplingAt 0

theorem test_tangle_ends_a_segment_that_has_had_its_time :
    (after .tangle (ripplingAt 39)).walker.pass = true ∧ (after .tangle (ripplingAt 39)).walker.index = some 23 ∧
    (after .tangle (ripplingAt 39)).drum.state = .decel ∧ (after .tangle (ripplingAt 38)).walker.early = true ∧
    (after .tangle (ripplingAt 38)).drum.state = .turning := by decide +kernel

theorem witness_TangleIsCountedAndEndsTheSegment :
    rippling.quietTenth ∧ (rippling.walker.persist = false ∧ rippling.upstream.events = [] ∧
    rippling.links.ready = false ∧ rippling.upstream.queue.length ≤ 8 ∧ rippling.secondNext = true ∧
    rippling.cycle.state = .active ∧ rippling.holds = true ∧
    rippling.walker.pass = false ∧ rippling.walker.early = false ∧ rippling.drum.state = .turning ∧
    rippling.drum.turningEntry = some 0 ∧ lasted (rippling.path.timeBase + 1) 0 20 = true ∧
    rippling.drum.currentMin = some 100 ∧ rippling.drum.currentMax = some 1000 ∧
    rippling.param .tangleRipple ≤ 1000 - 100 ∧ rippling.param .tangleScore ≤ satSucc 10 rippling.walker.score ∧
    satSucc 2550 rippling.walker.turning < rippling.param .minTurn) ∧
    (ripplingAt 39).paramLaw ∧ (ripplingAt 39).drumLaw ∧ (ripplingAt 39).walkerLaw ∧ (ripplingAt 39).quietTenth ∧
    (ripplingAt 39).walkerTurn = true ∧ (ripplingAt 39).walker.index = some 13 ∧
    (ripplingAt 39).param .minTurn ≤ satSucc 2550 (ripplingAt 39).walker.turning :=
  ⟨by unfold State.quietTenth; decide +kernel, by decide +kernel, paramLaw_run, drumLaw_run, by unfold State.walkerLaw; decide +kernel,
    by unfold State.quietTenth; decide +kernel, by decide +kernel⟩

theorem witness_ReportCarriesTheStateAsItStands :
    runLate.secondNext = true ∧ runLate.param .reportInterval ≠ 0 ∧
    runLate.param .reportInterval ≤ runLate.upstream.reportTimer + 1 ∧
    (let s := queued 8 (runLate.setKeepalive ⟨5, true, .none⟩)
     s.path.readings.isSome = true ∧ s.secondNext = true ∧ s.drum.state = .turning ∧ s.links.ready = false ∧
       s.upstream.events = [] ∧ s.upstream.queue.length ≤ 8) ∧
    (let s := ((queued 15 runLate).setCycle resetCycle).setDrum resetDrum
     s.path.readings.isSome = true ∧ s.secondNext = true ∧ s.cycle.state = .idle ∧ s.drum.state = .stopped ∧
       s.links.keepalive.running = false ∧ s.links.ready = false ∧ s.upstream.events = [] ∧
       s.upstream.queue.length < 16) := by decide +kernel

theorem witness_PhaseEndsAtItsSecondExpiry :
    (∀ k ∈ [PhaseKind.heatToDry, .heatTimed, .tumble, .anticrease],
      (ending k).secondNext = true ∧ (ending k).cycle.state = .active ∧ (ending k).cycle.record.kind = k ∧
      (ending k).faults.effective ≠ .coolRun ∧ (ending k).silent = false ∧
      60 * (ending k).cycle.record.duration ≤ (ending k).cycle.elapsed + 1) ∧
    ((ending .cool).setCycle { (ending .cool).cycle with settle := 8 }).settleNext < 10 ∧
    ((ending .cool).exhaust? = some 600 ∧ 600 ≤ (ending .cool).cycle.record.tSet ∧ 9 ≤ (ending .cool).cycle.settle) := by
  decide +kernel

theorem witness_CooldownEndsAtItsLimit :
    run.paramLaw ∧ runLate.secondNext = true ∧ 60 * runLate.param .cooldownLimit ≤ 599 + 1 ∧
    (runLate.setCycle { run.cycle with state := .cooldown, cooldown := some 599 }).cycle.cooldown = some 599 ∧
    runLate.links.keepalive.running = false ∧ runLate.drum.state = .turning :=
  ⟨paramLaw_run, by decide +kernel⟩

theorem witness_DecodedReadingsFollowTheLayout :
    3 < (byteAt (sample4 2 9 600 1000 450 0) 10).toNat ∧
    (decodeReadings (sampleE 2 9 450 (List.replicate 8 4095))).electrodes.length = 8 := by decide +kernel

theorem witness_AcceptedSampleIsDecodedAndAnswered :
    run.accepts (sample4 2 9 600 1000 450 0) ∧ State.reset.accepts (sampleE 0 9 0 (List.replicate 8 0)) :=
  ⟨accepts_sample, by unfold State.accepts; decide +kernel⟩

/-- A HEAT_TO_DRY phase whose streak is one short of its confirm count. -/
def nearlyDry : State :=
  (run.setCycle { run.cycle with record := { phase with kind := .heatToDry } }).setMoisture
    { run.moisture with w16 := 1000, streak := 49 }

theorem witness_EstimatorWorksOrHoldsOnASample :
    (inPass 21 2 9).demandLaw ∧ (inPass 21 2 9).actionLaw ∧ run.accepts (sampleE 2 9 450 (List.replicate 4 4095)) ∧
    nearlyDry.accepts (sampleE 2 9 450 [4095, 200, 199, 0]) ∧
    (run.silent = false ∧ run.cycle.state = .active ∧ run.drum.state = .turning ∧ run.walker.pass = false) ∧
    (nearlyDry.silent = false ∧ nearlyDry.cycle.state = .active ∧ nearlyDry.drum.state = .turning ∧
      nearlyDry.walker.pass = false) ∧
    (∀ e ∈ (decodeReadings (sampleE 2 9 450 (List.replicate 4 4095))).electrodes, e = 4095) ∧
    (decodeReadings (sampleE 2 9 450 [4095, 200, 199, 0])).electrodes = [4095, 200, 199, 0] ∧
    run.param .contactFloor = 200 ∧ run.cycle.record.kind ≠ .heatToDry ∧ nearlyDry.cycle.record.kind = .heatToDry ∧
    (after (.sample (sampleE 2 9 450 [4095, 200, 199, 0])) nearlyDry).cycle.drySeen = true ∧
    (after (.sample (sampleE 2 9 450 [4095, 200, 199, 0]))
      (nearlyDry.setMoisture { nearlyDry.moisture with streak := 48 })).moisture.streak = 49 ∧
    State.reset.cycle.state ≠ .active ∧ (inPass 21 2 9).walker.pass = true ∧ run.present .fieldLink = false ∧
    1 < (run.setBadCount .field 2).badCount .field :=
  ⟨demandLaw_run, actionLaw_run, by unfold State.accepts; decide +kernel, by unfold State.accepts; decide +kernel,
    by decide +kernel⟩

theorem witness_CurveMapInterpolatesWithinItsSegment :
    (∀ i, (fun i : Nat => if i = 8 then 0 else 1000) i ≤ 1000) ∧ (4094 : Nat) ≤ 4094 ∧ 4094 / 512 = 7 ∧
    4094 - 512 * 7 = 510 ∧
    (fun i : Nat => if i = 8 then 0 else 1000) 7 ≠ (fun i : Nat => if i = 8 then 0 else 1000) (7 + 1) ∧
    511 / 512 ≠ 7 :=
  ⟨fun i => by simp only []; split <;> decide, by decide +kernel⟩

theorem witness_FilterMovesTowardTheFrameMoisture :
    ((16000 : Nat) ≤ 16000 ∧ (0 : Nat) ≤ 1000 ∧ (1 : Nat) ≤ 1 ∧ (1 : Nat) ≤ 64) ∧
    ((0 : Nat) ≤ 16000 ∧ (1000 : Nat) ≤ 1000 ∧ (1 : Nat) ≤ 64 ∧ (64 : Nat) ≤ 64) := by decide +kernel

theorem witness_ConditionsFollowTheSample :
    run.accepts (sample4 2 9 600 1000 450 0) ∧
    (⟨⟨600, true⟩, ⟨500, true⟩, 1000, 450, 4, [0, 0, 0, 0]⟩ : Readings) =
      decodeReadings (sample4 2 9 600 1000 450 0) := ⟨accepts_sample, by decide +kernel⟩

theorem witness_WalkLawIsKept : run.walkLaw ∧ run.drumLaw ∧ run.walkerLaw ∧ run.demandLaw ∧ run.actionLaw ∧
    ∃ t, step run = .next t :=
  ⟨walkLaw_run, drumLaw_run, walkerLaw_run, demandLaw_run, actionLaw_run, _, rfl⟩

theorem witness_RegulationFollowsTheZones :
    ((∀ x ∈ [(650 : Int), 649, 620, 619, 590, 589],
      (exhaustAt x run).cycle.state = .active ∧ (exhaustAt x run).cycle.record.kind.heats = true ∧
      (exhaustAt x run).exhaust? = some x) ∧
    run.cycle.record.tSet = 650 ∧ run.param .regBand = 30 ∧ State.reset.cycle.state ≠ .active ∧
    (ending .cool).cycle.record.kind.heats = false ∧ State.reset.exhaust? = none) ∧
    run.accepts (sample4 2 9 600 1000 450 0) ∧ (byteAt (sample4 2 9 600 1000 450 0) 1).getLsbD 0 = true ∧
    run.recordLaw ∧ ¬(run.accepting (sample4 2 9 600 1000 450 0)).signalsDry ∧
    (after (.sample (sample4 2 9 600 1000 450 0)) run).faults.records = run.faults.records ∧
    (after (.sample (sample4 2 9 600 1000 450 0)) run).heater.wanted = .l1 :=
  ⟨by decide +kernel, accepts_sample, by decide +kernel, recordLaw_run, by unfold State.signalsDry; decide +kernel, by decide +kernel⟩

/-- A RAMP whose drum is slow, wanting heat, at a SAMPLE on which the blocks named come first. -/
def slowRamp (order : List SampleBlock) : State :=
  ((run.setDrum { run.drum with state := .ramp, spinup := some 5 }).setPath
    { run.path with readings := some ⟨⟨600, true⟩, ⟨700, true⟩, 1000, 299, 4, [0, 0, 0, 0]⟩ }).setAux
    { run.aux with choices := [⟨order, [], false, false⟩] }

theorem test_airflow_reached_waits_for_the_drum :
    (after (.sample (sample4 2 9 600 1000 300 0)) (slowRamp [.heater, .drum])).heater.commanded = .l0 ∧
    (after (.sample (sample4 2 9 600 1000 300 0)) (slowRamp [.drum, .heater])).heater.commanded = .l1 := by
  decide +kernel

theorem witness_CommandedLevelMovesAndStampsItsStages :
    run.paramLaw ∧ (exec (.sample (sample4 2 9 600 1000 450 0)) run =
      .next (after (.sample (sample4 2 9 600 1000 450 0)) run)) ∧
    run.heater.commanded.code < (after (.sample (sample4 2 9 600 1000 450 0)) run).heater.commanded.code ∧
    run.heater.commanded = .l0 ∧
    (let s := run.setHeater { run.heater with commanded := .l1 }
     (after (.sample (sample4 2 9 500 1000 450 0)) s).heater.commanded = .l2) ∧
    (let s := (run.setHeater { run.heater with commanded := .l2, h1Switch := some 80, h2Switch := some 81 }).setPath
       { run.path with timeBase := 100 }
     s.targetLevel = .l0 ∧ s.heater.commanded.code ≤ s.permitted.code ∧ (stageStep s).heater.commanded = .l2 ∧
       (stageStep (s.setPath { s.path with timeBase := 101 })).heater.commanded = .l0) ∧
    (let s := run.setHeater { run.heater with commanded := .l1, wanted := .l2, lastUp := some 0, h2Switch := some 0 }
     s.heater.commanded.code < s.targetLevel.code ∧ (stageStep s).heater.commanded = .l1 ∧
       (stageStep (s.setPath { s.path with timeBase := 30 })).heater.commanded = .l2) ∧
    ((slowRamp [.heater, .drum]).drum.state = .ramp ∧
      (slowRamp [.heater, .drum]).tacho.natAbs < (slowRamp [.heater, .drum]).param .airflowSpeed ∧
      fillOrder SampleBlock.all (slowRamp [.heater, .drum]).choice.sample =
        [] ++ .heater :: [.drum, .limits, .moisture, .contacts, .cycle]) ∧
    (run.accepts (sample4 2 9 600 1000 450 0) ∧ (byteAt (sample4 2 9 600 1000 450 0) 1).getLsbD 0 = true ∧
      run.drum.state = .turning ∧ run.demandLaw ∧ run.actionLaw ∧ run.recordLaw ∧
      ¬(run.accepting (sample4 2 9 600 1000 450 0)).signalsDry ∧
      (after (.sample (sample4 2 9 600 1000 450 0)) run).faults.records = run.faults.records) ∧
    (∀ high, Instr.gapExpiry ≠ .reset high) :=
  ⟨paramLaw_run, rfl, by decide +kernel, by decide +kernel, by decide +kernel, by decide +kernel, by decide +kernel,
    by decide +kernel,
    ⟨accepts_sample, by decide +kernel, by decide +kernel, demandLaw_run, actionLaw_run, recordLaw_run,
      by unfold State.signalsDry; decide +kernel, by decide +kernel⟩, fun _ => by simp⟩

/-- A RAMP at a setpoint, under the walker's run. -/
def ramping (setpoint : Nat) : State := run.setDrum { run.drum with state := .ramp, spinup := some 5, setpoint }

theorem witness_DrumStepsTowardItsTarget :
    (ramping 445).accepts (sample4 2 9 600 1000 430 0) ∧ (ramping 445).demandLaw ∧ (ramping 445).actionLaw ∧
    (ramping 445).recordLaw ∧ (byteAt (sample4 2 9 600 1000 430 0) 1).getLsbD 0 = true ∧
    (after (.sample (sample4 2 9 600 1000 430 0)) (ramping 445)).faults.records = (ramping 445).faults.records ∧
    (after (.sample (sample4 2 9 600 1000 430 0)) (ramping 445)).drum.state = .turning ∧
    (after (.sample (sample4 2 9 600 1000 429 0)) (ramping 445)).drum.state = .ramp ∧
    (after (.sample (sample4 2 9 600 1000 450 0)) (ramping 444)).drum.state = .ramp ∧
    (run.accepts (sample4 2 8 600 1000 450 0) ∧ run.drumLaw ∧ run.demandLaw ∧ run.recordLaw ∧
      run.present .fieldLink = false ∧ (byteAt (sample4 2 8 600 1000 450 0) 1).getLsbD 0 = false ∧
      (after (.sample (sample4 2 8 600 1000 450 0)) run).drum.setpoint = 445) ∧
    (run.accepts (sample4 2 1 600 1000 450 0) ∧ run.present .fuseOpen = false ∧
      (byteAt (sample4 2 1 600 1000 450 0) 1).getLsbD 3 = false ∧
      fillOrder SampleBlock.all run.choice.sample = [] ++ .limits :: [.moisture, .contacts, .heater, .drum, .cycle] ∧
      (after (.sample (sample4 2 1 600 1000 450 0)) run).drum.state = .decel) ∧
    (rampAtRest.drum.state = .ramp ∧ (after (.sample (sample4 2 8 600 1000 20 0)) rampAtRest).drum.state = .dwell ∧
      (after (.sample (sample4 2 8 600 1000 21 0)) rampAtRest).drum.state = .decel) ∧
    (∀ d v, (Demand.walkerRun .ccw 450).run? = some (d, v) → d ≠ run.drum.dir) ∧
    (let s := run.setDrum { run.drum with state := .decel, target := 0, coast := some 5, setpoint := 5 }
     s.drum.state = .decel ∧ s.path.lastSeq ≠ some 2 ∧
       (after (.sample (sample4 2 9 600 1000 20 0)) s).drum.state = .dwell ∧
       (after (.sample (sample4 2 9 600 1000 21 0)) s).drum.state = .decel) ∧
    (let s := run.setDrum { run.drum with state := .ramp, spinup := some 5 }
     s.drum.state = .ramp ∧ s.drum.setpoint = s.drum.target ∧ s.present .motorStall = false ∧
       (s.tacho - s.signedTarget).natAbs ≤ s.param .speedTolerance) :=
  ⟨by unfold State.accepts; decide +kernel,
    ⟨by decide +kernel, (by decide +kernel : run.drum.winner.run? = some (run.drum.dir, run.drum.target))⟩,
    actionLaw_run, recordLaw_run, by decide +kernel, by decide +kernel, by decide +kernel, by decide +kernel,
    by decide +kernel, ⟨accepts_door, drumLaw_run, demandLaw_run, recordLaw_run, by decide +kernel⟩,
    ⟨by unfold State.accepts; decide +kernel, by decide +kernel⟩, by decide +kernel,
    fun d v h => by cases h; decide +kernel, by decide +kernel⟩

theorem witness_DoorOpeningLeavesTheCycle :
    run.accepts (sample4 2 8 600 1000 450 0) ∧ nearlyDry.accepts (sampleE 2 8 450 [4095, 200, 199, 0]) ∧
    ¬(run.accepting (sample4 2 8 600 1000 450 0)).signalsDry ∧
    (nearlyDry.accepting (sampleE 2 8 450 [4095, 200, 199, 0])).signalsDry ∧
    (run.path.door = .isClosed ∧ (byteAt (sample4 2 8 600 1000 450 0) 1).getLsbD 0 = false ∧
      run.cycle.record.kind ≠ .heatToDry ∧ run.cycle.state = .active ∧ nearlyDry.path.door = .isClosed ∧
      (ending .anticrease).cycle.record.kind = .anticrease ∧
      (after (.cycleAbort []) run).cycle.state = .cooldown ∧ (after (.cycleAbort []) run).path = run.path ∧
      (after (.cyclePause []) run).cycle.state = .suspended ∧ (after (.cyclePause []) run).path = run.path) ∧
    (run.upstream.events = [] ∧ run.links.ready = false ∧ run.upstream.queue.length ≤ 1 ∧
      (queued 0 nearlyDry).upstream.queue.length ≤ 0 ∧ (queued 0 nearlyDry).upstream.events = []) :=
  ⟨accepts_door, by unfold State.accepts; decide +kernel, by unfold State.signalsDry; decide +kernel,
    by unfold State.signalsDry; decide +kernel, by decide +kernel⟩

theorem witness_SampleCopyJoinsTheQueue :
    (run.setParam .copyDecimation 100).accepts (sample4 2 9 600 1000 450 0) ∧
    (run.setParam .copyDecimation 100).param .copyDecimation ≠ 0 ∧
    (run.setParam .copyDecimation 100).param .copyDecimation ≤ 99 + 1 ∧ run.links.ready = false :=
  ⟨by unfold State.accepts; decide +kernel, by decide +kernel⟩

/-- FUSE_OPEN (SAFE_STOP) and ELECTRODE_SHORT (NOTE) present. -/
def twoFaults : State := arise .electrodeShort (arise .fuseOpen run)

theorem witness_ArisingAndGoingChangeTheRecord :
    (run.present .fuseOpen = false ∧ run.upstream.events = [] ∧ run.links.ready = false ∧
      (queued 14 run).upstream.queue.length < 15 ∧ (queued 14 run).upstream.events = []) ∧
    Source.exhaustSensor ≠ .fuseOpen ∧
    (twoFaults.present .fuseOpen = true ∧ (twoFaults.record .fuseOpen).state = .active ∧
      twoFaults.action .fuseOpen = .safeStop) ∧
    (twoFaults.present .electrodeShort = true ∧ (twoFaults.record .electrodeShort).state = .active ∧
      twoFaults.action .electrodeShort ≠ .safeStop ∧ twoFaults.upstream.events = [] ∧
      twoFaults.links.ready = false ∧ twoFaults.upstream.queue.length < 15) := by decide +kernel

theorem witness_UnknownAndMisformedRequestsAreAnswered :
    run.quiet ∧ (List.replicate 32 (0 : Byte)).length ≤ 32 ∧
    ¬(0x41 ≤ (0x40 : Byte).toNat ∧ (0x40 : Byte).toNat ≤ 0x4D) ∧
    ¬(0x41 ≤ (0x4E : Byte).toNat ∧ (0x4E : Byte).toNat ≤ 0x4D) ∧ [(1 : Byte)] ≠ [] ∧ [(1 : Byte)].length ≠ 2 ∧
    ([] : List Byte).length ≠ 1 := ⟨quiet_run, by decide +kernel⟩

theorem witness_TableWriteChecksRefuseInOrder :
    run.quiet ∧ locked.quiet ∧
    (List.replicate 2 (0 : Byte)).length < 3 ∧ 16 < (List.replicate 17 (0 : Byte)).length ∧
    (3 ≤ [(6 : Byte), 0, 0].length ∧ 5 < (byteAt [6, 0, 0] 0).toNat) ∧
    (List.replicate 15 (0 : Byte)).length ≠ TableId.program.size ∧ TableId.program.count ≤ (128 : Byte).toNat ∧
    (locked.isProtected = true ∧ locked.inSafetySet .limits 3 = true ∧ 3 < TableId.limits.count) ∧
    (run.isProtected = false ∧ run.inUse .program 7 = true ∧ run.inUse .curve 8 = true ∧ run.inUse .pattern 13 = true) ∧
    (15 < 16 ∧ (run.setParam .protectCount 4).slotProtected 3 = true ∧
      (run.setParam .protectCount 4).slotProtected 4 = false ∧
      ((run.setParam .protectCount 4).setParam .protectSide 1).slotProtected 12 = true ∧
      ((run.setParam .protectCount 4).setParam .protectSide 1).slotProtected 11 = false ∧
      run.inUse .pattern 7 = false ∧ run.inUse .pattern 20 = true ∧ run.inUse .pattern 24 = false) :=
  ⟨quiet_run, quiet_locked, by decide +kernel⟩

theorem witness_ProgramPatternAndCurveWritesStoreClamped :
    run.quiet ∧ State.reset.quiet ∧ run.isProtected = false ∧ run.inUse .program 127 = false ∧
    run.inUse .pattern 0 = false ∧ State.reset.inUse .curve 8 = false ∧ PhaseKind.ofCode? 5 = some .anticrease ∧
    PhaseKind.ofCode? 0 = some .none ∧ 5 < (6 : Byte).toNat ∧ PatternDir.ofCode? 3 = some .pause ∧
    3 < (4 : Byte).toNat := ⟨quiet_run, quiet_reset, by decide +kernel⟩

theorem witness_LimitsWritesKeepRestoreBelowTheThreshold :
    run.quiet ∧ run.isProtected = false ∧ [(0x7F : Byte), 0xFF, 0x7F, 0xFF, 0].length = 5 ∧
    fieldSigned16 [0x7F, 0xFF, 0x7F, 0xFF, 0] 0 = 32767 ∧ fieldSigned16 [0x80, 0x00, 0x7F, 0xFF, 0] 0 = -32768 :=
  ⟨quiet_run, by decide +kernel⟩

theorem witness_ActionsWritesKeepTheFloor :
    run.quiet ∧ run.actionLaw ∧ run.isProtected = false ∧ (14 : Byte) = byteOf Source.keepalive.row.index.val ∧
    4 < (5 : Byte).toNat ∧ Action.ofCode? 4 = some .safeStop ∧ Action.ofCode? 0 = some .note :=
  ⟨quiet_run, actionLaw_run, by decide +kernel⟩

theorem witness_ConfigWritesStoreClamped :
    run.quiet ∧ Param.dwellTime.actsAtOnce = false ∧ Param.electrodeBurst.actsAtOnce = false ∧
    Param.attnMask.actsAtOnce = false ∧ Param.protectSide.row.safety = true ∧ run.isProtected = false :=
  ⟨quiet_run, by decide +kernel⟩

theorem witness_KeepaliveWritesHoldTheBoundsApart :
    run.quiet ∧ window19.quiet ∧ (arise .keepalive window19).serves ∧ (0 = min 100 (0 : Half).toNat ∧
    100 = min 100 (0xFFFF : Half).toNat ∧
    window19.param .keepaliveLower < 6 ∧ 5 ≤ window19.param .keepaliveLower ∧ run.param .keepaliveUpper = 0 ∧
    19 < window19.param .keepaliveUpper ∧ window19.param .keepaliveUpper ≤ 20 ∧ 20 = min 20 (0xFFFF : Half).toNat ∧
    (arise .keepalive window19).present .keepalive = true) ∧
    (crowded (arise .keepalive window19)).serves ∧
    newestAnswer 0x41 .ok (after (.keepaliveUpperWrite 20) (crowded (arise .keepalive window19))) = true :=
  ⟨quiet_run, by unfold State.quiet State.serves; decide +kernel, by unfold State.serves; decide +kernel,
    by decide +kernel, by unfold State.serves; decide +kernel, by decide +kernel⟩
theorem witness_WritesThatActAtOnce :
    run.quiet ∧ 10 = max 10 (min 1000 (0 : Half).toNat) ∧ 15 = max 2 (min 15 (0xFFFF : Half).toNat) ∧
    (500 = max 100 (min 500 (0xFFFF : Half).toNat) ∧ run.isProtected = false ∧ run.heatLaw) ∧
    (200 = max 200 (min 600 (0 : Half).toNat) ∧ run.drumLaw ∧ run.demandLaw) ∧ run.stopDemand = false ∧
    (after (.cycleAbort []) run).overrides = true ∧ 100 = min 100 (0xFFFF : Half).toNat ∧
    60 = min 60 (0xFFFF : Half).toNat ∧ (run.walkerTurn = true → run.holds = true) ∧
    newestAnswer 0x41 .ok (after (.shortLimitWrite 10)
      (crowded (run.setMoisture { run.moisture with allShort := 10 }))) = true ∧
    newestAnswer 0x41 .ok (after (.linkErrLimitWrite 2) (crowded (run.setBadCount .field 2))) = true :=
  ⟨quiet_run, by decide +kernel, by decide +kernel, ⟨by decide +kernel, by decide +kernel, heatLaw_run⟩,
    ⟨by decide +kernel, drumLaw_run, demandLaw_run⟩, by decide +kernel⟩

theorem witness_ReadsAnswerTheStateAsItStands :
    run.quiet ∧ (-32768 : Int) ≤ -32768 ∧ (32767 : Int) < 32768 ∧ 5 < (6 : Byte).toNat ∧
    TableId.ofCode? (0 : Byte).toNat = some .program ∧
    TableId.program.count ≤ (128 : Byte).toNat ∧ (127 : Byte).toNat < TableId.program.count :=
  ⟨quiet_run, by decide +kernel⟩

/-- A dryer ready to start slot 0. -/
def startable : State := run.setCycle resetCycle

theorem witness_CycleStartChecksAndBegins :
    run.quiet ∧ startable.quiet ∧ startable.actionLaw ∧
    (run.startCheck 0 = some .state ∧ startable.startCheck 16 = some .range ∧
    startable.startCheck 15 = some .noProgram ∧
    (startable.setTables { run.tables with pattern := resetTables.pattern }).startCheck 0 = some .patternEmpty ∧
    (startable.setTables { run.tables with program := run.tables.program.set 0 { phase with kind := .heatToDry } }).startCheck
      0 = some .curveIncomplete ∧
    (startable.setPath { run.path with door := .isOpen }).startCheck 0 = some .doorOpen ∧
    (startable.setPresent .fieldSilent true).startCheck 0 = some .field ∧ startable.startCheck 0 = none ∧
    ((startable.programPhases 0).filter fun x => decide (x.2.kind ≠ .heatTimed)) = []) ∧
    ((startable.setDrum resetDrum).quiet ∧ (startable.setDrum resetDrum).actionLaw ∧
      (startable.setDrum resetDrum).drumLaw ∧ (startable.setDrum resetDrum).demandLaw ∧
      (startable.setDrum resetDrum).startCheck 0 = none ∧ (startable.setDrum resetDrum).drum.state = .stopped ∧
      (after (.cycleStart [0, 0]) (startable.setDrum resetDrum)).drum.state = .ramp) ∧
    ((crowded startable).quiet ∧ (crowded startable).actionLaw ∧ (crowded startable).startCheck 0 = none ∧
      newestAnswer 0x43 .ok (after (.cycleStart [0, 0]) (crowded startable)) = true) :=
  ⟨quiet_run, by unfold State.quiet State.serves; decide +kernel, by unfold State.actionLaw; decide +kernel, by decide +kernel,
    ⟨by unfold State.quiet State.serves; decide +kernel, by unfold State.actionLaw; decide +kernel, drumLaw_stopped _ rfl rfl,
      ⟨by decide +kernel, (by decide +kernel : resetDrum.winner = .stop)⟩, by decide +kernel⟩,
    ⟨quiet_crowded _ quiet_run, by unfold State.actionLaw; decide +kernel, by decide +kernel⟩⟩

/-- A suspended cycle whose drum has come to rest. -/
def paused : State := (after (.cyclePause []) run).setDrum resetDrum

/-- The same with the walker at another entry. -/
def pausedAt (i : Nat) : State := paused.setWalker { paused.walker with index := some i }

theorem witness_PauseResumeAndAbortMoveTheCycle :
    run.quiet ∧ paused.quiet ∧ startable.quiet ∧ (startable.cycle.state ≠ .active ∧ run.cycle.state = .active ∧
    run.cycle.state ≠ .suspended ∧ paused.cycle.state = .suspended ∧ paused.path.door = .isClosed ∧
    paused.drum.state = .stopped ∧ paused.cycle.suspension = some 0 ∧
    (paused.setPath { paused.path with door := .isOpen }).path.door = .isOpen ∧
    (after (.cyclePause []) run).drum.state ≠ .stopped ∧ startable.cycle.state = .idle ∧
    (run.setCycle { run.cycle with state := .halted }).cycle.state = .halted) ∧
    (paused.drumLaw ∧ paused.demandLaw ∧ paused.actionLaw ∧ paused.silent = false ∧ paused.walker.index = some 13 ∧
      paused.usable 13 = true ∧ (after (.cycleResume []) paused).drum.state = .ramp ∧
      (pausedAt 23).usable 23 = true ∧ (after (.cycleResume []) (pausedAt 23)).drum.state = .dwell) ∧
    ((crowded run).quiet ∧ (crowded paused).quiet ∧
      newestAnswer 0x44 .ok (after (.cyclePause []) (crowded run)) = true ∧
      newestAnswer 0x45 .ok (after (.cycleResume []) (crowded paused)) = true ∧
      newestAnswer 0x46 .ok (after (.cycleAbort []) (crowded run)) = true) :=
  ⟨quiet_run, by unfold State.quiet State.serves; decide +kernel, by unfold State.quiet State.serves; decide +kernel, by decide +kernel,
    ⟨drumLaw_stopped _ rfl rfl, ⟨by decide +kernel, (by decide +kernel : paused.drum.winner = .stop)⟩,
      by unfold State.actionLaw; decide +kernel, by decide +kernel⟩,
    ⟨quiet_crowded _ quiet_run, by unfold State.quiet State.serves; decide +kernel, by decide +kernel⟩⟩

/-- A RAMP with MOTOR_STALL present at HEAT_OFF and INLET_SENSOR latched, from an empty queue. -/
def stalledRamp : State :=
  let s := (arise .motorStall ((ramping 450).setAction .motorStall .heatOff)).setRecord .inletSensor ⟨.latched, true, 1⟩
  (s.setDrum { s.drum with stallMark := true }).setUpstream { s.upstream with queue := [], events := [] }

theorem quiet_stalledRamp : stalledRamp.quiet := by unfold State.quiet State.serves; decide +kernel

theorem test_faultClear_restarts_spinup :
    (after (.faultClear [0xFF]) stalledRamp).drum.spinup = some 0 ∧
    (after (.faultClear [0xFF]) stalledRamp).drum.stallMark = false ∧
    (after (.faultClear [0xFF]) stalledRamp).upstream.queue.map UpFrame.payload =
      [[byteOf EventKind.faultCleared.code, 3, 1], [byteOf EventKind.faultCleared.code, 7, 1], [0x47, 0x00]] := by decide +kernel

theorem witness_FaultClearClearsLatchedRecords :
    run.quiet ∧ (15 ≤ (15 : Byte).toNat ∧ (254 : Byte).toNat ≤ 254) ∧ (14 : Byte).toNat < 15 ∧
    (255 : Byte).toNat = 255 ∧
    run.actionLaw ∧ run.recordLaw ∧ (run.setCycle { run.cycle with state := .halted }).anySafeStop = false ∧
    (stalledRamp.quiet ∧ stalledRamp.actionLaw ∧ stalledRamp.recordLaw ∧ stalledRamp.upstream.events = [] ∧
      stalledRamp.links.ready = false ∧ stalledRamp.upstream.queue.length ≤ 13 ∧
      (after (.faultClear [0xFF]) stalledRamp).drum.state = .ramp) ∧
    ((crowded stalledRamp).quiet ∧ newestAnswer 0x47 .ok (after (.faultClear [0xFF]) (crowded stalledRamp)) = true) :=
  ⟨quiet_run, by decide +kernel, by decide +kernel, by decide +kernel, actionLaw_run, recordLaw_run, by decide +kernel,
    ⟨quiet_stalledRamp, by unfold State.actionLaw; decide +kernel,
    (fun x => by cases x <;> decide +kernel), by decide +kernel⟩, quiet_crowded _ quiet_stalledRamp, by decide +kernel⟩

theorem witness_TrimLockAndFlushActAlone :
    run.quiet ∧ 8 = run.param .electrodeTrim ∧ (run.setParam .electrodeTrim 15).quiet ∧
    15 ≤ (run.setParam .electrodeTrim 15).param .electrodeTrim ∧ (run.setParam .electrodeTrim 0).quiet ∧
    (run.setParam .electrodeTrim 0).param .electrodeTrim = 0 ∧ 1 < (2 : Byte).toNat ∧
    (after (.serviceChange true) run).links.service = true ∧ run.links.service = false :=
  ⟨quiet_run, by decide +kernel, quiet_run, by decide +kernel, quiet_run, by decide +kernel⟩

theorem witness_HeatLawIsKept : run.heatLaw ∧ run.actionLaw ∧ run.drumLaw ∧ ∃ t, step run = .next t :=
  ⟨heatLaw_run, actionLaw_run, drumLaw_run, _, rfl⟩

theorem witness_FaultLawsAreKept : run.actionLaw ∧ run.recordLaw ∧ ∃ t, step run = .next t :=
  ⟨actionLaw_run, recordLaw_run, _, rfl⟩

theorem witness_UpstreamLawsAreKept : (queued 15 run).queueLaw ∧ (queued 15 run).eventLaw ∧
    ∃ t, step (queued 15 run) = .next t :=
  ⟨by unfold State.queueLaw; decide +kernel, by unfold State.eventLaw; decide +kernel, _, rfl⟩

theorem witness_RangeLawsAreKept : run.paramLaw ∧ run.moistureLaw ∧ ∃ t, step run = .next t :=
  ⟨paramLaw_run, by unfold State.moistureLaw; decide +kernel, _, rfl⟩

theorem witness_MotionLawsAreKept : run.drumLaw ∧ run.walkerLaw ∧ run.demandLaw ∧ run.actionLaw ∧
    ∃ t, step run = .next t := ⟨drumLaw_run, walkerLaw_run, demandLaw_run, actionLaw_run, _, rfl⟩

theorem witness_SafetySetIsFixedWhileProtected :
    locked.isProtected = true ∧ (∀ high, Instr.tenth ≠ .reset high) ∧ (∃ t, exec .tenth locked = .next t) ∧
    (locked.setParam .protectCount 1).slotProtected (7 / 8) = true :=
  ⟨by decide +kernel, fun _ => by simp, ⟨_, rfl⟩, by decide +kernel⟩

end Sys2Proof.Tests
end

/-! # What the frames leave, and the link level

The rules that every later proof about a frame on a port uses: what an operation in one of the frames of `Laws/Frames`
leaves of links, conditions, parameters and counters, what an arising or a going does to the conditions, and what a good
or a bad frame does to its port (01 R2, R7). -/

namespace Sys2Proof.Machine

/-! ### The settled state -/

@[simp] theorem State.refresh_links (s : State) : s.refresh.links = s.links := rfl
@[simp] theorem State.refresh_path (s : State) : s.refresh.path = s.path := rfl
@[simp] theorem State.refresh_moisture (s : State) : s.refresh.moisture = s.moisture := rfl
@[simp] theorem State.refresh_heater (s : State) : s.refresh.heater = s.heater := rfl
@[simp] theorem State.refresh_faults (s : State) : s.refresh.faults = s.faults := rfl
@[simp] theorem State.refresh_tables (s : State) : s.refresh.tables = s.tables := rfl
@[simp] theorem State.refresh_queue (s : State) : s.refresh.upstream.queue = s.upstream.queue := rfl
@[simp] theorem State.refresh_param (s : State) (p : Param) : s.refresh.param p = s.param p := rfl
@[simp] theorem State.refresh_present (s : State) (x : Source) : s.refresh.present x = s.present x := rfl
@[simp] theorem State.refresh_badCount (s : State) (p : Port) : s.refresh.badCount p = s.badCount p := by
  cases p <;> rfl
@[simp] theorem State.refresh_receiver (s : State) (p : Port) : s.refresh.receiver p = s.receiver p := by
  cases p <;> rfl

/-! ### Counters, receivers and the keepalive window are in the links alone -/

@[simp] theorem State.setBadCount_param (s : State) (p : Port) (n : Nat) (q : Param) :
    (s.setBadCount p n).param q = s.param q := by cases p <;> rfl
@[simp] theorem State.setBadCount_present (s : State) (p : Port) (n : Nat) (x : Source) :
    (s.setBadCount p n).present x = s.present x := by cases p <;> rfl
@[simp] theorem State.setReceiver_param (s : State) (p : Port) (r : Receiver) (q : Param) :
    (s.setReceiver p r).param q = s.param q := by cases p <;> rfl
@[simp] theorem State.setReceiver_present (s : State) (p : Port) (r : Receiver) (x : Source) :
    (s.setReceiver p r).present x = s.present x := by cases p <;> rfl
@[simp] theorem State.setKeepalive_keepalive (s : State) (k : Keepalive) :
    (s.setKeepalive k).links.keepalive = k := rfl
@[simp] theorem State.setKeepalive_param (s : State) (k : Keepalive) (q : Param) :
    (s.setKeepalive k).param q = s.param q := rfl
@[simp] theorem State.setKeepalive_present (s : State) (k : Keepalive) (x : Source) :
    (s.setKeepalive k).present x = s.present x := rfl
@[simp] theorem State.setKeepalive_badCount (s : State) (k : Keepalive) (p : Port) :
    (s.setKeepalive k).badCount p = s.badCount p := by cases p <;> rfl
@[simp] theorem State.setKeepalive_receiver (s : State) (k : Keepalive) (p : Port) :
    (s.setKeepalive k).receiver p = s.receiver p := by cases p <;> rfl

/-! ### Fields read off the frames -/

section Frames

variable {s t : State}

theorem MovesUpstream.present (h : MovesUpstream s t) (x : Source) : t.present x = s.present x := by rw [h]; rfl

theorem MovesAction.present (h : MovesAction s t) (x : Source) : t.present x = s.present x := by rw [h]; rfl

/-- An operation in the frame of the record changes leaves the links but for the transmitter. -/
theorem MovesRecord.links (h : MovesRecord s t) :
    t.links = { s.links with controllerTx := t.links.controllerTx } := by rw [h]

theorem MovesRecord.tables (h : MovesRecord s t) : t.tables = s.tables := by rw [h]

theorem MovesRecord.path (h : MovesRecord s t) : t.path = s.path := by rw [h]

theorem MovesRecord.param (h : MovesRecord s t) (p : Param) : t.param p = s.param p := by
  simp only [State.param, h.tables]

theorem MovesRecord.badCount (h : MovesRecord s t) (p : Port) : t.badCount p = s.badCount p := by
  rw [h]; cases p <;> rfl

theorem MovesRecord.receiver (h : MovesRecord s t) (p : Port) : t.receiver p = s.receiver p := by
  rw [h]; cases p <;> rfl

theorem MovesRecord.keepalive (h : MovesRecord s t) : t.links.keepalive = s.links.keepalive := by rw [h]

theorem MovesRecord.receiveQueue (h : MovesRecord s t) : t.links.receiveQueue = s.links.receiveQueue := by rw [h]

theorem MovesRecord.ready (h : MovesRecord s t) : t.links.ready = s.links.ready := by rw [h]

end Frames

/-! ### Conditions at an arising and at a going (09 R158) -/

theorem emptyRingFor_present (x y : Source) (s : State) : (emptyRingFor x s).present y = s.present y := by
  unfold emptyRingFor
  split <;> rfl

@[simp] theorem arise_present (x y : Source) (s : State) :
    (arise x s).present y = (s.present y || decide (x = y)) := by
  unfold arise
  split
  next hx => by_cases hxy : x = y <;> simp_all
  next hx =>
    rw [(workOutAction_moves _).present, (raiseEvent_moves _ _ _).present, State.present_setRecord,
      emptyRingFor_present, State.present_setPresent]
    by_cases hxy : x = y <;> simp [hxy]

@[simp] theorem goAway_present (x y : Source) (s : State) :
    (goAway x s).present y = (s.present y && decide (x ≠ y)) := by
  have hgone : (s.setPresent x false).present y = (s.present y && decide (x ≠ y)) := by
    by_cases hxy : x = y <;> simp [hxy]
  unfold goAway
  split
  next hx =>
    dsimp only
    split
    · split
      · rw [(workOutAction_moves _).present, State.present_setRecord, hgone]
      · rw [(workOutAction_moves _).present, (raiseEvent_moves _ _ _).present, State.present_setRecord, hgone]
    · exact hgone
  next hx => by_cases hxy : x = y <;> simp_all

theorem goAway_of_absent {x : Source} {s : State} (h : s.present x = false) : goAway x s = s := by simp [goAway, h]

@[simp] theorem arise_badCount (x : Source) (p : Port) (s : State) : (arise x s).badCount p = s.badCount p :=
  (arise_moves x s).badCount p
@[simp] theorem arise_receiver (x : Source) (p : Port) (s : State) : (arise x s).receiver p = s.receiver p :=
  (arise_moves x s).receiver p
@[simp] theorem arise_param (x : Source) (p : Param) (s : State) : (arise x s).param p = s.param p :=
  (arise_moves x s).param p
@[simp] theorem arise_keepalive (x : Source) (s : State) : (arise x s).links.keepalive = s.links.keepalive :=
  (arise_moves x s).keepalive
@[simp] theorem arise_receiveQueue (x : Source) (s : State) :
    (arise x s).links.receiveQueue = s.links.receiveQueue := (arise_moves x s).receiveQueue
@[simp] theorem goAway_badCount (x : Source) (p : Port) (s : State) : (goAway x s).badCount p = s.badCount p :=
  (goAway_moves x s).badCount p
@[simp] theorem goAway_receiver (x : Source) (p : Port) (s : State) : (goAway x s).receiver p = s.receiver p :=
  (goAway_moves x s).receiver p
@[simp] theorem goAway_param (x : Source) (p : Param) (s : State) : (goAway x s).param p = s.param p :=
  (goAway_moves x s).param p
@[simp] theorem goAway_keepalive (x : Source) (s : State) : (goAway x s).links.keepalive = s.links.keepalive :=
  (goAway_moves x s).keepalive
@[simp] theorem goAway_receiveQueue (x : Source) (s : State) :
    (goAway x s).links.receiveQueue = s.links.receiveQueue := (goAway_moves x s).receiveQueue

/-! ### Bad and good frames (01 R2, R7) -/

/-- The state of a frame's port once its receiver is in HUNT and its counter stands at a value. -/
def State.portAfter (s : State) (p : Port) (n : Nat) : State := (s.setReceiver p .idle).setBadCount p n

@[simp] theorem State.portAfter_param (s : State) (p : Port) (n : Nat) (q : Param) :
    (s.portAfter p n).param q = s.param q := by simp [State.portAfter]
@[simp] theorem State.portAfter_present (s : State) (p : Port) (n : Nat) (x : Source) :
    (s.portAfter p n).present x = s.present x := by simp [State.portAfter]
@[simp] theorem State.portAfter_badCount (s : State) (p q : Port) (n : Nat) :
    (s.portAfter p n).badCount q = if p = q then n else s.badCount q := by simp [State.portAfter]
@[simp] theorem State.portAfter_receiver (s : State) (p q : Port) (n : Nat) :
    (s.portAfter p n).receiver q = if p = q then .idle else s.receiver q := by simp [State.portAfter]
@[simp] theorem State.portAfter_path (s : State) (p : Port) (n : Nat) : (s.portAfter p n).path = s.path := by
  cases p <;> rfl
@[simp] theorem State.portAfter_tables (s : State) (p : Port) (n : Nat) : (s.portAfter p n).tables = s.tables := by
  cases p <;> rfl
@[simp] theorem State.portAfter_upstream (s : State) (p : Port) (n : Nat) :
    (s.portAfter p n).upstream = s.upstream := by cases p <;> rfl
@[simp] theorem State.portAfter_keepalive (s : State) (p : Port) (n : Nat) :
    (s.portAfter p n).links.keepalive = s.links.keepalive := by cases p <;> rfl
@[simp] theorem State.portAfter_receiveQueue (s : State) (p : Port) (n : Nat) :
    (s.portAfter p n).links.receiveQueue = s.links.receiveQueue := by cases p <;> rfl
@[simp] theorem State.portAfter_ready (s : State) (p : Port) (n : Nat) :
    (s.portAfter p n).links.ready = s.links.ready := by cases p <;> rfl
@[simp] theorem State.portAfter_controllerTx (s : State) (p : Port) (n : Nat) :
    (s.portAfter p n).links.controllerTx = s.links.controllerTx := by cases p <;> rfl

/-- What a frame leaves of a port does not depend on what its receiver had gathered. -/
theorem State.portAfter_setReceiver (s : State) (p : Port) (r : Receiver) (n : Nat) :
    (s.setReceiver p r).portAfter p n = s.portAfter p n := by cases p <;> rfl

theorem badFrame_eq (p : Port) (s : State) :
    badFrame p s =
      if s.param .linkErrLimit ≤ s.badCount p + 1 then
        arise (Port.source p) (s.portAfter p (min (s.badCount p + 1) (s.param .linkErrLimit)))
      else s.portAfter p (min (s.badCount p + 1) (s.param .linkErrLimit)) := by
  have hlim : s.param .linkErrLimit ≤ min (s.badCount p + 1) (s.param .linkErrLimit) ↔
      s.param .linkErrLimit ≤ s.badCount p + 1 := by omega
  simp only [badFrame, toHunt, hlim, State.portAfter]

theorem goodFrame_eq (p : Port) (s : State) :
    goodFrame p s =
      if s.badCount p ≤ 1 then goAway (Port.source p) (s.portAfter p (s.badCount p - 1))
      else s.portAfter p (s.badCount p - 1) := by
  have hzero : s.badCount p - 1 = 0 ↔ s.badCount p ≤ 1 := by omega
  simp only [goodFrame, toHunt, hzero, State.portAfter]

theorem badFrame_moves (p : Port) (s : State) :
    MovesRecord (s.portAfter p (min (s.badCount p + 1) (s.param .linkErrLimit))) (badFrame p s) := by
  rw [badFrame_eq]
  split
  · exact arise_moves _ _
  · exact .refl _

theorem goodFrame_moves (p : Port) (s : State) :
    MovesRecord (s.portAfter p (s.badCount p - 1)) (goodFrame p s) := by
  rw [goodFrame_eq]
  split
  · exact goAway_moves _ _
  · exact .refl _

theorem badFrame_present (p : Port) (s : State) :
    (badFrame p s).present (Port.source p) =
      (s.present (Port.source p) || decide (s.param .linkErrLimit ≤ s.badCount p + 1)) := by
  rw [badFrame_eq]
  split <;> simp_all

/-- Short of the limit a bad frame moves its port alone. -/
theorem badFrame_below {p : Port} {s : State} (h : s.badCount p + 1 < s.param .linkErrLimit) :
    badFrame p s = s.portAfter p (s.badCount p + 1) := by
  rw [badFrame_eq, if_neg (by omega), min_eq_left (by omega)]

theorem goodFrame_present (p : Port) (x : Source) (s : State) :
    (goodFrame p s).present x =
      (s.present x && decide (Port.source p = x → 1 < s.badCount p)) := by
  rw [goodFrame_eq]
  split
  next h => by_cases hx : Port.source p = x <;> simp_all
  next h => simp_all

/-- While the LINK condition is absent a good frame moves its port alone. -/
theorem goodFrame_of_absent {p : Port} {s : State} (h : s.present (Port.source p) = false) :
    goodFrame p s = s.portAfter p (s.badCount p - 1) := by
  rw [goodFrame_eq]
  split
  · exact goAway_of_absent (by simpa using h)
  · rfl

@[simp] theorem goodFrame_param (p : Port) (q : Param) (s : State) : (goodFrame p s).param q = s.param q := by
  rw [(goodFrame_moves p s).param, State.portAfter_param]
@[simp] theorem goodFrame_path (p : Port) (s : State) : (goodFrame p s).path = s.path := by
  rw [(goodFrame_moves p s).path, State.portAfter_path]
@[simp] theorem goodFrame_tables (p : Port) (s : State) : (goodFrame p s).tables = s.tables := by
  rw [(goodFrame_moves p s).tables, State.portAfter_tables]
@[simp] theorem goodFrame_badCount (p q : Port) (s : State) :
    (goodFrame p s).badCount q = if p = q then s.badCount p - 1 else s.badCount q := by
  rw [(goodFrame_moves p s).badCount, State.portAfter_badCount]
@[simp] theorem goodFrame_receiver (p q : Port) (s : State) :
    (goodFrame p s).receiver q = if p = q then .idle else s.receiver q := by
  rw [(goodFrame_moves p s).receiver, State.portAfter_receiver]
@[simp] theorem goodFrame_keepalive (p : Port) (s : State) :
    (goodFrame p s).links.keepalive = s.links.keepalive := by
  rw [(goodFrame_moves p s).keepalive, State.portAfter_keepalive]
@[simp] theorem goodFrame_receiveQueue (p : Port) (s : State) :
    (goodFrame p s).links.receiveQueue = s.links.receiveQueue := by
  rw [(goodFrame_moves p s).receiveQueue, State.portAfter_receiveQueue]

/-- A bad and a good frame do not depend on what the receiver had gathered. -/
theorem badFrame_setReceiver (p : Port) (r : Receiver) (s : State) :
    badFrame p (s.setReceiver p r) = badFrame p s := by
  simp only [badFrame_eq, State.portAfter_setReceiver, State.badCount_setReceiver, State.setReceiver_param]

theorem goodFrame_setReceiver (p : Port) (r : Receiver) (s : State) :
    goodFrame p (s.setReceiver p r) = goodFrame p s := by
  simp only [goodFrame_eq, State.portAfter_setReceiver, State.badCount_setReceiver]

/-! ### The commands of a frame's end -/

theorem exec_badFrame (p : Port) (s : State) : exec (.badFrame p) s = .next (badFrame p s).refresh := rfl

theorem exec_interByteGapExpiry (p : Port) (s : State) :
    exec (.interByteGapExpiry p) s = .next (gapBetweenBytes p s).refresh := rfl

theorem exec_fieldOtherFrame (kind : Byte) (payload : List Byte) (s : State) :
    exec (.fieldOtherFrame kind payload) s = .next (fieldFrame ⟨kind, payload⟩ s).refresh := rfl

theorem exec_sample (payload : List Byte) (s : State) :
    exec (.sample payload) s = .next (fieldFrame ⟨0x21, payload⟩ s).refresh := rfl

/-- Settles O8: each part is a fact about `badFrame`, and the gap timer's expiry is that operation outside HUNT. -/
theorem badFramesAndByteGapsRaiseTheCounter : Obligations.BadFramesAndByteGapsRaiseTheCounter := by
  intro p s
  have hmoves := badFrame_moves p s
  refine ⟨(badFrame p s).refresh, exec_badFrame p s, ?_, ?_, ?_, fun q hq => ⟨?_, ?_⟩, fun h => ?_, ?_⟩
  · rw [State.refresh_badCount, hmoves.badCount, State.portAfter_badCount, if_pos rfl]
  · rw [State.refresh_receiver, hmoves.receiver, State.portAfter_receiver, if_pos rfl]
  · rw [State.refresh_present, badFrame_present]
  · rw [State.refresh_badCount, hmoves.badCount, State.portAfter_badCount, if_neg hq.symm]
  · rw [State.refresh_receiver, hmoves.receiver, State.portAfter_receiver, if_neg hq.symm]
  · rw [badFrame_below h, State.portAfter]
  · rw [exec_interByteGapExpiry, gapBetweenBytes]
    split <;> rfl

/-! ### Field frames that no block takes (01 R5, 02 R15) -/

theorem samplePayloadOk_iff (p : List Byte) :
    samplePayloadOk p = true ↔
      p.length = 11 + 2 * (byteAt p 10).toNat ∧ ((byteAt p 10).toNat = 4 ∨ (byteAt p 10).toNat = 8) := by
  unfold samplePayloadOk byteAt
  rw [List.getD_eq_getElem?_getD]
  cases h : p[10]? with
  | none => simp
  | some e => simp [and_comm]

theorem length_le_of_samplePayloadOk {p : List Byte} (h : samplePayloadOk p = true) : p.length ≤ 32 := by
  rw [samplePayloadOk_iff] at h
  omega

/-- A SAMPLE that passes the checks of its form is a good frame, and reaches the sample path. -/
theorem fieldFrame_sample {p : List Byte} (h : samplePayloadOk p = true) (s : State) :
    fieldFrame ⟨0x21, p⟩ s = takeSample p (goodFrame .field s) := by
  have hlen := length_le_of_samplePayloadOk h
  simp [fieldFrame, Frame.fits, hlen, h]

/-- A SAMPLE that fails a check of its form is a bad frame, whatever its LEN. -/
theorem fieldFrame_badSample {p : List Byte} (h : samplePayloadOk p = false) (s : State) :
    fieldFrame ⟨0x21, p⟩ s = badFrame .field s := by
  simp [fieldFrame, h]

theorem fieldFrame_other {kind : Byte} {p : List Byte} (hk : kind ≠ 0x21) (h : p.length ≤ 32) (s : State) :
    fieldFrame ⟨kind, p⟩ s = goodFrame .field s := by
  have hk' : kind.toNat ≠ 0x21 := fun e => hk (BitVec.eq_of_toNat_eq e)
  simp [fieldFrame, Frame.fits, h, hk']

theorem takeSample_duplicate {p : List Byte} {s : State} (h : s.path.lastSeq = some (byteAt p 0)) :
    takeSample p s = s := by
  simp [takeSample, State.duplicate, h]

/-- Settles O9: the good frame's effect is `goodFrame`'s, and a duplicate SAMPLE ends as one. -/
theorem ignoredFieldFramesAreGoodFrames : Obligations.IgnoredFieldFramesAreGoodFrames := by
  refine ⟨fun s p => ⟨samplePayloadOk_iff p, fun hok hdup => ?_, fun hbad => ?_⟩, fun kind payload s hk hlen => ?_⟩
  · rw [exec_sample, exec_fieldOtherFrame, fieldFrame_sample hok, fieldFrame_other (by decide) (by simp),
      takeSample_duplicate (by rwa [goodFrame_path])]
  · rw [exec_sample, exec_badFrame, fieldFrame_badSample hbad]
  · refine ⟨_, exec_fieldOtherFrame kind payload s, ?_⟩
    rw [fieldFrame_other hk hlen]
    refine ⟨?_, ?_, ?_, fun habsent => ?_⟩
    · simp
    · simp
    · simp [goodFrame_present, Port.source]
    · rw [goodFrame_of_absent (p := .field) habsent, State.portAfter]

end Sys2Proof.Machine

/-! # Bytes into frames (01 R1 to R3)

The byte error and the CRC spelled out, the receiver's table, and the bytes of a whole frame received one by one. -/

namespace Sys2Proof.Machine

/-! ### Parity (01 R1) -/

theorem toNat_xor_eq_sum_mod_two (a b : Bool) : (a.xor b).toNat = (a.toNat + b.toNat) % 2 := by
  cases a <;> cases b <;> rfl

/-- How many of a byte's data bits are 1. -/
theorem sum_bits (b : Byte) :
    ((List.range 8).map fun i => (b.getLsbD i).toNat).sum =
      (b.getLsbD 0).toNat + (b.getLsbD 1).toNat + (b.getLsbD 2).toNat + (b.getLsbD 3).toNat + (b.getLsbD 4).toNat +
        (b.getLsbD 5).toNat + (b.getLsbD 6).toNat + (b.getLsbD 7).toNat := by
  simp only [List.range_succ, List.range_zero, List.map_append, List.map_nil, List.map_cons, List.sum_append,
    List.sum_nil, List.sum_cons]
  omega

theorem evenParity_iff (b : Byte) (parity : Bool) :
    evenParity b parity = true ↔
      (((List.range 8).map fun i => (b.getLsbD i).toNat).sum + parity.toNat) % 2 = 0 := by
  have hbool : ∀ x : Bool, (!x) = true ↔ x.toNat = 0 := by decide
  rw [evenParity, hbool, sum_bits]
  simp only [toNat_xor_eq_sum_mod_two]
  omega

theorem byteError_iff (b : Byte) (parity stop : Bool) :
    byteError b parity stop = true ↔
      stop = false ∨ (((List.range 8).map fun i => (b.getLsbD i).toNat).sum + parity.toNat) % 2 = 1 := by
  have hodd : evenParity b parity = false ↔
      (((List.range 8).map fun i => (b.getLsbD i).toNat).sum + parity.toNat) % 2 = 1 := by
    rw [← Bool.not_eq_true, evenParity_iff]
    omega
  rw [byteError, Bool.or_eq_true, Bool.not_eq_true', Bool.not_eq_true', hodd, or_comm]

/-- The parity bit that a byte is sent with makes its parity even. -/
theorem evenParity_parityBit (b : Byte) : evenParity b (parityBit b) = true := by
  have hfalse := evenParity_iff b false
  rw [evenParity_iff, parityBit]
  cases h : evenParity b false <;> simp [h] at hfalse ⊢ <;> omega

theorem byteError_parityBit (b : Byte) : byteError b (parityBit b) true = false := by
  rw [byteError, evenParity_parityBit]
  rfl

/-! ### The CRC (01 R3) -/

theorem crcShift_eq (c : Byte) : crcShift c = if c.getLsbD 7 = true then (c <<< 1) ^^^ 0x07 else c <<< 1 := by
  rw [crcShift, BitVec.msb_eq_getLsbD_last]
  rfl

theorem crcByte_eq (c b : Byte) :
    crcByte c b =
      (List.range 8).foldl (fun (r : Byte) _ => if r.getLsbD 7 = true then (r <<< 1) ^^^ 0x07 else r <<< 1)
        (c ^^^ b) := by
  simp only [crcByte, crcShift_eq]
  rfl

/-! ### A byte at a receiver (01 R2) -/

theorem exec_byteArrival (p : Port) (b : Byte) (parity stop : Bool) (s : State) :
    exec (.byteArrival p b parity stop) s = .next (byteArrives p b (byteError b parity stop) s).refresh := rfl

theorem State.setReceiver_receiver (s : State) (p : Port) : s.setReceiver p (s.receiver p) = s := by cases p <;> rfl

/-- The command that a complete frame is carries it to its port. -/
theorem exec_frameCommand (p : Port) (f : Frame) (s : State) :
    exec (frameCommand p f) s = .next (completeFrame p f s).refresh := by
  cases p with
  | controller => rfl
  | field =>
    unfold frameCommand
    dsimp only
    split
    next hk => rw [exec_sample, ← hk]; rfl
    next => rfl

/-- What a byte brings: the assembly goes on, or the frame is complete, or it is bad. -/
def byteOutcome (p : Port) (s : State) : RxOutcome → Host.Outcome State Fault Refusal
  | .assembling r => .next (s.setReceiver p r).refresh
  | .frame f => exec (frameCommand p f) s
  | .bad => exec (.badFrame p) s

theorem exec_byteArrival_eq (p : Port) (b : Byte) (parity stop : Bool) (s : State) :
    exec (.byteArrival p b parity stop) s = byteOutcome p s ((s.receiver p).take b (byteError b parity stop)) := by
  rw [exec_byteArrival, byteArrives]
  cases (s.receiver p).take b (byteError b parity stop) with
  | assembling r => rfl
  | frame f => exact (exec_frameCommand p f s).symm
  | bad => rfl

section Take

variable {r : Receiver} (b : Byte) (err : Bool)

theorem Receiver.take_of_hunt (h : r.state = .hunt) :
    r.take b err =
      if err = false ∧ b = 0xC5 then .assembling ⟨.kind, 0, 0, [], 0xFF, 0⟩ else .assembling r := by
  simp only [Receiver.take, h, Bool.and_eq_true, Bool.not_eq_true', decide_eq_true_eq]
  rfl

theorem Receiver.take_of_kind (h : r.state = .kind) :
    r.take b err =
      if err = true then .bad else .assembling { r with state := .len, kind := b, crc := crcByte r.crc b } := by
  simp only [Receiver.take, h]

theorem Receiver.take_of_len (h : r.state = .len) :
    r.take b err =
      if err = true ∨ 32 < b.toNat then .bad
      else
        .assembling
          { r with
            state := if b.toNat = 0 then .check else .payload, len := b.toNat, remaining := b.toNat,
            crc := crcByte r.crc b } := by
  simp only [Receiver.take, h, Bool.or_eq_true, decide_eq_true_eq]

theorem Receiver.take_of_payload (h : r.state = .payload) :
    r.take b err =
      if err = true then .bad
      else
        .assembling
          { r with
            state := if r.remaining ≤ 1 then .check else .payload, payload := r.payload ++ [b],
            remaining := r.remaining - 1, crc := crcByte r.crc b } := by
  simp only [Receiver.take, h]

theorem Receiver.take_of_check (h : r.state = .check) :
    r.take b err = if err = true ∨ b ≠ r.crc then .bad else .frame ⟨r.kind, r.payload⟩ := by
  simp only [Receiver.take, h, Bool.or_eq_true, decide_eq_true_eq]

end Take

/-- Settles O10: the table is that of `Receiver.take`, state by state. -/
theorem byteArrivalFollowsTheReceiverTable : Obligations.ByteArrivalFollowsTheReceiverTable := by
  refine ⟨byteError_iff, crcByte_eq, by decide, by decide, fun p b parity stop s => ?_⟩
  rw [exec_byteArrival_eq]
  cases hstate : (s.receiver p).state with
  | hunt => rw [Receiver.take_of_hunt b _ hstate, apply_ite (byteOutcome p s), byteOutcome, byteOutcome,
      State.setReceiver_receiver]
  | kind => rw [Receiver.take_of_kind b _ hstate, apply_ite (byteOutcome p s)]; rfl
  | len => rw [Receiver.take_of_len b _ hstate, apply_ite (byteOutcome p s)]; rfl
  | payload => rw [Receiver.take_of_payload b _ hstate, apply_ite (byteOutcome p s)]; rfl
  | check => rw [Receiver.take_of_check b _ hstate, apply_ite (byteOutcome p s)]; rfl

/-! ### A whole frame, byte by byte -/

/-- A complete frame does not see what its receiver had gathered, which is given up in every case. -/
theorem completeFrame_setReceiver (p : Port) (f : Frame) (r : Receiver) (s : State) :
    completeFrame p f (s.setReceiver p r) = completeFrame p f s := by
  cases p with
  | field =>
    simp only [completeFrame, fieldFrame, badFrame_setReceiver, goodFrame_setReceiver]
  | controller =>
    simp only [completeFrame, controllerFrame, requestArrives, badFrame_setReceiver, goodFrame_setReceiver]
    rfl

theorem State.refresh_setReceiver (s : State) (p : Port) (r : Receiver) :
    (s.setReceiver p r).refresh = s.refresh.setReceiver p r := by cases p <;> rfl

theorem State.setReceiver_twice (s : State) (p : Port) (q r : Receiver) :
    (s.setReceiver p q).setReceiver p r = s.setReceiver p r := by cases p <;> rfl

/-- A byte that a settled part's receiver goes on with moves the receiver alone. -/
theorem feed_cons_assembling {p : Port} {b : Byte} {q r : Receiver} {s : State} (bs : List Byte) (hs : s.settled)
    (h : q.take b false = .assembling r) :
    feed p (b :: bs) (s.setReceiver p q) = feed p bs (s.setReceiver p r) := by
  rw [feed, exec_byteArrival_eq, byteError_parityBit, State.receiver_setReceiver, if_pos rfl, h, byteOutcome]
  dsimp only
  rw [State.setReceiver_twice, State.refresh_setReceiver, hs]

/-- The receiver within a frame: KIND and LEN are taken, and so is the front of the payload. -/
def Receiver.within (kind : Byte) (len : Nat) (taken : List Byte) (crc : Byte) (remaining : Nat) : Receiver :=
  { state := if remaining = 0 then .check else .payload, kind, len, payload := taken, crc, remaining }

theorem Receiver.within_take (kind : Byte) (len : Nat) (taken : List Byte) (crc b : Byte) (n : Nat) :
    (Receiver.within kind len taken crc (n + 1)).take b false =
      .assembling (Receiver.within kind len (taken ++ [b]) (crcByte crc b) n) := by
  by_cases hn : n = 0 <;> simp [Receiver.take, Receiver.within, hn]

/-- The rest of the payload and its CHECK complete the frame. -/
theorem feed_payload (p : Port) (kind : Byte) (len : Nat) {s : State} (hs : s.settled) (rest taken : List Byte)
    (crc : Byte) :
    feed p (rest ++ [rest.foldl crcByte crc]) (s.setReceiver p (.within kind len taken crc rest.length)) =
      exec (frameCommand p ⟨kind, taken ++ rest⟩) s := by
  induction rest generalizing taken crc with
  | nil =>
    have hcheck : (Receiver.within kind len taken crc 0).take crc false = .frame ⟨kind, taken⟩ := by
      simp [Receiver.take, Receiver.within]
    rw [List.append_nil, List.nil_append, List.foldl_nil, List.length_nil, feed, exec_byteArrival_eq,
      byteError_parityBit, State.receiver_setReceiver, if_pos rfl, hcheck, byteOutcome,
      exec_frameCommand, completeFrame_setReceiver, exec_frameCommand]
    rfl
  | cons b bs ih =>
    rw [List.cons_append, List.length_cons, List.foldl_cons,
      feed_cons_assembling _ hs (Receiver.within_take kind len taken crc b bs.length), ih, List.append_assoc]
    rfl

/-- From HUNT, SYNC with KIND and LEN in turn lead into the payload. -/
theorem feed_head {p : Port} {kind : Byte} {n : Nat} {s : State} (bytes : List Byte) (hs : s.settled)
    (hidle : s.receiver p = .idle) (hn : n ≤ 32) :
    feed p (0xC5#8 :: kind :: byteOf n :: bytes) s =
      feed p bytes (s.setReceiver p (.within kind n [] (crcByte (crcByte 0xFF#8 kind) (byteOf n)) n)) := by
  have hlen : (byteOf n).toNat = n := by rw [byteOf, BitVec.toNat_ofNat]; omega
  have hsync : Receiver.idle.take 0xC5#8 false = .assembling ⟨.kind, 0, 0, [], 0xFF, 0⟩ := by decide
  have hkind : (⟨.kind, 0, 0, [], 0xFF, 0⟩ : Receiver).take kind false =
      .assembling ⟨.len, kind, 0, [], crcByte 0xFF#8 kind, 0⟩ := rfl
  have hlast : (⟨.len, kind, 0, [], crcByte 0xFF#8 kind, 0⟩ : Receiver).take (byteOf n) false =
      .assembling (.within kind n [] (crcByte (crcByte 0xFF#8 kind) (byteOf n)) n) := by
    simp [Receiver.take, Receiver.within, hlen, hn]
  rw [← State.setReceiver_receiver s p, hidle, feed_cons_assembling _ hs hsync, feed_cons_assembling _ hs hkind,
    feed_cons_assembling _ hs hlast, State.setReceiver_twice]

/-- Settles O11: SYNC, KIND and LEN lead into the payload, whose bytes and CHECK complete the frame. -/
theorem receivedBytesAreTheFrameCommand : Obligations.ReceivedBytesAreTheFrameCommand := by
  refine ⟨fun kind payload => ?_, fun b => (evenParity_iff b _).mp (evenParity_parityBit b),
    fun p f s hlen hidle hs => ?_⟩
  · simp only [← crcByte_eq]
    rfl
  · rw [lineBytes, feed_head _ hs hidle hlen]
    exact feed_payload p f.kind f.payload.length hs f.payload [] _

end Sys2Proof.Machine

/-! # The keepalive window and the tenth (01 R10 to R12; 02 R24)

`MovesPhase` is the frame of what the walker, the drum, the cycle controller, the estimator and the report timer do at a
tenth short of an arising: no condition, no record and no keepalive window moves. -/

namespace Sys2Proof.Machine

/-! ### The frame of a block's work at a tenth without a record change -/

/-- Only the motion, the walk, the cycle, the commanded level, the estimator's streak and ring, the effective action,
the upstream block and the transmitter may move. -/
def MovesPhase (s t : State) : Prop :=
  t = { s with
        links := { s.links with controllerTx := t.links.controllerTx }
        heater :=
          { s.heater with
            commanded := t.heater.commanded, h1Switch := t.heater.h1Switch, h2Switch := t.heater.h2Switch }
        moisture :=
          { s.moisture with lowest := t.moisture.lowest, streak := t.moisture.streak, ring := t.moisture.ring }
        drum := t.drum
        walker := t.walker
        cycle := t.cycle
        faults := { s.faults with effective := t.faults.effective }
        upstream := t.upstream
        aux :=
          { s.aux with segFresh := t.aux.segFresh, deferred := t.aux.deferred, freeCount := t.aux.freeCount } }

theorem MovesPhase.refl (s : State) : MovesPhase s s := rfl

theorem MovesPhase.trans {s t u : State} (h : MovesPhase s t) (k : MovesPhase t u) : MovesPhase s u := by
  unfold MovesPhase at *; rw [k, h]

theorem MovesUpstream.phase {s t : State} (h : MovesUpstream s t) : MovesPhase s t := by
  unfold MovesUpstream at h; unfold MovesPhase; rw [h]

theorem MovesAction.phase {s t : State} (h : MovesAction s t) : MovesPhase s t := by
  unfold MovesAction at h; unfold MovesPhase; rw [h]

theorem MovesDrum.phase {s t : State} (h : MovesDrum s t) : MovesPhase s t := h.action.phase

theorem MovesPhase.present {s t : State} (h : MovesPhase s t) (x : Source) : t.present x = s.present x := by
  rw [h]; rfl

theorem MovesPhase.keepalive {s t : State} (h : MovesPhase s t) : t.links.keepalive = s.links.keepalive := by rw [h]

theorem setCycle_movesPhase (s : State) (c : Cycle) : MovesPhase s (s.setCycle c) := rfl

theorem setDrum_movesPhase (s : State) (d : Drum) : MovesPhase s (s.setDrum d) := rfl

theorem setWalker_movesPhase (s : State) (w : Walker) : MovesPhase s (s.setWalker w) := rfl

theorem raiseEvent_movesPhase (k : EventKind) (a : Nat) (s : State) : MovesPhase s (raiseEvent k a s) :=
  (raiseEvent_moves k a s).phase

theorem forceReduction_movesPhase (s : State) : MovesPhase s (forceReduction s) := (forceReduction_moves s).drum.phase

theorem cycleTo_movesPhase (c : CycleState) (s : State) : MovesPhase s (cycleTo c s) := (cycleTo_moves c s).phase

theorem reselect_movesPhase (n : Bool) (s : State) : MovesPhase s (reselect n s) := (reselect_moves n s).phase

/-! ### Each block's work at a tenth in that frame -/

theorem beginPhase_movesPhase (p : Nat) (r : PhaseRecord) (s : State) : MovesPhase s (beginPhase p r s) := by
  unfold beginPhase
  dsimp only
  refine MovesPhase.trans ?_ (reselect_movesPhase _ _)
  refine MovesPhase.trans ?_ (forceReduction_movesPhase _)
  refine MovesPhase.trans ?_ (raiseEvent_movesPhase _ _ _)
  refine MovesPhase.trans ?_ (walkerPhaseBegin_moves _ _).drum.phase
  exact rfl

theorem completeCycle_movesPhase (s : State) : MovesPhase s (completeCycle s) :=
  (cycleTo_movesPhase _ s).trans (raiseEvent_movesPhase _ _ _)

theorem endPhase_movesPhase (e : EndReason) (s : State) : MovesPhase s (endPhase e s) := by
  have hmark : MovesPhase s (raiseEvent .phaseEnd e.code (s.setCycle (markEnd e s.cycle))) :=
    (setCycle_movesPhase s _).trans (raiseEvent_movesPhase _ _ _)
  unfold endPhase
  dsimp only
  split
  · exact hmark.trans (beginPhase_movesPhase _ _ _)
  · exact hmark.trans (completeCycle_movesPhase _)

theorem endCooldown_movesPhase (s : State) : MovesPhase s (endCooldown s) :=
  ((raiseEvent_movesPhase _ _ s).trans (cycleTo_movesPhase _ _)).trans (raiseEvent_movesPhase _ _ _)

theorem activeSecond_movesPhase (s : State) : MovesPhase s (activeSecond s) := by
  unfold activeSecond
  split
  · exact setCycle_movesPhase s _
  · exact (setCycle_movesPhase s _).trans (endPhase_movesPhase _ _)

theorem cooldownSecond_movesPhase (s : State) : MovesPhase s (cooldownSecond s) := by
  unfold cooldownSecond
  dsimp only
  split
  · exact (setCycle_movesPhase s _).trans (endCooldown_movesPhase _)
  · exact setCycle_movesPhase s _

theorem cycleTenth_movesPhase (second : Bool) (s : State) : MovesPhase s (cycleTenth second s) := by
  unfold cycleTenth
  split
  · exact setCycle_movesPhase s _
  · split
    · exact activeSecond_movesPhase s
    · exact .refl s
  · split
    · exact cooldownSecond_movesPhase s
    · exact .refl s
  · exact .refl s
  · exact .refl s

theorem notePersist_movesPhase (s : State) : MovesPhase s (notePersist s) := by
  unfold notePersist
  split
  · exact ((setWalker_movesPhase s _).trans (raiseEvent_movesPhase _ _ _)).trans (forceReduction_movesPhase _)
  · exact .refl s

theorem judgeSecond_movesPhase (s : State) : MovesPhase s (judgeSecond s) := by
  unfold judgeSecond
  dsimp only
  refine MovesPhase.trans ?_ (setDrum_movesPhase _ _)
  split
  · exact ((setWalker_movesPhase s _).trans (raiseEvent_movesPhase _ _ _)).trans (notePersist_movesPhase _)
  · exact setWalker_movesPhase s _

theorem walkerCount_movesPhase (s : State) : MovesPhase s (walkerCount s) := by
  have hcount : MovesPhase s (countTurning s) := by
    unfold countTurning
    split
    · exact setWalker_movesPhase s _
    · exact .refl s
  unfold walkerCount
  dsimp only
  split
  · exact (hcount.trans (endTangled_moves _).drum.phase).trans (reselect_movesPhase _ _)
  · split
    · exact (hcount.trans (advanceWalker_moves _).drum.phase).trans (reselect_movesPhase _ _)
    · exact hcount

theorem walkerTenth_movesPhase (second : Bool) (s : State) : MovesPhase s (walkerTenth second s) := by
  unfold walkerTenth
  refine MovesPhase.trans ?_ (walkerCount_movesPhase _)
  split
  · exact judgeSecond_movesPhase s
  · exact .refl s

theorem reportSecond_movesPhase (s : State) : MovesPhase s (reportSecond s) := by
  unfold reportSecond
  split
  · exact .refl s
  · split
    · exact (setUpstream_moves s _).phase
    · have hset : MovesPhase s ((s.setUpstream { s.upstream with reportTimer := 0 }).setAux
          { s.aux with freeCount := s.aux.freeCount + 2 }) := rfl
      exact hset.trans (joinQueue_moves _ _).phase

/-! ### What no block at a tenth moves -/

/-- The fields that a whole tenth keeps beyond `MovesBlocks`: the heater's wanted level, last upward step and contact
runs, and the estimator's sample counts. -/
structure KeepsSampleValues (s t : State) : Prop where
  wanted   : t.heater.wanted = s.heater.wanted
  lastUp   : t.heater.lastUp = s.heater.lastUp
  h1       : t.heater.h1 = s.heater.h1
  h2       : t.heater.h2 = s.heater.h2
  w16      : t.moisture.w16 = s.moisture.w16
  allShort : t.moisture.allShort = s.moisture.allShort
  hits     : t.moisture.hits = s.moisture.hits

theorem KeepsSampleValues.refl (s : State) : KeepsSampleValues s s := ⟨rfl, rfl, rfl, rfl, rfl, rfl, rfl⟩

theorem KeepsSampleValues.trans {s t u : State} (h : KeepsSampleValues s t) (k : KeepsSampleValues t u) :
    KeepsSampleValues s u :=
  ⟨k.wanted.trans h.wanted, k.lastUp.trans h.lastUp, k.h1.trans h.h1, k.h2.trans h.h2, k.w16.trans h.w16,
    k.allShort.trans h.allShort, k.hits.trans h.hits⟩

theorem MovesPhase.keepsSampleValues {s t : State} (h : MovesPhase s t) : KeepsSampleValues s t := by
  constructor <;> rw [h]

theorem MovesRecord.keepsSampleValues {s t : State} (h : MovesRecord s t) : KeepsSampleValues s t := by
  constructor <;> rw [h]

theorem setLinks_keepsSampleValues (s : State) (b : Links) : KeepsSampleValues s (s.setLinks b) :=
  ⟨rfl, rfl, rfl, rfl, rfl, rfl, rfl⟩

theorem dropChoice_keepsSampleValues (s : State) : KeepsSampleValues s s.dropChoice :=
  ⟨rfl, rfl, rfl, rfl, rfl, rfl, rfl⟩

/-- What the work of a block other than the keepalive timer leaves: the window, and a present KEEPALIVE condition. -/
def KeepsBreach (s t : State) : Prop :=
  t.links.keepalive = s.links.keepalive ∧ t.present .keepalive = s.present .keepalive

theorem MovesPhase.keepsBreach {s t : State} (h : MovesPhase s t) : KeepsBreach s t :=
  ⟨h.keepalive, h.present _⟩

/-- The drum's work at a tenth is in the frame, or is the arising of one of its two conditions after a mark. -/
theorem drumTenth_cases (s : State) :
    MovesPhase s (drumTenth s) ∨
      ∃ x d, (x = .motorStall ∨ x = .drumOverrun) ∧ drumTenth s = arise x (s.setDrum d) := by
  unfold drumTenth
  split
  · exact .inr ⟨_, _, .inl rfl, rfl⟩
  · split
    · exact .inr ⟨_, _, .inr rfl, rfl⟩
    · split
      · exact .inl (endDwell_moves s).phase
      · exact .inl (.refl s)

theorem drumTenth_keepsSampleValues (s : State) : KeepsSampleValues s (drumTenth s) := by
  obtain hphase | ⟨x, d, -, heq⟩ := drumTenth_cases s
  · exact hphase.keepsSampleValues
  · rw [heq]
    exact (setDrum_movesPhase s d).keepsSampleValues.trans (arise_moves x _).keepsSampleValues

theorem drumTenth_keepsBreach (s : State) : KeepsBreach s (drumTenth s) := by
  obtain hphase | ⟨x, d, hx, heq⟩ := drumTenth_cases s
  · exact hphase.keepsBreach
  · have hne : x ≠ .keepalive := by rcases hx with rfl | rfl <;> decide
    rw [heq]
    exact ⟨by simp, by simp [hne]⟩

theorem keepaliveTenth_keepsSampleValues (s : State) : KeepsSampleValues s (keepaliveTenth s) := by
  unfold keepaliveTenth
  split
  · exact (setLinks_keepsSampleValues s _).trans (arise_moves _ _).keepsSampleValues
  · split
    · exact setLinks_keepsSampleValues s _
    · exact .refl s

/-- A block other than the keepalive timer and the drum works within the frame. -/
theorem tenthBlock_movesPhase {b : TenthBlock} (hk : b ≠ .keepalive) (hd : b ≠ .drum) (second : Bool) (s : State) :
    MovesPhase s (tenthBlock second b s) := by
  have hif : ∀ t, MovesPhase s t → MovesPhase s (if second then t else s) := fun t ht => by
    split
    · exact ht
    · exact .refl s
  cases b with
  | keepalive => exact absurd rfl hk
  | drum => exact absurd rfl hd
  | moisture => exact hif _ rfl
  | walker => exact walkerTenth_movesPhase second s
  | cycle => exact cycleTenth_movesPhase second s
  | report => exact hif _ (reportSecond_movesPhase s)

theorem tenthBlock_keepsSampleValues (second : Bool) (b : TenthBlock) (s : State) :
    KeepsSampleValues s (tenthBlock second b s) := by
  by_cases hk : b = .keepalive
  · subst hk; exact keepaliveTenth_keepsSampleValues s
  · by_cases hd : b = .drum
    · subst hd; exact drumTenth_keepsSampleValues s
    · exact (tenthBlock_movesPhase hk hd second s).keepsSampleValues

theorem tenthBlock_keepsBreach {b : TenthBlock} (hk : b ≠ .keepalive) (second : Bool) (s : State) :
    KeepsBreach s (tenthBlock second b s) := by
  by_cases hd : b = .drum
  · subst hd; exact drumTenth_keepsBreach s
  · exact (tenthBlock_movesPhase hk hd second s).keepsBreach

theorem tenthBlocks_keepsSampleValues (second : Bool) (order : List TenthBlock) (s : State) :
    KeepsSampleValues s (tenthBlocks second order s) := by
  unfold tenthBlocks
  induction order generalizing s with
  | nil => exact .refl s
  | cons b bs ih => exact (tenthBlock_keepsSampleValues second b s).trans (ih _)

theorem tenthBlocks_keepsBreach {order : List TenthBlock} (hk : .keepalive ∉ order) (second : Bool) (s : State) :
    KeepsBreach s (tenthBlocks second order s) := by
  unfold tenthBlocks
  induction order generalizing s with
  | nil => exact ⟨rfl, rfl⟩
  | cons b bs ih =>
    rw [List.mem_cons, not_or] at hk
    have hb := tenthBlock_keepsBreach (Ne.symm hk.1) second s
    have hbs := ih hk.2 (tenthBlock second b s)
    exact ⟨hbs.1.trans hb.1, hbs.2.trans hb.2⟩

/-! ### A whole tenth (02 R24) -/

/-- A tenth begins by the time base and the drum's count alone. -/
theorem beginTenth_eq (s : State) :
    beginTenth s =
      ((s.setPath s.pathAfterTenth).setAux { s.aux with segFresh := false }).setDrum (beginTenth s).drum := by
  unfold beginTenth countTenth
  split
  · rfl
  · rfl
  · split <;> rfl
  · rfl
  · rfl

theorem beginTenth_keepsSampleValues (s : State) : KeepsSampleValues s (beginTenth s) := by
  constructor <;> rw [beginTenth_eq] <;> rfl

@[simp] theorem beginTenth_links (s : State) : (beginTenth s).links = s.links := by rw [beginTenth_eq]; rfl

@[simp] theorem beginTenth_param (s : State) (p : Param) : (beginTenth s).param p = s.param p := by
  rw [beginTenth_eq]; rfl

/-- A whole tenth leaves what the law of a tenth names, in every order of the blocks. -/
theorem runTenth_tenthFrame (first : List TenthBlock) (s : State) : s.tenthFrame (runTenth first s) := by
  have hbegin := (dropChoice_keepsSampleValues s).trans (beginTenth_keepsSampleValues s.dropChoice)
  have hvalues := hbegin.trans (tenthBlocks_keepsSampleValues s.secondNext
    (fillOrder TenthBlock.all (first ++ s.choice.tenth)) (beginTenth s.dropChoice))
  have hblocks := tenthBlocks_moves s.secondNext (fillOrder TenthBlock.all (first ++ s.choice.tenth))
    (beginTenth s.dropChoice)
  change KeepsSampleValues s (runTenth first s) at hvalues
  change MovesBlocks (beginTenth s.dropChoice) (runTenth first s) at hblocks
  rw [beginTenth_eq] at hblocks
  refine ⟨?_, ?_, ?_, ?_, ?_, hvalues.wanted, hvalues.lastUp, ?_, ?_, hvalues.h1, hvalues.h2, hvalues.w16,
    hvalues.allShort, hvalues.hits⟩ <;> rw [hblocks] <;> rfl

theorem lateDue_iff (s : State) :
    s.lateDue = true ↔
      s.links.keepalive.running = true ∧ s.param .keepaliveUpper ≤ s.links.keepalive.timer + 1 := by
  simp [State.lateDue]

theorem beginTenth_lateDue (s : State) : (beginTenth s).lateDue = s.lateDue := by
  simp only [State.lateDue, beginTenth_links, beginTenth_param]

/-- At a tenth whose first block is a due keepalive timer, the window ends with cause LATE. -/
theorem runTenth_lateBreach {s : State} (h : s.lateDue = true) :
    (runTenth [.keepalive] s).links.keepalive = ⟨s.param .keepaliveUpper, false, .late⟩ ∧
    (runTenth [.keepalive] s).present .keepalive = true := by
  obtain ⟨rest, hrest, hnot, -, -⟩ := fillOrder_cons nodup_tenthBlocks .keepalive s.choice.tenth
  have hrun : runTenth [.keepalive] s =
      tenthBlocks s.secondNext rest (keepaliveTenth (beginTenth s.dropChoice)) := by
    unfold runTenth
    rw [List.cons_append, List.nil_append, hrest]
    rfl
  have hdue : (beginTenth s.dropChoice).lateDue = true := (beginTenth_lateDue s.dropChoice).trans h
  obtain ⟨hwindow, hpresent⟩ :=
    tenthBlocks_keepsBreach hnot s.secondNext (keepaliveTenth (beginTenth s.dropChoice))
  rw [hrun, hwindow, hpresent, keepaliveTenth, if_pos hdue]
  refine ⟨?_, ?_⟩
  · rw [arise_keepalive, State.setKeepalive_keepalive, beginTenth_param]
    rfl
  · simp

/-! ### A KEEPALIVE frame (01 R6, R10, R11) -/

theorem exec_keepalive (s : State) :
    exec .keepalive s = .next (keepaliveArrives (goodFrame .controller s)).refresh := rfl

theorem exec_lateBreach (s : State) :
    exec .lateBreach s = .next (if s.lateDue then runTenth [.keepalive] s else s).refresh := by
  have hexec : exec .lateBreach s = done (dueTenth (beginTenth s).lateDue .keepalive s) := rfl
  rw [hexec, beginTenth_lateDue]
  rfl

/-- What a restarting frame leaves: the window restarted, with the cause NONE and the condition gone within it. -/
theorem restartWindow_window (s : State) :
    ((restartWindow s).links.keepalive, (restartWindow s).present .keepalive) =
      if s.withinWindow = true then (⟨0, true, .none⟩, false)
      else (⟨0, true, s.links.keepalive.cause⟩, s.present .keepalive) := by
  unfold restartWindow
  split <;> simp

theorem keepaliveArrives_window (s : State) :
    ((keepaliveArrives s).links.keepalive, (keepaliveArrives s).present .keepalive) =
      if s.param .keepaliveUpper = 0 then (s.links.keepalive, s.present .keepalive)
      else if s.links.keepalive.timer < s.param .keepaliveLower then (⟨0, true, .early⟩, true)
      else if s.links.keepalive.running = true ∧ s.links.keepalive.timer < s.param .keepaliveUpper then
        (⟨0, true, .none⟩, false)
      else (⟨0, true, s.links.keepalive.cause⟩, s.present .keepalive) := by
  unfold keepaliveArrives
  split
  · rfl
  · split
    · simp
    next hlower =>
      have hwithin : s.withinWindow = true ↔
          s.links.keepalive.running = true ∧ s.links.keepalive.timer < s.param .keepaliveUpper := by
        simp [State.withinWindow, not_lt.mp hlower]
      rw [restartWindow_window]
      simp only [hwithin]

/-- A restarting frame moves the window, and beyond it what a going moves. -/
theorem restartWindow_moves (s : State) : ∃ k, MovesRecord (s.setKeepalive k) (restartWindow s) := by
  unfold restartWindow
  split
  · exact ⟨_, goAway_moves _ _⟩
  · exact ⟨_, .refl _⟩

theorem keepaliveArrives_moves (s : State) : ∃ k, MovesRecord (s.setKeepalive k) (keepaliveArrives s) := by
  unfold keepaliveArrives
  split
  · exact ⟨s.links.keepalive, .refl s⟩
  · split
    · exact ⟨_, arise_moves _ _⟩
    · exact restartWindow_moves s

theorem restartWindow_present {x : Source} (hx : x ≠ .keepalive) (s : State) :
    (restartWindow s).present x = s.present x := by
  unfold restartWindow
  split <;> simp [Ne.symm hx]

theorem keepaliveArrives_present {x : Source} (hx : x ≠ .keepalive) (s : State) :
    (keepaliveArrives s).present x = s.present x := by
  unfold keepaliveArrives
  split
  · rfl
  · split
    · simp [Ne.symm hx]
    · exact restartWindow_present hx s

/-- Settles O12: the frame is a good frame before it acts on the window, and a breach is the due tenth of the keepalive
timer taken first. -/
theorem keepaliveFramesAndBreachesMoveTheWindow : Obligations.KeepaliveFramesAndBreachesMoveTheWindow := by
  intro s
  refine ⟨⟨_, exec_keepalive s, ?_⟩, fun hrunning hupper => ⟨_, exec_lateBreach s, ?_⟩, fun hnot => ?_⟩
  · obtain ⟨k, hmoves⟩ := keepaliveArrives_moves (goodFrame .controller s)
    refine ⟨?_, ?_, ?_, ?_, ?_⟩
    · rw [State.refresh_links, hmoves.receiveQueue]
      exact goodFrame_receiveQueue .controller s
    · rw [State.refresh_badCount, hmoves.badCount]
      simp
    · rw [State.refresh_receiver, hmoves.receiver]
      simp
    · rw [State.refresh_present, keepaliveArrives_present (by decide), goodFrame_present]
      simp [Port.source]
    · rw [State.refresh_links, State.refresh_present, keepaliveArrives_window]
      simp [goodFrame_present, Port.source]
  · have hdue := (lateDue_iff s).mpr ⟨hrunning, hupper⟩
    rw [if_pos hdue]
    obtain ⟨hwindow, hpresent⟩ := runTenth_lateBreach hdue
    exact ⟨hwindow, hpresent, runTenth_tenthFrame _ s⟩
  · have hnotDue : ¬ s.lateDue = true := by
      rw [lateDue_iff]
      rintro ⟨hrunning, hupper⟩
      rcases hnot with h | h
      · simp [hrunning] at h
      · omega
    rw [exec_lateBreach, if_neg hnotDue]

end Sys2Proof.Machine

/-! # The upstream queue, the transmitter, and what an operation that tells events does to them (01 R9; 11 R181, R182)

`Talks s t` says once what every event-raising operation keeps of the upstream queue and the transmitter: room for a
response, the kept frames while the transmitter is busy, and everything while nothing can move. -/

namespace Sys2Proof.Machine

/-! ### The queue (11 R181) -/

theorem keptCount_append (p q : List UpFrame) : keptCount (p ++ q) = keptCount p + keptCount q := by
  simp [keptCount]

theorem keptCount_le_length (q : List UpFrame) : keptCount q ≤ q.length := List.length_filter_le _ _

theorem hasDisplaceable_iff (q : List UpFrame) : hasDisplaceable q = true ↔ keptCount q < q.length := by
  rw [hasDisplaceable, List.any_eq_true, keptCount, List.length_filter_lt_length_iff_exists]
  simp

/-- The removal of the oldest displaceable frame leaves the kept frames, and makes the queue one shorter. -/
theorem removeOldest_filter (q : List UpFrame) :
    (removeOldest q).filter (fun f => !f.displaceable) = q.filter fun f => !f.displaceable := by
  induction q with
  | nil => rfl
  | cons f fs ih => cases h : f.displaceable <;> simp [removeOldest, h, ih]

theorem removeOldest_length {q : List UpFrame} (h : hasDisplaceable q = true) :
    (removeOldest q).length + 1 = q.length := by
  induction q with
  | nil => exact absurd h (by decide)
  | cons f fs ih =>
    cases hf : f.displaceable with
    | true => simp [removeOldest, hf]
    | false =>
      have hfs : hasDisplaceable fs = true := by simpa [hasDisplaceable, hf] using h
      simp [removeOldest, hf, ih hfs]

theorem mem_removeOldest {f : UpFrame} {q : List UpFrame} (h : f ∈ q) (hf : f.displaceable = false) :
    f ∈ removeOldest q := by
  have hmem : f ∈ q.filter fun g => !g.displaceable := List.mem_filter.mpr ⟨h, by simp [hf]⟩
  rw [← removeOldest_filter] at hmem
  exact (List.mem_filter.mp hmem).1

/-- The queue has room for a kept frame: at most 16 frames, at most 15 of them kept. -/
def Upstream.hasRoom (u : Upstream) : Prop := u.queue.length ≤ queueCapacity ∧ keptCount u.queue ≤ 15

theorem Upstream.canAccept_iff (u : Upstream) :
    u.canAccept = true ↔ u.queue.length < queueCapacity ∨ hasDisplaceable u.queue = true := by
  simp [Upstream.canAccept]

/-- A queue of at most 16 frames has room exactly when it can accept a response. -/
theorem Upstream.hasRoom_iff (u : Upstream) :
    u.hasRoom ↔ u.canAccept = true ∧ u.queue.length ≤ queueCapacity := by
  have hle := keptCount_le_length u.queue
  rw [Upstream.canAccept_iff, hasDisplaceable_iff, Upstream.hasRoom, queueCapacity]
  omega

/-! ### A frame joins the tail -/

theorem joinTail_of_lt {f : UpFrame} {u : Upstream} (h : u.queue.length < queueCapacity) :
    joinTail f u = { u with queue := u.queue ++ [f] } := if_pos h

theorem joinTail_length_le (f : UpFrame) {u : Upstream} (h : u.queue.length ≤ queueCapacity) :
    (joinTail f u).queue.length ≤ queueCapacity := by
  unfold joinTail
  split
  next hlt => simpa using hlt
  next =>
    split
    next hd =>
      have hlen := removeOldest_length hd
      simp only [List.length_append, List.length_cons, List.length_nil]
      omega
    next => exact h

theorem mem_joinTail_of_kept {f g : UpFrame} {u : Upstream} (h : g ∈ u.queue) (hg : g.displaceable = false) :
    g ∈ (joinTail f u).queue := by
  unfold joinTail
  split
  · exact List.mem_append_left _ h
  · split
    · exact List.mem_append_left _ (mem_removeOldest h hg)
    · exact h

theorem mem_joinTail_self {f : UpFrame} {u : Upstream} (h : u.canAccept = true) : f ∈ (joinTail f u).queue := by
  rw [Upstream.canAccept_iff] at h
  unfold joinTail
  split
  · simp
  next hfull => simp [h.resolve_left hfull]

theorem joinTail_keptCount_le (f : UpFrame) (u : Upstream) :
    keptCount (joinTail f u).queue ≤ keptCount u.queue + 1 := by
  have hone : keptCount [f] ≤ 1 := keptCount_le_length [f]
  have hold : keptCount (removeOldest u.queue) = keptCount u.queue := by
    rw [keptCount, keptCount, removeOldest_filter]
  unfold joinTail
  split
  · rw [keptCount_append]; omega
  · split
    · rw [keptCount_append]; omega
    · exact Nat.le_succ _

/-! ### Entries move into the queue (11 R182) -/

/-- What a growth of the queue by events keeps: its kept frames, and room for a response. -/
structure Upstream.Grows (u v : Upstream) : Prop where
  kept : ∀ f ∈ u.queue, f.displaceable = false → f ∈ v.queue
  room : u.hasRoom → v.hasRoom

theorem Upstream.Grows.refl (u : Upstream) : u.Grows u := ⟨fun _ h _ => h, id⟩

theorem Upstream.Grows.trans {u v w : Upstream} (h : u.Grows v) (k : v.Grows w) : u.Grows w :=
  ⟨fun f hf hd => k.kept f (h.kept f hf hd) hd, k.room ∘ h.room⟩

/-- An equal queue is no growth at all. -/
theorem Upstream.Grows.of_queue {u v : Upstream} (h : v.queue = u.queue) : u.Grows v :=
  ⟨fun f hf _ => h ▸ hf, fun hroom => by rwa [Upstream.hasRoom, h]⟩

theorem joinTail_grows {f : UpFrame} {u : Upstream} (h : u.canMove = true) : u.Grows (joinTail f u) := by
  simp only [Upstream.canMove, Bool.and_eq_true, decide_eq_true_eq] at h
  have hkept := joinTail_keptCount_le f u
  exact ⟨fun g hg hd => mem_joinTail_of_kept hg hd,
    fun hroom => ⟨joinTail_length_le f hroom.1, by omega⟩⟩

theorem moveEntries_grows (es : List EventEntry) (u : Upstream) : u.Grows (moveEntries es u) := by
  induction es generalizing u with
  | nil => exact .of_queue rfl
  | cons e es ih =>
    unfold moveEntries
    split
    next hmove => exact (joinTail_grows hmove).trans (ih _)
    next => exact .of_queue rfl

/-- Entries stay where they are when no frame may move. -/
theorem moveEntries_of_not_canMove {u : Upstream} (h : u.canMove = false) (es : List EventEntry) :
    moveEntries es u = { u with events := es } := by
  cases es with
  | nil => rfl
  | cons e es => simp [moveEntries, h]

theorem canMove_of_not_canAccept {u : Upstream} (h : u.canAccept = false) : u.canMove = false := by
  simp [Upstream.canMove, h]

/-- With 15 kept frames, or more, no entry moves. -/
theorem canMove_of_kept {u : Upstream} (h : 15 ≤ keptCount u.queue) : u.canMove = false := by
  simp only [Upstream.canMove, Bool.and_eq_false_iff, decide_eq_false_iff_not]
  omega

/-! ### The transmitter (01 R9) -/

/-- No transmission can start: READY is low, or the transmitter is busy. -/
def State.lineBusy (s : State) : Prop := s.links.ready = false ∨ s.links.controllerTx ≠ none

theorem startTransmission_of_lineBusy {s : State} (h : s.lineBusy) : startTransmission s = s := by
  have hno : ¬(s.links.ready = true ∧ s.links.controllerTx = none) := by
    rintro ⟨hready, hnone⟩
    rcases h with h | h
    · simp [hready] at h
    · exact h hnone
  rw [startTransmission, if_neg hno]

theorem startTransmission_of_empty {s : State} (h : s.upstream.queue = []) : startTransmission s = s := by
  simp [startTransmission, h]

/-- The state in which the head frame has left the queue for the transmitter, before the move test. -/
def State.withHeadSent (s : State) (f : UpFrame) (rest : List UpFrame) : State :=
  (s.setUpstream { s.upstream with queue := rest }).setLinks
    { s.links with controllerTx := some (lineBytes f.kind.code f.payload) }

theorem startTransmission_of_cons {s : State} {f : UpFrame} {rest : List UpFrame} (hready : s.links.ready = true)
    (hidle : s.links.controllerTx = none) (hqueue : s.upstream.queue = f :: rest) :
    startTransmission s = moveEvents (s.withHeadSent f rest) := by
  simp only [startTransmission, hready, hidle, hqueue, and_self, if_true, State.withHeadSent]

/-- A transmission starts with a head frame, or nothing happens. -/
theorem startTransmission_cases (s : State) :
    startTransmission s = s ∨
      ∃ f rest, s.links.controllerTx = none ∧ s.links.ready = true ∧ s.upstream.queue = f :: rest ∧
        startTransmission s = moveEvents (s.withHeadSent f rest) := by
  by_cases hline : s.links.ready = true ∧ s.links.controllerTx = none
  · cases hqueue : s.upstream.queue with
    | nil => exact .inl (startTransmission_of_empty hqueue)
    | cons f rest =>
      exact .inr ⟨f, rest, hline.2, hline.1, rfl, startTransmission_of_cons hline.1 hline.2 hqueue⟩
  · exact .inl (if_neg hline)

/-! ### What an operation that tells events keeps -/

/-- What every operation that may raise events keeps of queue and transmitter: READY; while the transmitter is busy its
frame and the queue's kept frames; room for a response; and all of both while no frame can join and none can leave. -/
structure Talks (s t : State) : Prop where
  ready   : t.links.ready = s.links.ready
  busy    : s.links.controllerTx ≠ none → t.links.controllerTx = s.links.controllerTx
  kept    : s.links.controllerTx ≠ none → ∀ f ∈ s.upstream.queue, f.displaceable = false → f ∈ t.upstream.queue
  room    : s.upstream.hasRoom → t.upstream.hasRoom
  blocked : s.upstream.canAccept = false → s.lineBusy →
    t.upstream.queue = s.upstream.queue ∧ t.links.controllerTx = s.links.controllerTx

/-- An operation that leaves the queue, READY and the transmitter tells nothing. -/
theorem Talks.of_same {s t : State} (hqueue : t.upstream.queue = s.upstream.queue)
    (hready : t.links.ready = s.links.ready) (htx : t.links.controllerTx = s.links.controllerTx) : Talks s t where
  ready := hready
  busy _ := htx
  kept _ _ hf _ := hqueue ▸ hf
  room hroom := by rwa [Upstream.hasRoom, hqueue]
  blocked _ _ := ⟨hqueue, htx⟩

theorem Talks.refl (s : State) : Talks s s := .of_same rfl rfl rfl

theorem Talks.trans {s t u : State} (h : Talks s t) (k : Talks t u) : Talks s u where
  ready := k.ready.trans h.ready
  busy hbusy := (k.busy (by rwa [h.busy hbusy])).trans (h.busy hbusy)
  kept hbusy f hf hd := k.kept (by rwa [h.busy hbusy]) f (h.kept hbusy f hf hd) hd
  room hroom := k.room (h.room hroom)
  blocked hfull hline := by
    obtain ⟨hqueue, htx⟩ := h.blocked hfull hline
    have hfull' : t.upstream.canAccept = false := by rwa [Upstream.canAccept, hqueue]
    have hline' : t.lineBusy := by rwa [State.lineBusy, h.ready, htx]
    obtain ⟨hqueue', htx'⟩ := k.blocked hfull' hline'
    exact ⟨hqueue'.trans hqueue, htx'.trans htx⟩

theorem MovesAction.talks {s t : State} (h : MovesAction s t) : Talks s t :=
  .of_same (by rw [h]) (by rw [h]) (by rw [h])

theorem MovesDrum.talks {s t : State} (h : MovesDrum s t) : Talks s t := h.action.talks

theorem moveEvents_talks (s : State) : Talks s (moveEvents s) where
  ready := rfl
  busy _ := rfl
  kept _ := (moveEntries_grows s.upstream.events s.upstream).kept
  room := (moveEntries_grows s.upstream.events s.upstream).room
  blocked hfull _ := by
    rw [moveEvents, moveEntries_of_not_canMove (canMove_of_not_canAccept hfull)]
    exact ⟨rfl, rfl⟩

/-- Room is kept where the head leaves. -/
theorem Upstream.hasRoom_tail {u v : Upstream} {f : UpFrame} (hu : u.queue = f :: v.queue) (h : u.hasRoom) :
    v.hasRoom := by
  have hkept : keptCount v.queue ≤ keptCount u.queue := by
    rw [hu, ← List.singleton_append, keptCount_append]
    omega
  have hlen : v.queue.length + 1 = u.queue.length := by rw [hu]; rfl
  exact ⟨by have := h.1; omega, hkept.trans h.2⟩

theorem startTransmission_talks (s : State) : Talks s (startTransmission s) := by
  obtain hsame | ⟨f, rest, hidle, hready, hqueue, hstart⟩ := startTransmission_cases s
  · rw [hsame]; exact .refl s
  · have hmove := moveEvents_talks (s.withHeadSent f rest)
    rw [hstart]
    exact
      { ready := hmove.ready
        busy := fun hbusy => absurd hidle hbusy
        kept := fun hbusy => absurd hidle hbusy
        room := fun hroom => hmove.room (Upstream.hasRoom_tail (v := { s.upstream with queue := rest }) hqueue hroom)
        blocked := fun _ hline => by
          rcases hline with h | h
          · simp [hready] at h
          · exact absurd hidle h }

theorem raiseEvent_talks (k : EventKind) (a : Nat) (s : State) : Talks s (raiseEvent k a s) := by
  have hlist : Talks s (s.setUpstream { s.upstream with events := addEvent k a s.upstream.events }) :=
    .of_same rfl rfl rfl
  exact (hlist.trans (moveEvents_talks _)).trans (startTransmission_talks _)

theorem emptyRingFor_talks (x : Source) (s : State) : Talks s (emptyRingFor x s) := by
  unfold emptyRingFor
  split
  · exact .of_same rfl rfl rfl
  · exact .refl s

theorem setRecord_talks (s : State) (x : Source) (r : FaultRecord) : Talks s (s.setRecord x r) := .of_same rfl rfl rfl

theorem setPresent_talks (s : State) (x : Source) (b : Bool) : Talks s (s.setPresent x b) := .of_same rfl rfl rfl

theorem arise_talks (x : Source) (s : State) : Talks s (arise x s) := by
  unfold arise
  split
  · exact .refl s
  · exact ((((setPresent_talks s x true).trans (emptyRingFor_talks x _)).trans (setRecord_talks _ x _)).trans
      (raiseEvent_talks _ _ _)).trans (workOutAction_moves _).talks

theorem goAway_talks (x : Source) (s : State) : Talks s (goAway x s) := by
  unfold goAway
  split
  · dsimp only
    have hgone := setPresent_talks s x false
    split
    · split
      · exact (hgone.trans (setRecord_talks _ x _)).trans (workOutAction_moves _).talks
      · exact ((hgone.trans (setRecord_talks _ x _)).trans (raiseEvent_talks _ _ _)).trans (workOutAction_moves _).talks
    · exact hgone
  · exact .refl s

theorem goodFrame_talks (p : Port) (s : State) : Talks s (goodFrame p s) := by
  have hport : Talks s (s.portAfter p (s.badCount p - 1)) := .of_same (by simp) (by simp) (by simp)
  rw [goodFrame_eq]
  split
  · exact hport.trans (goAway_talks _ _)
  · exact hport

theorem setKeepalive_talks (s : State) (k : Keepalive) : Talks s (s.setKeepalive k) := .of_same rfl rfl rfl

theorem restartWindow_talks (s : State) : Talks s (restartWindow s) := by
  unfold restartWindow
  split
  · exact (setKeepalive_talks s _).trans (goAway_talks _ _)
  · exact setKeepalive_talks s _

theorem frameRestarts_talks (s : State) : Talks s (frameRestarts s) := by
  unfold frameRestarts
  split
  · exact .refl s
  · exact restartWindow_talks s

/-! ### A kept frame joins the queue -/

/-- While no transmission can start, a frame that joins moves the queue alone. -/
theorem joinQueue_of_lineBusy {s : State} (h : s.lineBusy) (f : UpFrame) :
    joinQueue f s = s.setUpstream (joinTail f s.upstream) := startTransmission_of_lineBusy h

/-- A kept frame that finds room stands in the queue, or has gone to the transmitter at once. -/
theorem mem_joinQueue {f : UpFrame} {s : State} (hroom : s.upstream.canAccept = true) (hf : f.displaceable = false) :
    f ∈ (joinQueue f s).upstream.queue ∨
      (joinQueue f s).links.controllerTx = some (lineBytes f.kind.code f.payload) := by
  have hjoined : f ∈ (joinTail f s.upstream).queue := mem_joinTail_self hroom
  unfold joinQueue
  obtain hsame | ⟨g, rest, -, -, hqueue, hstart⟩ :=
    startTransmission_cases (s.setUpstream (joinTail f s.upstream))
  · rw [hsame]
    exact .inl hjoined
  · rw [hstart]
    rw [State.setUpstream_upstream] at hqueue
    rw [hqueue, List.mem_cons] at hjoined
    obtain rfl | hrest := hjoined
    · exact .inr rfl
    · exact .inl ((moveEntries_grows _ _).kept f hrest hf)

end Sys2Proof.Machine

/-! # Requests: taken, handled, answered (01 R6; 10 R168, R169)

`Handles s t` says once what the action of a request keeps: what every event-raising operation keeps of queue and
transmitter, and the links but for the transmitter and the keepalive window. A write of LINK_ERR_LIMIT is the one
request that moves the bad-frame counters (01 R7), and stands apart. -/

namespace Sys2Proof.Machine

/-! ### What the action of a request keeps -/

/-- The links but for the transmitter and the keepalive window, and what `Talks` names. -/
structure Handles (s t : State) : Prop where
  talks : Talks s t
  links : t.links = { s.links with controllerTx := t.links.controllerTx, keepalive := t.links.keepalive }

theorem Handles.of_same {s t : State} (hlinks : t.links = s.links) (hqueue : t.upstream.queue = s.upstream.queue) :
    Handles s t :=
  ⟨.of_same hqueue (by rw [hlinks]) (by rw [hlinks]), by rw [hlinks]⟩

theorem Handles.refl (s : State) : Handles s s := .of_same rfl rfl

theorem Handles.trans {s t u : State} (h : Handles s t) (k : Handles t u) : Handles s u :=
  ⟨h.talks.trans k.talks, by rw [k.links, h.links]⟩

theorem Handles.receiveQueue {s t : State} (h : Handles s t) : t.links.receiveQueue = s.links.receiveQueue := by
  rw [h.links]

theorem Handles.receiver {s t : State} (h : Handles s t) (p : Port) : t.receiver p = s.receiver p := by
  cases p <;> simp only [State.receiver] <;> rw [h.links]

theorem Handles.badCount {s t : State} (h : Handles s t) (p : Port) : t.badCount p = s.badCount p := by
  cases p <;> simp only [State.badCount] <;> rw [h.links]

theorem MovesAction.handles {s t : State} (h : MovesAction s t) : Handles s t :=
  ⟨h.talks, by rw [h]⟩

theorem MovesDrum.handles {s t : State} (h : MovesDrum s t) : Handles s t := h.action.handles

theorem MovesRecord.handles {s t : State} (h : MovesRecord s t) (ht : Talks s t) : Handles s t :=
  ⟨ht, by rw [h]⟩

theorem raiseEvent_handles (k : EventKind) (a : Nat) (s : State) : Handles s (raiseEvent k a s) :=
  (raiseEvent_moves k a s).record.handles (raiseEvent_talks k a s)

theorem arise_handles (x : Source) (s : State) : Handles s (arise x s) :=
  (arise_moves x s).handles (arise_talks x s)

theorem goAway_handles (x : Source) (s : State) : Handles s (goAway x s) :=
  (goAway_moves x s).handles (goAway_talks x s)

theorem cycleTo_handles (c : CycleState) (s : State) : Handles s (cycleTo c s) := (cycleTo_moves c s).handles

theorem setCycle_handles (s : State) (c : Cycle) : Handles s (s.setCycle c) := .of_same rfl rfl

theorem setMoisture_handles (s : State) (m : Moisture) : Handles s (s.setMoisture m) := .of_same rfl rfl

theorem setTables_handles (s : State) (b : Tables) : Handles s (s.setTables b) := .of_same rfl rfl

theorem setFaults_handles (s : State) (b : Faults) : Handles s (s.setFaults b) := .of_same rfl rfl

theorem setParam_handles (s : State) (p : Param) (v : Nat) : Handles s (s.setParam p v) := .of_same rfl rfl

/-! ### Table writes -/

theorem keepaliveWritten_handles (s : State) : Handles s (keepaliveWritten s) := by
  have hset : ∀ k, Handles s (s.setKeepalive k) := fun k => ⟨setKeepalive_talks s k, rfl⟩
  exact (hset _).trans (goAway_handles _ _)

theorem applyShortLimit_handles (s : State) : Handles s (applyShortLimit s) := by
  unfold applyShortLimit
  dsimp only
  split
  · exact (setMoisture_handles s _).trans (arise_handles _ _)
  · exact setMoisture_handles s _

theorem paramWritten_handles {p : Param} (hp : p ≠ .linkErrLimit) (s : State) : Handles s (paramWritten p s) := by
  cases p with
  | linkErrLimit => exact absurd rfl hp
  | shortLimit => exact applyShortLimit_handles s
  | airflowSpeed => exact (forceReduction_moves s).drum.handles
  | coolSpeed => exact (reselect_moves false s).handles
  | keepaliveUpper => exact keepaliveWritten_handles s
  | keepaliveLower => exact keepaliveWritten_handles s
  | _ => exact .of_same rfl rfl

/-- A parameter that is not held apart from another is stored, and then acts. -/
theorem admitParam_of_free {p : Param} (hu : p ≠ .keepaliveUpper) (hl : p ≠ .keepaliveLower) (v : Nat) (s : State) :
    admitParam p v s =
      (paramWritten p (s.setParam p (storedParam p v)), .plain (.ofChanged (decide (storedParam p v ≠ v)))) := by
  cases p with
  | keepaliveUpper => exact absurd rfl hu
  | keepaliveLower => exact absurd rfl hl
  | _ => rfl

/-- Every CONFIG write stores values and then acts: what is stored is the parameter, or a bound held apart. -/
theorem admitParam_handles {p : Param} (hp : p ≠ .linkErrLimit) (v : Nat) (s : State) :
    Handles s (admitParam p v s).1 := by
  have hacts := paramWritten_handles hp
  by_cases hu : p = .keepaliveUpper
  · subst hu
    unfold admitParam
    dsimp only
    split
    · exact ((setParam_handles s _ _).trans (setParam_handles _ _ _)).trans (hacts _)
    · exact (setParam_handles s _ _).trans (hacts _)
  · by_cases hl : p = .keepaliveLower
    · subst hl
      unfold admitParam
      dsimp only
      split <;> exact (setParam_handles s _ _).trans (hacts _)
    · rw [admitParam_of_free hu hl]
      exact (setParam_handles s _ _).trans (hacts _)

theorem storeAction_handles (x : Source) (a : Action) (s : State) : Handles s (storeAction x a s) := by
  unfold storeAction
  split
  · exact .refl s
  · exact (setFaults_handles s _).trans (workOutAction_moves _).handles

theorem admitProgram_handles (i : Nat) (d : List Byte) (s : State) : Handles s (admitProgram i d s).1 := by
  unfold admitProgram
  split
  · exact .refl s
  · exact setTables_handles s _
  · exact setTables_handles s _

theorem admitPattern_handles (i : Nat) (d : List Byte) (s : State) : Handles s (admitPattern i d s).1 := by
  unfold admitPattern
  split
  · exact .refl s
  · exact setTables_handles s _
  · exact setTables_handles s _

theorem admitActions_handles (i : Nat) (d : List Byte) (s : State) : Handles s (admitActions i d s).1 := by
  unfold admitActions
  split
  · exact storeAction_handles _ _ s
  all_goals exact .refl s

/-- The write of one entry of any table, but of LINK_ERR_LIMIT. -/
theorem admitWrite_handles {tab : TableId} {i : Nat} (d : List Byte)
    (h : tab = .config → Param.ofIndex? i ≠ some .linkErrLimit) (s : State) : Handles s (admitWrite tab i d s).1 := by
  cases tab with
  | program => exact admitProgram_handles i d s
  | pattern => exact admitPattern_handles i d s
  | curve => exact setTables_handles s _
  | limits => exact setFaults_handles s _
  | actions => exact admitActions_handles i d s
  | config =>
    unfold admitWrite admitConfig
    dsimp only
    split
    · exact .refl s
    next p hp => exact admitParam_handles (fun e => h rfl (e ▸ hp)) _ s

/-- A TABLE_WRITE is refused by a check, or its entry is written. -/
theorem requestWrite_cases (p : List Byte) (s : State) :
    (∃ r, requestWrite p s = (s, .plain r)) ∨
      ∃ tab, TableId.ofCode? (byteAt p 0).toNat = some tab ∧ (p.drop 2).length = tab.size ∧
        requestWrite p s = admitWrite tab (byteAt p 1).toNat (p.drop 2) s := by
  unfold requestWrite
  split
  · exact .inl ⟨_, rfl⟩
  next tab htab =>
    dsimp only
    split
    · exact .inl ⟨_, rfl⟩
    next hsize =>
      split
      · exact .inl ⟨_, rfl⟩
      · split
        · exact .inl ⟨_, rfl⟩
        · split
          · exact .inl ⟨_, rfl⟩
          · exact .inr ⟨tab, htab, not_not.mp hsize, rfl⟩

/-- A TABLE_WRITE frame whose entry is the parameter LINK_ERR_LIMIT. -/
def writesLinkLimit (f : Frame) : Prop :=
  f.kind = 0x41 ∧ f.payload.take 2 = [0x05, byteOf Param.linkErrLimit.row.index.val] ∧ f.payload.length = 4

theorem TableId.code_of_config {b : Byte} (h : TableId.ofCode? b.toNat = some .config) : b = 0x05 := by
  refine BitVec.eq_of_toNat_eq ?_
  unfold TableId.ofCode? at h
  split at h <;> simp_all

theorem Param.index_of_linkErrLimit {i : Nat} (h : Param.ofIndex? i = some .linkErrLimit) : i = 21 := by
  have hlt : i < Param.all.length := (List.getElem?_eq_some_iff.mp h).1
  have hlen : Param.all.length = 32 := rfl
  rw [hlen] at hlt
  have hall : ∀ j < 32, Param.ofIndex? j = some .linkErrLimit → j = 21 := by decide
  exact hall i hlt h

theorem requestWrite_handles {f : Frame} (hk : f.kind = 0x41) (hf : ¬ writesLinkLimit f) (s : State) :
    Handles s (requestWrite f.payload s).1 := by
  obtain ⟨r, hr⟩ | ⟨tab, htab, hsize, hw⟩ := requestWrite_cases f.payload s
  · rw [hr]; exact .refl s
  · rw [hw]
    refine admitWrite_handles _ (fun hconfig hp => hf ⟨hk, ?_⟩) s
    subst hconfig
    have h0 := TableId.code_of_config htab
    have h1 : byteAt f.payload 1 = byteOf Param.linkErrLimit.row.index.val :=
      BitVec.eq_of_toNat_eq (Param.index_of_linkErrLimit hp)
    rw [List.length_drop] at hsize
    have hlen : f.payload.length = 4 := by
      have : TableId.config.size = 2 := rfl
      omega
    obtain ⟨a, b, c, d, hpay⟩ : ∃ a b c d, f.payload = [a, b, c, d] := by
      match f.payload, hlen with
      | [a, b, c, d], _ => exact ⟨a, b, c, d, rfl⟩
    rw [hpay] at h0 h1 ⊢
    exact ⟨by rw [← h0, ← h1]; rfl, rfl⟩

/-! ### The requests of the cycle controller (07, 08) -/

theorem completeCycle_handles (s : State) : Handles s (completeCycle s) :=
  (cycleTo_handles _ s).trans (raiseEvent_handles _ _ _)

theorem beginPhase_handles (p : Nat) (r : PhaseRecord) (s : State) : Handles s (beginPhase p r s) := by
  unfold beginPhase
  dsimp only
  refine Handles.trans ?_ (reselect_moves _ _).handles
  refine Handles.trans ?_ (forceReduction_moves _).drum.handles
  refine Handles.trans ?_ (raiseEvent_handles _ _ _)
  refine Handles.trans ?_ (walkerPhaseBegin_moves _ _).drum.handles
  exact .of_same rfl rfl

theorem startValues_handles (slot : Nat) (anticrease : Bool) (s : State) :
    Handles s (startValues slot anticrease s) := by
  unfold startValues
  dsimp only
  refine Handles.trans ?_ (goAway_handles _ _)
  exact .of_same rfl rfl

theorem startFirst_handles (s : State) : Handles s (startFirst s) := by
  unfold startFirst
  split
  · exact completeCycle_handles s
  · exact (setCycle_handles s _).trans (beginPhase_handles _ _ _)

theorem requestStart_handles (slot anticrease : Byte) (s : State) : Handles s (requestStart slot anticrease s).1 := by
  unfold requestStart
  split
  · exact .refl s
  · exact (startValues_handles _ _ s).trans (startFirst_handles _)

theorem requestPause_handles (s : State) : Handles s (requestPause s).1 := by
  unfold requestPause
  split
  · exact (cycleTo_handles _ s).trans (raiseEvent_handles _ _ _)
  · exact .refl s

theorem resumeCycle_handles (s : State) : Handles s (resumeCycle s) :=
  ((setMoisture_handles s _).trans (cycleTo_handles _ _)).trans (raiseEvent_handles _ _ _)

theorem requestResume_handles (s : State) : Handles s (requestResume s).1 := by
  unfold requestResume
  split
  · exact .refl s
  · split
    · exact .refl s
    · split
      · exact .refl s
      · exact resumeCycle_handles s

theorem endCooldown_handles (s : State) : Handles s (endCooldown s) :=
  ((raiseEvent_handles _ _ s).trans (cycleTo_handles _ _)).trans (raiseEvent_handles _ _ _)

theorem abortCycle_handles (s : State) : Handles s (abortCycle s) := by
  unfold abortCycle
  split <;> exact (cycleTo_handles _ s).trans (raiseEvent_handles _ _ _)

theorem requestAbort_handles (s : State) : Handles s (requestAbort s).1 := by
  unfold requestAbort
  split
  · exact abortCycle_handles s
  · exact abortCycle_handles s
  · exact endCooldown_handles s
  · exact .refl s
  · exact .refl s

/-! ### The other requests (09, 10) -/

theorem clearRecord_handles (x : Source) (s : State) : Handles s (clearRecord x s) :=
  ((setFaults_handles s _).trans (raiseEvent_handles _ _ _)).trans (workOutAction_moves _).handles

theorem clearMotorStall_handles (s : State) : Handles s (clearMotorStall s) := by
  have hmark : Handles s
      (if s.drum.state = .ramp then s.setDrum { s.drum with spinup := some 0, stallMark := false } else s) := by
    split
    · exact .of_same rfl rfl
    · exact .refl s
  have hclear : ∀ t, Handles s t → Handles s
      (if (t.setPresent .motorStall false).counts .motorStall then
        clearRecord .motorStall (t.setPresent .motorStall false)
      else t.setPresent .motorStall false) := fun t ht => by
    split
    · exact (ht.trans (setFaults_handles _ _)).trans (clearRecord_handles _ _)
    · exact ht.trans (setFaults_handles _ _)
  exact hclear _ hmark

theorem clearSource_handles (x : Source) (s : State) : Handles s (clearSource x s) := by
  unfold clearSource
  split
  · exact clearMotorStall_handles s
  · split
    · exact clearRecord_handles x s
    · exact .refl s

theorem clearSources_handles (scope : List Source) (s : State) : Handles s (clearSources scope s) := by
  have hfold : ∀ t, Handles t (scope.foldl (fun t x => clearSource x t) t) := by
    induction scope with
    | nil => exact .refl
    | cons x xs ih => exact fun t => (clearSource_handles x t).trans (ih _)
  unfold clearSources leaveHalted
  split
  · exact (hfold s).trans (cycleTo_handles _ _)
  · exact hfold s

theorem requestFaultClear_handles (b : Byte) (s : State) : Handles s (requestFaultClear b s).1 := by
  unfold requestFaultClear
  split
  · dsimp only
    exact clearSources_handles _ s
  · split
    · exact clearSources_handles _ s
    · exact .refl s

theorem requestRead_state (p : List Byte) (s : State) : (requestRead p s).1 = s := by
  unfold requestRead
  split
  · rfl
  · split <;> rfl

theorem requestTrim_handles (step : Byte) (s : State) : Handles s (requestTrim step s).1 := by
  unfold requestTrim
  dsimp only
  split
  · split
    · exact setParam_handles s _ _
    · exact .refl s
  · split
    · split
      · exact setParam_handles s _ _
      · exact .refl s
    · exact .refl s

theorem requestUnlock_handles (s : State) : Handles s (requestUnlock s).1 := by
  unfold requestUnlock
  split
  · exact setTables_handles s _
  · exact .refl s

/-- A flush leaves the kept frames, and so room where there was room. -/
theorem requestFlush_handles (s : State) : Handles s (requestFlush s).1 := by
  have hkept : keptCount (s.upstream.queue.filter fun f => !f.displaceable) = keptCount s.upstream.queue := by
    rw [keptCount, List.filter_filter, keptCount]
    simp
  have hlen : (s.upstream.queue.filter fun f => !f.displaceable).length ≤ s.upstream.queue.length :=
    List.length_filter_le _ _
  have hflush : Talks s
      (s.setUpstream { s.upstream with queue := s.upstream.queue.filter fun f => !f.displaceable }) :=
    { ready := rfl
      busy := fun _ => rfl
      kept := fun _ f hf hd => List.mem_filter.mpr ⟨hf, by simp [hd]⟩
      room := fun hroom => ⟨hlen.trans hroom.1, hkept.le.trans hroom.2⟩
      blocked := fun hfull _ => by
        simp only [Upstream.canAccept, Bool.or_eq_false_iff, hasDisplaceable, List.any_eq_false] at hfull
        exact ⟨List.filter_eq_self.mpr fun f hf => by simpa using hfull.2 f hf, rfl⟩ }
  exact ⟨hflush.trans (moveEvents_talks _), rfl⟩

/-! ### A taken request -/

/-- Every request but a write of LINK_ERR_LIMIT keeps what `Handles` names. -/
theorem takeRequest_handles {f : Frame} (hf : ¬ writesLinkLimit f) (s : State) : Handles s (takeRequest f s).1 := by
  unfold takeRequest
  split
  · exact .refl s
  · split
    · exact .refl s
    · unfold actRequest
      split
      next hk => exact requestWrite_handles (BitVec.eq_of_toNat_eq hk) hf s
      · rw [requestRead_state]; exact .refl s
      · exact requestStart_handles _ _ s
      · exact requestPause_handles s
      · exact requestResume_handles s
      · exact requestAbort_handles s
      · exact requestFaultClear_handles _ s
      · exact setFaults_handles s _
      · exact requestTrim_handles _ s
      · exact setTables_handles s _
      · exact requestUnlock_handles s
      · exact requestFlush_handles s
      · exact .refl s

end Sys2Proof.Machine

/-! # One request from its frame to its answer (01 R6, R7; 10 R168, R169)

A frame that finds the receive queue empty and room upstream is taken at once: `handleRequest` on the state that has
heard it. The checks of KIND and LEN come before the action. -/

namespace Sys2Proof.Machine

/-! ### The request in progress is seen by nothing but the handler -/

/-- The state with a request in progress, or with none. -/
def State.setProgress (s : State) (o : Option Frame) : State := s.setTables { s.tables with inProgress := o }

@[simp] theorem State.setProgress_links (s : State) (o : Option Frame) : (s.setProgress o).links = s.links := rfl
@[simp] theorem State.setProgress_upstream (s : State) (o : Option Frame) :
    (s.setProgress o).upstream = s.upstream := rfl
@[simp] theorem State.setProgress_param (s : State) (o : Option Frame) (p : Param) :
    (s.setProgress o).param p = s.param p := rfl
@[simp] theorem State.setProgress_present (s : State) (o : Option Frame) (x : Source) :
    (s.setProgress o).present x = s.present x := rfl
@[simp] theorem State.setProgress_badCount (s : State) (o : Option Frame) (p : Port) :
    (s.setProgress o).badCount p = s.badCount p := by cases p <;> rfl
@[simp] theorem State.setProgress_twice (s : State) (o q : Option Frame) :
    (s.setProgress o).setProgress q = s.setProgress q := rfl

theorem State.setProgress_of_eq {s : State} {o : Option Frame} (h : s.tables.inProgress = o) : s.setProgress o = s := by
  rw [← h]; rfl

theorem startTransmission_setProgress (s : State) (o : Option Frame) :
    startTransmission (s.setProgress o) = (startTransmission s).setProgress o := by
  obtain hsame | ⟨f, rest, hidle, hready, hqueue, hstart⟩ := startTransmission_cases s
  · obtain hsame' | ⟨f, rest, hidle, hready, hqueue, hstart⟩ := startTransmission_cases (s.setProgress o)
    · rw [hsame, hsame']
    · rw [hstart, startTransmission_of_cons (s := s) hready hidle hqueue]; rfl
  · rw [hstart, startTransmission_of_cons (s := s.setProgress o) hready hidle hqueue]; rfl

theorem joinQueue_setProgress (f : UpFrame) (s : State) (o : Option Frame) :
    joinQueue f (s.setProgress o) = (joinQueue f s).setProgress o :=
  startTransmission_setProgress (s.setUpstream (joinTail f s.upstream)) o

/-! ### The handling of one request (10 R168) -/

theorem handleRequest_eq (f : Frame) (s : State) :
    handleRequest f s =
      joinQueue (responseFrame f.kind (takeRequest f (s.setProgress (some f))).2)
        ((takeRequest f (s.setProgress (some f))).1.setProgress none) := by
  rw [joinQueue_setProgress]
  rfl

/-- An action that leaves the request in progress as it finds it is answered from the state it leaves. -/
theorem handleRequest_of_take {f : Frame} {s u : State} {r : Reply}
    (htake : takeRequest f (s.setProgress (some f)) = (u.setProgress (some f), r))
    (hu : u.tables.inProgress = none) : handleRequest f s = joinQueue (responseFrame f.kind r) u := by
  rw [handleRequest_eq, htake, State.setProgress_twice, State.setProgress_of_eq hu]

theorem responseFrame_kept (kind : Byte) (r : Reply) : (responseFrame kind r).displaceable = false := rfl

/-- With room upstream, a handled request is answered. -/
theorem replied_of_room {kind : Byte} {r : Reply} {s : State} (h : s.upstream.canAccept = true) :
    replied kind r (joinQueue (responseFrame kind r) s) := mem_joinQueue h (responseFrame_kept kind r)

/-! ### Taking from the receive queue (10 R169) -/

theorem serve_of_empty {s : State} (h : s.links.receiveQueue = []) : serve s = s := by
  rw [serve, h]
  rfl

theorem serveQueue_of_full {s : State} (h : s.upstream.canAccept = false) (n : Nat) : serveQueue n s = s := by
  cases n with
  | zero => rfl
  | succ n =>
    unfold serveQueue
    split
    · rfl
    · simp [h]

theorem serve_of_full {s : State} (h : s.upstream.canAccept = false) : serve s = s := serveQueue_of_full h _

theorem serve_of_cons {s : State} {f : Frame} {rest : List Frame} (hq : s.links.receiveQueue = f :: rest)
    (hfree : s.tables.inProgress = none) (hroom : s.upstream.canAccept = true) :
    serve s = serveQueue rest.length (handleRequest f (s.setLinks { s.links with receiveQueue := rest })) := by
  simp [serve, serveQueue, hq, hfree, hroom]

/-! ### The checks of KIND and LEN (01 R6) -/

theorem takeRequest_of_unknown {f : Frame} (h : ¬(0x41 ≤ f.kind.toNat ∧ f.kind.toNat ≤ 0x4D)) (s : State) :
    takeRequest f s = (s, .plain .unknown) := by
  have hk : knownRequestKind f.kind = false := by simpa [knownRequestKind] using h
  simp [takeRequest, hk]

theorem takeRequest_of_len {f : Frame} (hk : knownRequestKind f.kind = true)
    (hlen : f.payload.length < (lenRange f.kind.toNat).1 ∨ (lenRange f.kind.toNat).2 < f.payload.length) (s : State) :
    takeRequest f s = (s, .plain .format) := by
  simp [takeRequest, hk, hlen]

theorem takeRequest_of_act {f : Frame} (hk : knownRequestKind f.kind = true)
    (hlo : (lenRange f.kind.toNat).1 ≤ f.payload.length) (hhi : f.payload.length ≤ (lenRange f.kind.toNat).2)
    (s : State) :
    takeRequest f s = actRequest f s := by
  have hlen : ¬(f.payload.length < (lenRange f.kind.toNat).1 ∨ (lenRange f.kind.toNat).2 < f.payload.length) := by
    omega
  simp only [takeRequest, hk, Bool.not_true, Bool.false_eq_true, if_false, if_neg hlen]

/-! ### A request frame arrives (01 R6, R7, R10) -/

/-- The state that has heard the frame of a request: a good frame, then what the frame does to the keepalive window. -/
def State.heardFrame (s : State) : State := frameRestarts (goodFrame .controller s)

theorem heardFrame_talks (s : State) : Talks s s.heardFrame :=
  (goodFrame_talks .controller s).trans (frameRestarts_talks _)

/-- A frame that restarts the window moves it, and beyond it what a going moves. -/
theorem frameRestarts_moves (s : State) : ∃ k, MovesRecord (s.setKeepalive k) (frameRestarts s) := by
  unfold frameRestarts
  split
  · exact ⟨s.links.keepalive, .refl s⟩
  · exact restartWindow_moves s

theorem frameRestarts_present {x : Source} (hx : x ≠ .keepalive) (s : State) :
    (frameRestarts s).present x = s.present x := by
  unfold frameRestarts
  split
  · rfl
  · exact restartWindow_present hx s

@[simp] theorem heardFrame_param (s : State) (p : Param) : s.heardFrame.param p = s.param p := by
  obtain ⟨k, hmoves⟩ := frameRestarts_moves (goodFrame .controller s)
  rw [State.heardFrame, hmoves.param, State.setKeepalive_param, goodFrame_param]

@[simp] theorem heardFrame_tables (s : State) : s.heardFrame.tables = s.tables := by
  obtain ⟨k, hmoves⟩ := frameRestarts_moves (goodFrame .controller s)
  rw [State.heardFrame, hmoves.tables]
  exact goodFrame_tables .controller s

@[simp] theorem heardFrame_receiveQueue (s : State) : s.heardFrame.links.receiveQueue = s.links.receiveQueue := by
  obtain ⟨k, hmoves⟩ := frameRestarts_moves (goodFrame .controller s)
  rw [State.heardFrame, hmoves.receiveQueue]
  exact goodFrame_receiveQueue .controller s

@[simp] theorem heardFrame_badCount (s : State) : s.heardFrame.badCount .controller = s.badCount .controller - 1 := by
  obtain ⟨k, hmoves⟩ := frameRestarts_moves (goodFrame .controller s)
  rw [State.heardFrame, hmoves.badCount, State.setKeepalive_badCount, goodFrame_badCount, if_pos rfl]

@[simp] theorem heardFrame_receiver (s : State) : s.heardFrame.receiver .controller = .idle := by
  obtain ⟨k, hmoves⟩ := frameRestarts_moves (goodFrame .controller s)
  rw [State.heardFrame, hmoves.receiver, State.setKeepalive_receiver, goodFrame_receiver, if_pos rfl]

theorem heardFrame_controllerLink (s : State) :
    s.heardFrame.present .controllerLink = (s.present .controllerLink && decide (1 < s.badCount .controller)) := by
  rw [State.heardFrame, frameRestarts_present (by decide), goodFrame_present]
  simp [Port.source]

/-- While KEEPALIVE_LOWER is off, a running timer below KEEPALIVE_UPPER is within the window. -/
theorem withinWindow_iff {s : State} (h : s.param .keepaliveLower = 0) :
    s.withinWindow = true ↔
      s.links.keepalive.running = true ∧ s.links.keepalive.timer < s.param .keepaliveUpper := by
  simp [State.withinWindow, h]

theorem frameRestarts_window (s : State) :
    ((frameRestarts s).links.keepalive, (frameRestarts s).present .keepalive) =
      if s.param .keepaliveUpper = 0 ∨ s.param .keepaliveLower ≠ 0 then (s.links.keepalive, s.present .keepalive)
      else if s.links.keepalive.running = true ∧ s.links.keepalive.timer < s.param .keepaliveUpper then
        (⟨0, true, .none⟩, false)
      else (⟨0, true, s.links.keepalive.cause⟩, s.present .keepalive) := by
  unfold frameRestarts
  split
  · rfl
  next h =>
    rw [not_or, not_not] at h
    rw [restartWindow_window]
    simp only [withinWindow_iff h.2]

theorem heardFrame_window (s : State) :
    (s.heardFrame.links.keepalive, s.heardFrame.present .keepalive) =
      if s.param .keepaliveUpper = 0 ∨ s.param .keepaliveLower ≠ 0 then (s.links.keepalive, s.present .keepalive)
      else if s.links.keepalive.running = true ∧ s.links.keepalive.timer < s.param .keepaliveUpper then
        (⟨0, true, .none⟩, false)
      else (⟨0, true, s.links.keepalive.cause⟩, s.present .keepalive) := by
  rw [State.heardFrame, frameRestarts_window]
  simp [goodFrame_present, Port.source]

/-- Where neither condition is there to go, the frame is heard by its port and its window alone. -/
theorem heardFrame_of_absent {s : State} (hlink : s.present .controllerLink = false)
    (hkeep : s.present .keepalive = false) : s.heardFrame = s.heard := by
  have hgood : goodFrame .controller s = s.portAfter .controller (s.badCount .controller - 1) :=
    goodFrame_of_absent (p := .controller) hlink
  have hheard : ∀ k, (s.portAfter .controller (s.badCount .controller - 1)).setKeepalive k =
      s.setLinks { s.links with
        controllerRx := .idle, controllerBad := s.links.controllerBad - 1, keepalive := k } := fun _ => rfl
  rw [State.heardFrame, hgood, State.heard, State.heardKeepalive, frameRestarts, State.portAfter_param,
    State.portAfter_param]
  split
  · exact hheard s.links.keepalive
  next h =>
    rw [not_or, not_not] at h
    have hwithin := withinWindow_iff (s := s.portAfter .controller (s.badCount .controller - 1)) (by simpa using h.2)
    simp only [State.portAfter_keepalive, State.portAfter_param] at hwithin
    rw [restartWindow]
    simp only [hwithin]
    split
    · rw [goAway_of_absent (by simpa using hkeep), hheard]
    · exact hheard _

/-- A frame for the receive queue, of at most 32 payload bytes. -/
theorem controllerFrame_of_request {f : Frame} (hlen : f.payload.length ≤ 32) (hf : ¬(f.kind = 0x49 ∧ f.payload = []))
    (s : State) : controllerFrame f s = requestArrives f s := by
  have hf' : ¬(f.kind.toNat = 0x49 ∧ f.payload = []) := fun h => hf ⟨BitVec.eq_of_toNat_eq h.1, h.2⟩
  simp only [controllerFrame, Frame.fits, hlen, decide_true, Bool.not_true, Bool.false_eq_true, if_false, if_neg hf']

/-- With room in the receive queue the frame is heard and appended, and the taking condition is tested. -/
theorem requestArrives_of_room {f : Frame} {s : State} (h : s.links.receiveQueue.length < 4) :
    requestArrives f s =
      serve (s.heardFrame.setLinks { s.heardFrame.links with receiveQueue := s.links.receiveQueue ++ [f] }) := by
  rw [requestArrives, receiveCapacity, if_pos h, State.heardFrame]
  dsimp only
  rw [← State.heardFrame, heardFrame_receiveQueue]

theorem canAccept_heardFrame {s : State} (h : s.serves) : s.heardFrame.upstream.canAccept = true := by
  obtain ⟨-, -, hroom, hlen⟩ := h
  exact (s.heardFrame.upstream.hasRoom_iff.mp
    ((heardFrame_talks s).room (s.upstream.hasRoom_iff.mpr ⟨hroom, hlen⟩))).1

/-- A part that serves takes the frame at once. -/
theorem requestArrives_of_serves {s : State} (h : s.serves) (f : Frame) :
    requestArrives f s = handleRequest f s.heardFrame := by
  have hroom := canAccept_heardFrame h
  obtain ⟨hempty, hfree, -, -⟩ := h
  have hback : s.heardFrame.setLinks { s.heardFrame.links with receiveQueue := [] } = s.heardFrame := by
    rw [← hempty, ← heardFrame_receiveQueue]; rfl
  rw [requestArrives_of_room (by rw [hempty]; decide), hempty, List.nil_append,
    serve_of_cons (s := s.heardFrame.setLinks { s.heardFrame.links with receiveQueue := [f] }) rfl
      (by simpa using hfree) hroom, State.setLinks_twice]
  exact congrArg (handleRequest f) hback

/-- The answer of a part that serves, from what taking the frame does to the state that has heard it. -/
theorem done_controllerFrame_of_serves {f : Frame} {s u : State} {r : Reply} (hserves : s.serves)
    (hlen : f.payload.length ≤ 32) (hf : ¬(f.kind = 0x49 ∧ f.payload = []))
    (htake : takeRequest f (s.heardFrame.setProgress (some f)) = (u, r)) :
    done (controllerFrame f s) = .next (answered f.kind r (u.setProgress none)) := by
  rw [controllerFrame_of_request hlen hf, requestArrives_of_serves hserves, handleRequest_eq, htake]
  rfl

theorem answered_moves (kind : Byte) (r : Reply) (u : State) : MovesUpstream u (answered kind r u) :=
  (joinQueue_moves _ u).trans (refresh_moves _)

/-! ### A quiet part's answer -/

@[simp] theorem State.heard_param (s : State) (p : Param) : s.heard.param p = s.param p := rfl
@[simp] theorem State.heard_present (s : State) (x : Source) : s.heard.present x = s.present x := rfl

/-- The answer of a quiet part to a frame, from what taking the frame does to the state that has heard it. -/
theorem done_controllerFrame_of_quiet {f : Frame} {s u : State} {r : Reply} (hquiet : s.quiet)
    (hlen : f.payload.length ≤ 32) (hf : ¬(f.kind = 0x49 ∧ f.payload = []))
    (htake : takeRequest f (s.heard.setProgress (some f)) = (u.setProgress (some f), r))
    (hu : u.tables.inProgress = none) : done (controllerFrame f s) = .next (answered f.kind r u) := by
  obtain ⟨hserves, hlink, hkeep⟩ := hquiet
  rw [controllerFrame_of_request hlen hf, requestArrives_of_serves hserves, heardFrame_of_absent hlink hkeep,
    handleRequest_of_take htake hu]
  rfl

theorem heard_inProgress {s : State} (h : s.quiet) : s.heard.tables.inProgress = none := by
  obtain ⟨⟨-, hfree, -, -⟩, -, -⟩ := h
  exact hfree

/-- A request that a check refuses is answered from the state that has heard it. -/
theorem done_controllerFrame_of_refused {f : Frame} {s : State} {r : Reply} (hquiet : s.quiet)
    (hlen : f.payload.length ≤ 32) (hf : ¬(f.kind = 0x49 ∧ f.payload = []))
    (htake : ∀ t, takeRequest f t = (t, r)) : done (controllerFrame f s) = .next (answered f.kind r s.heard) :=
  done_controllerFrame_of_quiet hquiet hlen hf (htake _) (heard_inProgress hquiet)

/-- A known KIND with a LEN outside its range is answered FORMAT. -/
theorem done_controllerFrame_of_len {k : Byte} {p : List Byte} {s : State} (hquiet : s.quiet) (hlen : p.length ≤ 32)
    (hk : knownRequestKind k = true) (hf : ¬(k = 0x49 ∧ p = []))
    (hrange : p.length < (lenRange k.toNat).1 ∨ (lenRange k.toNat).2 < p.length) :
    done (controllerFrame ⟨k, p⟩ s) = .next (answered k (.plain .format) s.heard) :=
  done_controllerFrame_of_refused (f := ⟨k, p⟩) hquiet hlen hf (takeRequest_of_len hk hrange)

/-- A KIND without payload, sent with one, is answered FORMAT. -/
theorem done_controllerFrame_of_ne_nil {k : Byte} {p : List Byte} {s : State} (hquiet : s.quiet) (hlen : p.length ≤ 32)
    (hk : knownRequestKind k = true) (hrange : lenRange k.toNat = (0, 0)) (hp : p ≠ []) :
    done (controllerFrame ⟨k, p⟩ s) = .next (answered k (.plain .format) s.heard) :=
  done_controllerFrame_of_len hquiet hlen hk (fun h => hp h.2)
    (.inr (by rw [hrange]; exact List.length_pos_iff.mpr hp))

/-- Settles O42: the checks of KIND and LEN come before any action. -/
theorem unknownAndMisformedRequestsAreAnswered : Obligations.UnknownAndMisformedRequestsAreAnswered := by
  intro s hquiet p hlen
  have hlenRange : ∀ {k : Byte}, knownRequestKind k = true → k ≠ 0x49 →
      (p.length < (lenRange k.toNat).1 ∨ (lenRange k.toNat).2 < p.length) →
      done (controllerFrame ⟨k, p⟩ s) = .next (answered k (.plain .format) s.heard) :=
    fun hk hne hrange => done_controllerFrame_of_len hquiet hlen hk (fun h => hne h.1) hrange
  refine ⟨fun k hk => ?_, fun hp => ?_, fun hp => ⟨?_, ?_⟩, fun hp => ⟨?_, ?_⟩, fun hp => ?_⟩
  · refine done_controllerFrame_of_refused (f := ⟨k, p⟩) hquiet hlen ?_ (takeRequest_of_unknown hk)
    rintro ⟨rfl, -⟩
    exact hk (by decide)
  · exact done_controllerFrame_of_ne_nil hquiet hlen (by decide) rfl hp
  · exact hlenRange (k := 0x42) (by decide) (by decide) (lt_or_gt_of_ne hp)
  · exact hlenRange (k := 0x43) (by decide) (by decide) (lt_or_gt_of_ne hp)
  · exact hlenRange (k := 0x47) (by decide) (by decide) (lt_or_gt_of_ne hp)
  · exact hlenRange (k := 0x4A) (by decide) (by decide) (lt_or_gt_of_ne hp)
  · have hformat := fun k hk hrange => done_controllerFrame_of_ne_nil (k := k) hquiet hlen hk hrange hp
    exact ⟨hformat 0x44 (by decide) rfl, hformat 0x45 (by decide) rfl, hformat 0x46 (by decide) rfl,
      hformat 0x48 (by decide) rfl, hformat 0x4B (by decide) rfl, hformat 0x4C (by decide) rfl,
      hformat 0x4D (by decide) rfl⟩

end Sys2Proof.Machine

/-! # The keepalive parameters, and a frame in the receive queue (01 R6, R7, R10 to R12; 10 R169) -/

namespace Sys2Proof.Machine

/-! ### The frame of a CONFIG write (10 R170, R174; 01 R13) -/

theorem toNat_byteOf {n : Nat} (h : n < 256) : (byteOf n).toNat = n := by
  rw [byteOf, BitVec.toNat_ofNat, Nat.mod_eq_of_lt h]

/-- A 16-bit value is read back from its two bytes. -/
theorem read16_bytes (v : Half) : read16 (byteOf (v.toNat / 256)) (byteOf v.toNat) = v.toNat := by
  have hv := v.isLt
  rw [read16, toNat_byteOf (by omega), byteOf, BitVec.toNat_ofNat]
  omega

theorem Param.index_lt (p : Param) : p.row.index.val < 32 := p.row.index.isLt

theorem Param.toNat_index (p : Param) : (byteOf p.row.index.val).toNat = p.row.index.val :=
  toNat_byteOf (p.index_lt.trans (by decide))

/-- The frame of a write of one CONFIG parameter, taken while no protection holds it, is the parameter's write. -/
theorem takeRequest_config {p : Param} {s : State} (h : p.row.safety = false ∨ s.isProtected = false) (hi lo : Byte) :
    takeRequest ⟨0x41, [0x05, byteOf p.row.index.val, hi, lo]⟩ s = admitParam p (read16 hi lo) s := by
  have hlocked : (s.isProtected && s.inSafetySet .config p.row.index.val) = false := by
    rcases h with h | h <;> simp [State.inSafetySet, Param.ofIndex?_index, h]
  have hinUse : s.inUse .config p.row.index.val = false := by simp [State.inUse]
  have hwrite : requestWrite [0x05, byteOf p.row.index.val, hi, lo] s =
      if TableId.config.count ≤ (byteOf p.row.index.val).toNat then (s, .plain .range)
      else if s.isProtected && s.inSafetySet .config (byteOf p.row.index.val).toNat then (s, .plain .locked)
      else if s.inUse .config (byteOf p.row.index.val).toNat then (s, .plain .inUse)
      else admitConfig (byteOf p.row.index.val).toNat [hi, lo] s := rfl
  have hcount : ¬ TableId.config.count ≤ p.row.index.val := Nat.not_le.mpr p.index_lt
  have hact : actRequest ⟨0x41, [0x05, byteOf p.row.index.val, hi, lo]⟩ s =
      requestWrite [0x05, byteOf p.row.index.val, hi, lo] s := rfl
  rw [takeRequest_of_act (f := ⟨0x41, [0x05, byteOf p.row.index.val, hi, lo]⟩) rfl
    (by decide : 3 ≤ 4) (by decide : 4 ≤ 16), hact, hwrite, p.toNat_index, if_neg hcount, hlocked, hinUse, admitConfig,
    Param.ofIndex?_index]
  rfl

/-- The frame that a write of a CONFIG parameter is. -/
def paramFrame (p : Param) (v : Half) : Frame := ⟨0x41, tableWritePayload 0x05 (byteOf p.row.index.val) (bytesOfHalf v)⟩

theorem takeRequest_paramFrame {p : Param} {s : State} (h : p.row.safety = false ∨ s.isProtected = false) (v : Half) :
    takeRequest (paramFrame p v) s = admitParam p v.toNat s := by
  have hconfig := takeRequest_config h (byteOf (v.toNat / 256)) (byteOf v.toNat)
  rw [read16_bytes] at hconfig
  exact hconfig

theorem paramFrame_length_le (p : Param) (v : Half) : (paramFrame p v).payload.length ≤ 32 := (by decide : 4 ≤ 32)

theorem paramFrame_not_keepalive (p : Param) (v : Half) :
    ¬((paramFrame p v).kind = 0x49 ∧ (paramFrame p v).payload = []) :=
  fun h => absurd h.1 (by decide : (0x41 : Byte) ≠ 0x49)

/-- A part that serves answers a write of a parameter that no protection holds. -/
theorem done_paramFrame_of_serves {p : Param} {s u : State} {v : Half} {r : Reply} (hserves : s.serves)
    (hp : p.row.safety = false)
    (hadmit : admitParam p v.toNat (s.heardFrame.setProgress (some (paramFrame p v))) = (u, r)) :
    done (controllerFrame (paramFrame p v) s) = .next (answered 0x41 r (u.setProgress none)) :=
  done_controllerFrame_of_serves hserves (paramFrame_length_le p v) (paramFrame_not_keepalive p v)
    ((takeRequest_paramFrame (.inl hp) v).trans hadmit)

/-- A quiet part answers a write of a parameter that no protection holds. -/
theorem done_paramFrame_of_quiet {p : Param} {s u : State} {v : Half} {r : Reply} (hquiet : s.quiet)
    (hp : p.row.safety = false)
    (hadmit : admitParam p v.toNat (s.heard.setProgress (some (paramFrame p v))) =
      (u.setProgress (some (paramFrame p v)), r))
    (hu : u.tables.inProgress = none) : done (controllerFrame (paramFrame p v) s) = .next (answered 0x41 r u) :=
  done_controllerFrame_of_quiet hquiet (paramFrame_length_le p v) (paramFrame_not_keepalive p v)
    ((takeRequest_paramFrame (.inl hp) v).trans hadmit) hu

/-! ### The keepalive parameters (01 R12) -/

theorem storedParam_keepaliveUpper (v : Nat) : storedParam .keepaliveUpper v = min 100 v := by
  have hclamp : storedParam .keepaliveUpper v = clampNat 0 100 v := rfl
  rw [hclamp, clampNat]
  split_ifs <;> omega

theorem storedParam_keepaliveLower (v : Nat) : storedParam .keepaliveLower v = min 20 v := by
  have hclamp : storedParam .keepaliveLower v = clampNat 0 20 v := rfl
  rw [hclamp, clampNat]
  split_ifs <;> omega

theorem keepaliveWritten_present (s : State) : (keepaliveWritten s).present .keepalive = false := by
  simp [keepaliveWritten]

theorem keepaliveWritten_window (s : State) :
    (keepaliveWritten s).links.keepalive = ⟨0, decide (s.param .keepaliveUpper ≠ 0), .none⟩ := by
  simp [keepaliveWritten]

theorem keepaliveWritten_param (s : State) (p : Param) : (keepaliveWritten s).param p = s.param p := by
  simp [keepaliveWritten]

/-- With KEEPALIVE absent the write moves the window alone. -/
theorem keepaliveWritten_of_absent {s : State} (h : s.present .keepalive = false) :
    keepaliveWritten s = s.setKeepalive ⟨0, decide (s.param .keepaliveUpper ≠ 0), .none⟩ :=
  goAway_of_absent (by simpa using h)

/-- The state that a write of KEEPALIVE_UPPER stores: a lower bound at or above the new upper is lowered below it. -/
def State.withUpper (s : State) (c : Nat) : State :=
  if c ≠ 0 ∧ c ≤ s.param .keepaliveLower then (s.setParam .keepaliveUpper c).setParam .keepaliveLower (c - 1)
  else s.setParam .keepaliveUpper c

/-- The state that a write of KEEPALIVE_LOWER stores: a bound at or above the upper is stored below it. -/
def State.withLower (s : State) (c : Nat) : State :=
  if s.param .keepaliveUpper ≠ 0 ∧ s.param .keepaliveUpper ≤ c then
    s.setParam .keepaliveLower (s.param .keepaliveUpper - 1)
  else s.setParam .keepaliveLower c

/-- The result of a write that stores a value: OK when it is the written one, and the bounds were not pressed apart. -/
def writeResult (apart : Prop) [Decidable apart] (c v : Nat) : Result :=
  if apart then .clamped else if c = v then .ok else .clamped

theorem ofChanged_ne (c v : Nat) : Result.ofChanged (decide (c ≠ v)) = if c = v then .ok else .clamped := by
  by_cases h : c = v <;> simp [Result.ofChanged, h]

theorem admitParam_keepaliveUpper (v : Nat) (s : State) :
    admitParam .keepaliveUpper v s =
      (keepaliveWritten (s.withUpper (min 100 v)),
        .plain (writeResult (min 100 v ≠ 0 ∧ min 100 v ≤ s.param .keepaliveLower) (min 100 v) v)) := by
  simp only [admitParam, storedParam_keepaliveUpper, State.withUpper, writeResult, ← ofChanged_ne]
  split <;> rfl

theorem admitParam_keepaliveLower (v : Nat) (s : State) :
    admitParam .keepaliveLower v s =
      (keepaliveWritten (s.withLower (min 20 v)),
        .plain (writeResult (s.param .keepaliveUpper ≠ 0 ∧ s.param .keepaliveUpper ≤ min 20 v) (min 20 v) v)) := by
  simp only [admitParam, storedParam_keepaliveLower, State.withLower, writeResult, ← ofChanged_ne]
  split <;> rfl

theorem withUpper_param_upper (s : State) (c : Nat) : (s.withUpper c).param .keepaliveUpper = c := by
  unfold State.withUpper
  split <;> simp

theorem withUpper_param_lower (s : State) (c : Nat) :
    (s.withUpper c).param .keepaliveLower =
      if c ≠ 0 ∧ c ≤ s.param .keepaliveLower then c - 1 else s.param .keepaliveLower := by
  unfold State.withUpper
  split <;> simp

theorem withLower_param_upper (s : State) (c : Nat) :
    (s.withLower c).param .keepaliveUpper = s.param .keepaliveUpper := by
  unfold State.withLower
  split <;> simp

theorem withLower_param_lower (s : State) (c : Nat) :
    (s.withLower c).param .keepaliveLower =
      if s.param .keepaliveUpper ≠ 0 ∧ s.param .keepaliveUpper ≤ c then s.param .keepaliveUpper - 1 else c := by
  unfold State.withLower
  split <;> simp

@[simp] theorem withUpper_present (s : State) (c : Nat) (x : Source) : (s.withUpper c).present x = s.present x := by
  unfold State.withUpper
  split <;> rfl

@[simp] theorem withLower_present (s : State) (c : Nat) (x : Source) : (s.withLower c).present x = s.present x := by
  unfold State.withLower
  split <;> rfl

theorem withUpper_inProgress (s : State) (c : Nat) : (s.withUpper c).tables.inProgress = s.tables.inProgress := by
  unfold State.withUpper
  split <;> rfl

theorem withLower_inProgress (s : State) (c : Nat) : (s.withLower c).tables.inProgress = s.tables.inProgress := by
  unfold State.withLower
  split <;> rfl

theorem withUpper_setProgress (s : State) (c : Nat) (o : Option Frame) :
    (s.setProgress o).withUpper c = (s.withUpper c).setProgress o := by
  rw [State.withUpper, State.withUpper, State.setProgress_param]
  split <;> rfl

theorem withLower_setProgress (s : State) (c : Nat) (o : Option Frame) :
    (s.setProgress o).withLower c = (s.withLower c).setProgress o := by
  rw [State.withLower, State.withLower, State.setProgress_param]
  split <;> rfl

/-- A quiet part's answer to a write of KEEPALIVE_UPPER. -/
theorem exec_keepaliveUpperWrite_of_quiet {s : State} (hquiet : s.quiet) (v : Half) :
    exec (.keepaliveUpperWrite v) s =
      .next (answered 0x41
        (.plain (writeResult (min 100 v.toNat ≠ 0 ∧ min 100 v.toNat ≤ s.param .keepaliveLower) (min 100 v.toNat)
          v.toNat))
        ((s.heard.withUpper (min 100 v.toNat)).setKeepalive ⟨0, decide (min 100 v.toNat ≠ 0), .none⟩)) := by
  refine done_paramFrame_of_quiet (p := .keepaliveUpper) hquiet rfl ?_
    ((withUpper_inProgress _ _).trans (heard_inProgress hquiet))
  obtain ⟨-, -, habsent⟩ := hquiet
  rw [admitParam_keepaliveUpper, keepaliveWritten_of_absent (by simpa using habsent), withUpper_param_upper,
    withUpper_setProgress]
  rfl

/-- A quiet part's answer to a write of KEEPALIVE_LOWER. -/
theorem exec_keepaliveLowerWrite_of_quiet {s : State} (hquiet : s.quiet) (v : Half) :
    exec (.keepaliveLowerWrite v) s =
      .next (answered 0x41
        (.plain (writeResult (s.param .keepaliveUpper ≠ 0 ∧ s.param .keepaliveUpper ≤ min 20 v.toNat) (min 20 v.toNat)
          v.toNat))
        ((s.heard.withLower (min 20 v.toNat)).setKeepalive ⟨0, decide (s.param .keepaliveUpper ≠ 0), .none⟩)) := by
  refine done_paramFrame_of_quiet (p := .keepaliveLower) hquiet rfl ?_
    ((withLower_inProgress _ _).trans (heard_inProgress hquiet))
  obtain ⟨-, -, habsent⟩ := hquiet
  rw [admitParam_keepaliveLower, keepaliveWritten_of_absent (by simpa using habsent), withLower_param_upper,
    withLower_setProgress]
  rfl

/-- What the answer of a parameter's write leaves of the state the write has made. -/
theorem answered_fields (kind : Byte) (r : Reply) (u : State) :
    (answered kind r (u.setProgress none)).links.keepalive = u.links.keepalive ∧
      (∀ x, (answered kind r (u.setProgress none)).present x = u.present x) ∧
      ∀ p, (answered kind r (u.setProgress none)).param p = u.param p :=
  have h := answered_moves kind r (u.setProgress none)
  ⟨h.record.keepalive, h.present, h.record.param⟩

/-- Settles O48: what is stored holds the bounds apart, and the window follows the upper bound as stored. -/
theorem keepaliveWritesHoldTheBoundsApart : Obligations.KeepaliveWritesHoldTheBoundsApart := by
  refine ⟨fun s v hserves => ⟨?_, ?_⟩, fun s v c hquiet => ⟨?_, ?_⟩⟩
  · refine ⟨_, done_paramFrame_of_serves (p := .keepaliveUpper) hserves rfl (admitParam_keepaliveUpper _ _), ?_⟩
    obtain ⟨hwindow, hpresent, hparam⟩ := answered_fields 0x41 _ _
    rw [hwindow, hpresent, hparam, hparam, keepaliveWritten_window, keepaliveWritten_present, keepaliveWritten_param,
      keepaliveWritten_param, withUpper_param_upper, withUpper_param_lower]
    simp
  · refine ⟨_, done_paramFrame_of_serves (p := .keepaliveLower) hserves rfl (admitParam_keepaliveLower _ _), ?_⟩
    obtain ⟨hwindow, hpresent, hparam⟩ := answered_fields 0x41 _ _
    rw [hwindow, hpresent, hparam, hparam, keepaliveWritten_window, keepaliveWritten_present, keepaliveWritten_param,
      keepaliveWritten_param, withLower_param_upper, withLower_param_lower]
    simp
  · rintro rfl
    have hexec := exec_keepaliveUpperWrite_of_quiet hquiet v
    refine ⟨fun h => ?_, fun hne hle => ?_⟩
    · have hnot : ¬(min 100 v.toNat ≠ 0 ∧ min 100 v.toNat ≤ s.param .keepaliveLower) := by omega
      rw [hexec, writeResult, if_neg hnot, State.withUpper, State.heard_param, if_neg hnot]
    · have hapart : min 100 v.toNat ≠ 0 ∧ min 100 v.toNat ≤ s.param .keepaliveLower := ⟨hne, hle⟩
      rw [hexec, writeResult, if_pos hapart, State.withUpper, State.heard_param, if_pos hapart, decide_eq_true hne]
  · rintro rfl
    have hexec := exec_keepaliveLowerWrite_of_quiet hquiet v
    refine ⟨fun h => ?_, fun hne hle => ?_⟩
    · have hnot : ¬(s.param .keepaliveUpper ≠ 0 ∧ s.param .keepaliveUpper ≤ min 20 v.toNat) := by omega
      rw [hexec, writeResult, if_neg hnot, State.withLower, State.heard_param, if_neg hnot]
    · have hapart : s.param .keepaliveUpper ≠ 0 ∧ s.param .keepaliveUpper ≤ min 20 v.toNat := ⟨hne, hle⟩
      rw [hexec, writeResult, if_pos hapart, State.withLower, State.heard_param, if_pos hapart, decide_eq_true hne]

end Sys2Proof.Machine

/-! # A frame for the receive queue, in every state of the part (01 R6, R7; 10 R168, R169) -/

namespace Sys2Proof.Machine

/-! ### The row of a request is the arrival of its frame (log entry 1) -/

theorem exec_requestArrival (kind : Byte) (payload : List Byte) (s : State) :
    exec (.requestArrival kind payload) s = done (controllerFrame ⟨kind, payload⟩ s) := rfl

/-- The row that writes one entry of a table is the arrival of its TABLE_WRITE. -/
theorem exec_writeRow {id : Byte} {tab : TableId} (h : TableId.ofCode? id.toNat = some tab) (index : Byte)
    (data : List Byte) (s : State) :
    exec (writeRow tab index data) s = done (controllerFrame ⟨0x41, id :: index :: data⟩ s) := by
  have hcode : ∀ n, TableId.ofCode? n = some tab →
      exec (writeRow tab index data) s = done (controllerFrame ⟨0x41, BitVec.ofNat 8 n :: index :: data⟩ s) := by
    intro n hn
    unfold TableId.ofCode? at hn
    split at hn
    case h_7 => exact absurd hn (by simp)
    all_goals
      cases hn
      rfl
  have hrow := hcode id.toNat h
  rwa [BitVec.ofNat_toNat, BitVec.setWidth_eq] at hrow

theorem exec_requestRow (kind : Byte) (payload : List Byte) (s : State) :
    exec (requestRow kind payload) s = done (controllerFrame ⟨kind, payload⟩ s) := by
  have hkind : ∀ n : Nat, kind.toNat = n → kind = BitVec.ofNat 8 n := fun n hn => by
    rw [← hn, BitVec.ofNat_toNat, BitVec.setWidth_eq]
  unfold requestRow
  split
  next hk =>
    rw [hkind _ hk]
    split
    next id index data =>
      split
      next tab htab =>
        split
        · rfl
        · exact exec_writeRow htab index data s
      next => rfl
    next => rfl
  case h_14 => rfl
  all_goals
    next hk => rw [hkind _ hk]; rfl

/-! ### A write of LINK_ERR_LIMIT (01 R7) -/

theorem applyLinkLimit_moves (p : Port) (s : State) :
    MovesRecord (s.setBadCount p (min (s.badCount p) (s.param .linkErrLimit))) (applyLinkLimit p s) := by
  unfold applyLinkLimit
  dsimp only
  split
  · exact arise_moves _ _
  · exact .refl _

theorem applyLinkLimit_talks (p : Port) (s : State) : Talks s (applyLinkLimit p s) := by
  have hcount : Talks s (s.setBadCount p (min (s.badCount p) (s.param .linkErrLimit))) := by
    cases p <;> exact .of_same rfl rfl rfl
  unfold applyLinkLimit
  dsimp only
  split
  · exact hcount.trans (arise_talks _ _)
  · exact hcount

@[simp] theorem applyLinkLimit_badCount (p q : Port) (s : State) :
    (applyLinkLimit p s).badCount q = if p = q then min (s.badCount p) (s.param .linkErrLimit) else s.badCount q := by
  rw [(applyLinkLimit_moves p s).badCount, State.badCount_setBadCount]

@[simp] theorem applyLinkLimit_param (p : Port) (q : Param) (s : State) :
    (applyLinkLimit p s).param q = s.param q := by
  rw [(applyLinkLimit_moves p s).param, State.setBadCount_param]

@[simp] theorem applyLinkLimit_receiver (p q : Port) (s : State) : (applyLinkLimit p s).receiver q = s.receiver q := by
  rw [(applyLinkLimit_moves p s).receiver, State.receiver_setBadCount]

@[simp] theorem applyLinkLimit_receiveQueue (p : Port) (s : State) :
    (applyLinkLimit p s).links.receiveQueue = s.links.receiveQueue := by
  rw [(applyLinkLimit_moves p s).receiveQueue]
  cases p <;> rfl

/-- A write of LINK_ERR_LIMIT is never refused: it stores the limit and acts on both counters. -/
theorem takeRequest_linkLimit {f : Frame} (hf : writesLinkLimit f) (s : State) :
    ∃ c, (takeRequest f s).1 = applyLinkLimit .controller (applyLinkLimit .field (s.setParam .linkErrLimit c)) := by
  obtain ⟨hi, lo, rfl⟩ : ∃ hi lo, f = ⟨0x41, [0x05, byteOf Param.linkErrLimit.row.index.val, hi, lo]⟩ := by
    obtain ⟨kind, payload⟩ := f
    obtain ⟨rfl, htake, hlen⟩ := hf
    match payload, hlen with
    | [a, b, hi, lo], _ =>
      simp only [List.take_succ_cons, List.take_zero, List.cons.injEq, and_true] at htake
      exact ⟨hi, lo, by rw [htake.1, htake.2]⟩
  rw [takeRequest_config (p := .linkErrLimit) (.inl rfl), admitParam_of_free (by decide) (by decide)]
  exact ⟨_, rfl⟩

/-! ### What every request keeps -/

theorem takeRequest_talks (f : Frame) (s : State) : Talks s (takeRequest f s).1 := by
  by_cases hf : writesLinkLimit f
  · obtain ⟨c, hc⟩ := takeRequest_linkLimit hf s
    rw [hc]
    exact ((setParam_handles s _ c).talks.trans (applyLinkLimit_talks _ _)).trans (applyLinkLimit_talks _ _)
  · exact (takeRequest_handles hf s).talks

theorem takeRequest_receiveQueue (f : Frame) (s : State) :
    (takeRequest f s).1.links.receiveQueue = s.links.receiveQueue := by
  by_cases hf : writesLinkLimit f
  · obtain ⟨c, hc⟩ := takeRequest_linkLimit hf s
    rw [hc, applyLinkLimit_receiveQueue, applyLinkLimit_receiveQueue]
    rfl
  · exact (takeRequest_handles hf s).receiveQueue

theorem takeRequest_receiver (f : Frame) (s : State) (p : Port) :
    (takeRequest f s).1.receiver p = s.receiver p := by
  by_cases hf : writesLinkLimit f
  · obtain ⟨c, hc⟩ := takeRequest_linkLimit hf s
    rw [hc, applyLinkLimit_receiver, applyLinkLimit_receiver]
    cases p <;> rfl
  · exact (takeRequest_handles hf s).receiver p

/-- A request leaves the counters, but a write of LINK_ERR_LIMIT brings them within the new limit. -/
theorem takeRequest_badCount (f : Frame) (s : State) [Decidable (writesLinkLimit f)] :
    (takeRequest f s).1.badCount .controller =
      if writesLinkLimit f then min (s.badCount .controller) ((takeRequest f s).1.param .linkErrLimit)
      else s.badCount .controller := by
  split
  next hf =>
    obtain ⟨c, hc⟩ := takeRequest_linkLimit hf s
    have hstored : (s.setParam .linkErrLimit c).badCount .controller = s.badCount .controller := rfl
    simp [hc, hstored]
  next hf => exact (takeRequest_handles hf s).badCount .controller

/-! ### The receive queue is full, or waits -/

theorem requestArrives_of_full {f : Frame} {s : State} (h : 4 ≤ s.links.receiveQueue.length) :
    requestArrives f s = badFrame .controller s := by
  rw [requestArrives, receiveCapacity, if_neg (by omega)]

/-- With room for the frame, and none for a response, the frame waits. -/
theorem requestArrives_of_waiting {f : Frame} {s : State} (hroom : s.links.receiveQueue.length < 4)
    (hfull : s.heardFrame.upstream.canAccept = false) :
    requestArrives f s =
      s.heardFrame.setLinks { s.heardFrame.links with receiveQueue := s.links.receiveQueue ++ [f] } := by
  rw [requestArrives_of_room hroom]
  exact serve_of_full hfull

/-- A part that serves answers a frame at once. -/
theorem done_controllerFrame_replied {f : Frame} {s : State} [Decidable (writesLinkLimit f)] (hserves : s.serves)
    (hlen : f.payload.length ≤ 32) (hf : ¬(f.kind = 0x49 ∧ f.payload = [])) :
    ∃ t r, done (controllerFrame f s) = .next t ∧ replied f.kind r t ∧ t.links.receiveQueue = [] ∧
      t.receiver .controller = .idle ∧
      t.badCount .controller =
        if writesLinkLimit f then min (s.badCount .controller - 1) (t.param .linkErrLimit)
        else s.badCount .controller - 1 := by
  have htalks := takeRequest_talks f (s.heardFrame.setProgress (some f))
  have hqueue := takeRequest_receiveQueue f (s.heardFrame.setProgress (some f))
  have hreceiver := takeRequest_receiver f (s.heardFrame.setProgress (some f)) .controller
  have hcount := takeRequest_badCount f (s.heardFrame.setProgress (some f))
  rcases htake : takeRequest f (s.heardFrame.setProgress (some f)) with ⟨u, r⟩
  simp only [htake] at htalks hqueue hreceiver hcount
  have hmoves := answered_moves f.kind r (u.setProgress none)
  have hroom : (u.setProgress none).upstream.canAccept = true := by
    obtain ⟨-, -, haccept, hle⟩ := hserves
    have hheard := (heardFrame_talks s).room (s.upstream.hasRoom_iff.mpr ⟨haccept, hle⟩)
    exact ((Upstream.hasRoom_iff _).mp (htalks.room hheard)).1
  refine ⟨_, r, done_controllerFrame_of_serves hserves hlen hf htake, replied_of_room hroom, ?_, ?_, ?_⟩
  · rw [hmoves.record.receiveQueue]
    exact hqueue.trans ((heardFrame_receiveQueue s).trans hserves.1)
  · rw [hmoves.record.receiver]
    exact hreceiver.trans (heardFrame_receiver s)
  · rw [hmoves.record.badCount, hmoves.record.param, ← heardFrame_badCount]
    exact hcount

/-- Settles O14: a part that serves answers at once, one that cannot lets the frame wait or discards it. -/
theorem requestArrivalQueuesOrIsDiscarded : Obligations.RequestArrivalQueuesOrIsDiscarded := by
  intro kind payload s hlen hkind
  have harrives : exec (.requestArrival kind payload) s = done (requestArrives ⟨kind, payload⟩ s) := by
    rw [exec_requestArrival, controllerFrame_of_request (f := ⟨kind, payload⟩) hlen hkind]
  refine ⟨(exec_requestRow kind payload s).symm, fun hserves => ?_, fun hfull => ?_, fun hroom hfull => ⟨?_, ?_⟩⟩
  · have : Decidable (writesLinkLimit ⟨kind, payload⟩) := inferInstanceAs (Decidable (_ ∧ _ ∧ _))
    obtain ⟨t, r, hexec, hreplied, hqueue, hreceiver, hcount⟩ :=
      done_controllerFrame_replied (f := ⟨kind, payload⟩) hserves hlen hkind
    exact ⟨t, r, hexec, hreplied, hqueue, hreceiver, hcount.trans (if_congr Iff.rfl rfl rfl)⟩
  · rw [harrives, requestArrives_of_full hfull]
    rfl
  · intro hlink hkeep
    have hheard := heardFrame_of_absent hlink hkeep
    rw [harrives, requestArrives_of_waiting hroom (by rw [hheard]; exact hfull), hheard]
    rfl
  · intro hline
    have hheard : s.heardFrame.upstream.canAccept = false := by
      rw [Upstream.canAccept, ((heardFrame_talks s).blocked hfull hline).1]
      exact hfull
    refine ⟨_, harrives, ?_⟩
    rw [requestArrives_of_waiting hroom hheard]
    exact ⟨rfl, heardFrame_badCount s, heardFrame_receiver s, heardFrame_controllerLink s, heardFrame_window s⟩

end Sys2Proof.Machine

/-! # The lines and the transmitters (01 R8, R9; 10 R169, R177; 11 R182) -/

namespace Sys2Proof.Machine

/-! ### The commands of the lines -/

theorem exec_readyRise (s : State) :
    exec .readyRise s = .next (serve (startTransmission (s.setLinks { s.links with ready := true }))).refresh := rfl

theorem exec_controllerTxEnd (s : State) :
    exec .controllerTxEnd s =
      .next (serve (startTransmission (s.setLinks { s.links with controllerTx := none }))).refresh := rfl

theorem exec_driveTxEnd (s : State) :
    exec .driveTxEnd s = .next (s.setLinks { s.links with fieldTx := s.links.fieldTx.ended }).refresh := rfl

/-- The state in which READY is high and the head frame has left the queue for the transmitter. -/
def State.headStarted (s : State) (f : UpFrame) (rest : List UpFrame) : State :=
  (s.setUpstream { s.upstream with queue := rest }).setLinks
    { s.links with ready := true, controllerTx := some (lineBytes f.kind.code f.payload) }

/-- The two commands that let a head frame start make the move test next, and then the taking test. -/
theorem exec_of_start {s : State} {c : Instr} {f : UpFrame} {rest : List UpFrame}
    (hqueue : s.upstream.queue = f :: rest)
    (hc : (c = .readyRise ∧ s.links.controllerTx = none) ∨ (c = .controllerTxEnd ∧ s.links.ready = true)) :
    exec c s = .next (serve (moveEvents (s.headStarted f rest))).refresh := by
  obtain ⟨rfl, hidle⟩ | ⟨rfl, hready⟩ := hc
  · rw [exec_readyRise, startTransmission_of_cons (s := s.setLinks { s.links with ready := true }) rfl hidle hqueue]
    rfl
  · have hstarted : (s.setLinks { s.links with controllerTx := none }).withHeadSent f rest = s.headStarted f rest := by
      rw [State.headStarted, ← hready]
      rfl
    rw [exec_controllerTxEnd, startTransmission_of_cons (s := s.setLinks { s.links with controllerTx := none }) hready
      rfl hqueue, hstarted]

/-! ### The move test (11 R182) -/

theorem moveEvents_of_not_canMove {s : State} (h : s.upstream.canMove = false) : moveEvents s = s := by
  rw [moveEvents, moveEntries_of_not_canMove h]
  rfl

theorem moveEvents_of_nil {s : State} (h : s.upstream.events = []) : moveEvents s = s := by
  have hsame : ({ s.upstream with events := [] } : Upstream) = s.upstream := by rw [← h]
  rw [moveEvents, h, moveEntries, hsame]
  rfl

/-- The fifteenth kept frame is the oldest entry, and the others stay. -/
theorem moveEntries_of_fourteen {e : EventEntry} {es : List EventEntry} {u : Upstream} (hkept : keptCount u.queue = 14)
    (hlen : u.queue.length < 16) :
    moveEntries (e :: es) u = { u with queue := u.queue ++ [e.frame], events := es } := by
  have haccept : u.canAccept = true := u.canAccept_iff.mpr (.inl hlen)
  have hmove : u.canMove = true := by simp [Upstream.canMove, haccept, hkept]
  have hframe : keptCount [e.frame] = 1 := rfl
  have hfull : ({ u with queue := u.queue ++ [e.frame] } : Upstream).canMove = false := by
    refine canMove_of_kept ?_
    rw [keptCount_append, hkept, hframe]
  rw [moveEntries, if_pos hmove, joinTail_of_lt hlen, moveEntries_of_not_canMove hfull]

/-! ### The taking test with the transmitter busy (10 R169) -/

/-- While the transmitter is busy a handled request leaves its frame, the kept frames and the receive queue. -/
theorem handleRequest_of_busy (f : Frame) {s : State} (hbusy : s.links.controllerTx ≠ none) :
    (handleRequest f s).links.controllerTx = s.links.controllerTx ∧
    (∀ g ∈ s.upstream.queue, g.displaceable = false → g ∈ (handleRequest f s).upstream.queue) ∧
    (handleRequest f s).links.receiveQueue = s.links.receiveQueue := by
  have htalks := takeRequest_talks f (s.setProgress (some f))
  have hqueue := takeRequest_receiveQueue f (s.setProgress (some f))
  have hline : ((takeRequest f (s.setProgress (some f))).1.setProgress none).lineBusy :=
    .inr (by rw [State.setProgress_links, htalks.busy hbusy]; exact hbusy)
  rw [handleRequest_eq, joinQueue_of_lineBusy hline]
  exact ⟨htalks.busy hbusy, fun g hg hd => mem_joinTail_of_kept (htalks.kept hbusy g hg hd) hd, hqueue⟩

/-- While the transmitter is busy, and with room, the RESPONSE of a handled request stands in the queue. -/
theorem mem_handleRequest (f : Frame) {s : State} (hbusy : s.links.controllerTx ≠ none) (hroom : s.upstream.hasRoom) :
    ∃ r, responseFrame f.kind r ∈ (handleRequest f s).upstream.queue := by
  have htalks := takeRequest_talks f (s.setProgress (some f))
  have hline : ((takeRequest f (s.setProgress (some f))).1.setProgress none).lineBusy :=
    .inr (by rw [State.setProgress_links, htalks.busy hbusy]; exact hbusy)
  rw [handleRequest_eq, joinQueue_of_lineBusy hline]
  exact ⟨_, mem_joinTail_self ((Upstream.hasRoom_iff _).mp (htalks.room hroom)).1⟩

/-- While the transmitter is busy, serving keeps the kept frames, and takes from the receive queue's front alone. -/
theorem serveQueue_of_busy (n : Nat) {s : State} (hbusy : s.links.controllerTx ≠ none) :
    (∀ g ∈ s.upstream.queue, g.displaceable = false → g ∈ (serveQueue n s).upstream.queue) ∧
    (serveQueue n s).links.receiveQueue <:+ s.links.receiveQueue := by
  induction n generalizing s with
  | zero => exact ⟨fun _ hg _ => hg, List.suffix_rfl⟩
  | succ n ih =>
    unfold serveQueue
    split
    · exact ⟨fun _ hg _ => hg, List.suffix_rfl⟩
    next f rest hqueue =>
      split
      · obtain ⟨htx, hkept, hrest⟩ :=
          handleRequest_of_busy f (s := s.setLinks { s.links with receiveQueue := rest }) hbusy
        obtain ⟨hkept', hsuffix⟩ := ih (s := handleRequest f (s.setLinks { s.links with receiveQueue := rest }))
          (by rw [htx]; exact hbusy)
        rw [hrest] at hsuffix
        exact ⟨fun g hg hd => hkept' g (hkept g hg hd) hd, hsuffix.trans (hqueue ▸ List.suffix_cons f rest)⟩
      · exact ⟨fun _ hg _ => hg, List.suffix_rfl⟩

/-- With room and the transmitter busy, the first waiting request is answered. -/
theorem serve_answers {s : State} {g : Frame} {gs : List Frame} (hqueue : s.links.receiveQueue = g :: gs)
    (hfree : s.tables.inProgress = none) (hbusy : s.links.controllerTx ≠ none) (hroom : s.upstream.hasRoom) :
    ∃ r, responseFrame g.kind r ∈ (serve s).upstream.queue ∧ (serve s).links.receiveQueue <:+ gs := by
  obtain ⟨r, hr⟩ := mem_handleRequest g (s := s.setLinks { s.links with receiveQueue := gs }) hbusy hroom
  obtain ⟨htx, -, hrest⟩ := handleRequest_of_busy g (s := s.setLinks { s.links with receiveQueue := gs }) hbusy
  obtain ⟨hkept, hsuffix⟩ := serveQueue_of_busy gs.length
    (s := handleRequest g (s.setLinks { s.links with receiveQueue := gs })) (by rw [htx]; exact hbusy)
  rw [hrest] at hsuffix
  rw [serve_of_cons hqueue hfree ((Upstream.hasRoom_iff _).mp hroom).1]
  exact ⟨r, hkept _ hr (responseFrame_kept _ _), hsuffix⟩

/-- A first waiting request of unknown KIND is answered UNKNOWN, and the taking test is made again. -/
theorem serve_of_unknown {s : State} {g : Frame} {gs : List Frame} (hqueue : s.links.receiveQueue = g :: gs)
    (hfree : s.tables.inProgress = none) (hbusy : s.links.controllerTx ≠ none) (hlen : s.upstream.queue.length < 16)
    (hk : ¬(0x41 ≤ g.kind.toNat ∧ g.kind.toNat ≤ 0x4D)) :
    serve s =
      serveQueue gs.length ((s.setLinks { s.links with receiveQueue := gs }).setUpstream
        { s.upstream with queue := s.upstream.queue ++ [responseFrame g.kind (.plain .unknown)] }) := by
  have haccept : s.upstream.canAccept = true := s.upstream.canAccept_iff.mpr (.inl hlen)
  rw [serve_of_cons hqueue hfree haccept,
    handleRequest_of_take (u := s.setLinks { s.links with receiveQueue := gs }) (takeRequest_of_unknown hk _) hfree,
    joinQueue_of_lineBusy (s := s.setLinks { s.links with receiveQueue := gs }) (.inr hbusy)]
  exact congrArg (fun v => serveQueue gs.length (State.setUpstream _ v)) (joinTail_of_lt hlen)

/-- The queue is full of kept frames once the sixteenth has joined. -/
theorem canAccept_of_sixteen {q : List UpFrame} {f : UpFrame} (hf : f.displaceable = false) (hkept : keptCount q = 15)
    (hlen : q.length = 15) (u : Upstream) : ({ u with queue := q ++ [f] } : Upstream).canAccept = false := by
  have hone : keptCount [f] = 1 := by simp [keptCount, hf]
  have hfull : ¬(({ u with queue := q ++ [f] } : Upstream).canAccept = true) := by
    rw [Upstream.canAccept_iff, hasDisplaceable_iff, keptCount_append, List.length_append, hkept, hlen, hone,
      queueCapacity]
    simp
  simpa using hfull

/-! ### The head frame starts (01 R9) -/

/-- With no entry waiting, or with 15 kept frames left, the start moves nothing into the queue. -/
theorem moveEvents_headStarted_of_stay {s : State} (f : UpFrame) {rest : List UpFrame}
    (h : s.upstream.events = [] ∨ 15 ≤ keptCount rest) : moveEvents (s.headStarted f rest) = s.headStarted f rest :=
  h.elim (fun hevents => moveEvents_of_nil hevents) fun hkept => moveEvents_of_not_canMove (canMove_of_kept hkept)

/-- With 14 kept frames left, the oldest entry takes the room. -/
theorem moveEvents_headStarted_of_fourteen {s : State} (f : UpFrame) {rest : List UpFrame} {e : EventEntry}
    {es : List EventEntry} (hevents : s.upstream.events = e :: es) (hkept : keptCount rest = 14)
    (hlen : rest.length < 16) :
    moveEvents (s.headStarted f rest) =
      (s.headStarted f rest).setUpstream { s.upstream with queue := rest ++ [e.frame], events := es } := by
  have hentries : (s.headStarted f rest).upstream.events = e :: es := hevents
  rw [moveEvents, hentries, moveEntries_of_fourteen hkept hlen]
  rfl

section Start

variable {s : State} {c : Instr} {f : UpFrame} {rest : List UpFrame} {g : Frame} {gs : List Frame}

/-- A start that moves no entry leaves a waiting request the room that the head frame had. -/
theorem exec_start_answers (hqueue : s.upstream.queue = f :: rest)
    (hc : (c = .readyRise ∧ s.links.controllerTx = none) ∨ (c = .controllerTxEnd ∧ s.links.ready = true))
    (hstay : s.upstream.events = [] ∨ 15 ≤ keptCount rest) (hlen : rest.length < 16)
    (hreceive : s.links.receiveQueue = g :: gs) (hfree : s.tables.inProgress = none) :
    ∃ t r, exec c s = .next t ∧ responseFrame g.kind r ∈ t.upstream.queue ∧ t.links.receiveQueue <:+ gs := by
  have hkept := keptCount_le_length rest
  have hroom : (s.headStarted f rest).upstream.hasRoom := ⟨hlen.le, hkept.trans (Nat.le_of_lt_succ hlen)⟩
  obtain ⟨r, hr, hsuffix⟩ :=
    serve_answers (s := s.headStarted f rest) hreceive hfree (Option.some_ne_none _) hroom
  refine ⟨_, r, exec_of_start hqueue hc, ?_⟩
  rw [moveEvents_headStarted_of_stay f hstay]
  exact ⟨hr, hsuffix⟩

/-- The same for a request of unknown KIND, whose RESPONSE is UNKNOWN. -/
theorem exec_start_unknown (hqueue : s.upstream.queue = f :: rest)
    (hc : (c = .readyRise ∧ s.links.controllerTx = none) ∨ (c = .controllerTxEnd ∧ s.links.ready = true))
    (hstay : s.upstream.events = [] ∨ 15 ≤ keptCount rest) (hlen : rest.length < 16)
    (hreceive : s.links.receiveQueue = g :: gs) (hfree : s.tables.inProgress = none)
    (hk : ¬(0x41 ≤ g.kind.toNat ∧ g.kind.toNat ≤ 0x4D)) :
    exec c s =
      .next (serveQueue gs.length
        (((s.headStarted f rest).setLinks { (s.headStarted f rest).links with receiveQueue := gs }).setUpstream
          { s.upstream with queue := rest ++ [responseFrame g.kind (.plain .unknown)] })).refresh := by
  rw [exec_of_start hqueue hc, moveEvents_headStarted_of_stay f hstay,
    serve_of_unknown (s := s.headStarted f rest) hreceive hfree (Option.some_ne_none _) hlen hk]
  rfl

end Start

/-- Where no head frame can start and no request waits, the two tests do nothing. -/
theorem serve_startTransmission_of_stay {s : State} (hline : s.lineBusy ∨ s.upstream.queue = [])
    (hreceive : s.links.receiveQueue = []) : serve (startTransmission s) = s := by
  have hstay : startTransmission s = s :=
    hline.elim (fun h => startTransmission_of_lineBusy h) fun h => startTransmission_of_empty h
  rw [hstay, serve_of_empty hreceive]

/-- Settles O15: the head frame starts, then the move test is made, then the taking test. -/
theorem transmitterStartsTheHeadFrame : Obligations.TransmitterStartsTheHeadFrame := by
  intro s
  refine ⟨fun f rest c u hqueue hc hu => ?_, fun _ hreceive => ⟨fun hidle => ?_, fun hidle => ?_⟩, rfl,
    fun _ => rfl, fun htx => ?_, fun line htx => ?_, fun line waiting htx => ?_⟩
  · change u = s.headStarted f rest at hu
    subst hu
    have hexec := exec_of_start hqueue hc
    refine ⟨fun hevents hreceive => ?_, fun e es hevents hreceive => ⟨fun hkept => ?_, fun hkept hlen => ?_⟩,
      fun g gs hevents hreceive hfree hlen => ⟨fun hk hlast => ?_, ?_⟩,
      fun e es g gs _ hreceive hfree hkept hlen => ⟨fun hk => ?_, ?_⟩⟩
    · rw [hexec, moveEvents_headStarted_of_stay f (.inl hevents), serve_of_empty (s := s.headStarted f rest) hreceive]
    · rw [hexec, moveEvents_headStarted_of_stay f (.inr hkept), serve_of_empty (s := s.headStarted f rest) hreceive]
    · rw [hexec, serve_of_empty (s := moveEvents (s.headStarted f rest)) hreceive,
        moveEvents_headStarted_of_fourteen f hevents hkept hlen]
      rfl
    · rw [exec_start_unknown hqueue hc (.inl hevents) hlen hreceive hfree hk, hlast]
      rfl
    · exact exec_start_answers hqueue hc (.inl hevents) hlen hreceive hfree
    · rw [exec_start_unknown hqueue hc (.inr hkept.ge) (by omega) hreceive hfree hk, serveQueue_of_full]
      exact canAccept_of_sixteen (responseFrame_kept _ _) hkept hlen s.upstream
    · exact exec_start_answers hqueue hc (.inr hkept.ge) (by omega) hreceive hfree
  · rw [exec_readyRise, serve_startTransmission_of_stay (s := s.setLinks { s.links with ready := true })
      (hidle.imp .inr id) hreceive]
  · rw [exec_controllerTxEnd, serve_startTransmission_of_stay (s := s.setLinks { s.links with controllerTx := none })
      (hidle.imp .inl id) hreceive]
  · have hsame : s.setLinks { s.links with fieldTx := .idle } = s := by rw [← htx]; rfl
    rw [exec_driveTxEnd, htx, FieldTx.ended, hsame]
  · rw [exec_driveTxEnd, htx, FieldTx.ended]
  · rw [exec_driveTxEnd, htx, FieldTx.ended]

end Sys2Proof.Machine

/-! # Reads (01 R13; 10 R173, R178; 09 R161, R165) -/

namespace Sys2Proof.Machine

/-! ### TABLE_READ and STATUS_READ, taken -/

theorem takeRequest_tableRead (id i : Byte) (s : State) :
    takeRequest ⟨0x42, [id, i]⟩ s = requestRead [id, i] s :=
  takeRequest_of_act (f := ⟨0x42, [id, i]⟩) rfl (by decide : 2 ≤ 2) (by decide : 2 ≤ 2) s

theorem requestRead_of_none {id : Byte} (h : TableId.ofCode? id.toNat = none) (i : Byte) (s : State) :
    requestRead [id, i] s = (s, .plain .range) := by
  have hid : byteAt [id, i] 0 = id := rfl
  simp only [requestRead, hid, h]

theorem requestRead_of_some {id : Byte} {tab : TableId} (h : TableId.ofCode? id.toNat = some tab) (i : Byte)
    (s : State) :
    requestRead [id, i] s =
      (s, if tab.count ≤ i.toNat then .plain .range else ⟨.ok, s.entryBytes tab i.toNat⟩) := by
  have hid : byteAt [id, i] 0 = id := rfl
  have hi : byteAt [id, i] 1 = i := rfl
  simp only [requestRead, hid, hi, h]
  split <;> rfl

theorem TableId.ofCode?_of_gt {n : Nat} (h : 5 < n) : TableId.ofCode? n = none := by
  obtain ⟨k, rfl⟩ : ∃ k, n = k + 6 := ⟨n - 6, by omega⟩
  rfl

/-- Neither the hearing of the frame nor its being in progress moves a table entry. -/
theorem entryBytes_heard (s : State) (o : Option Frame) (tab : TableId) (i : Nat) :
    (s.heard.setProgress o).entryBytes tab i = s.entryBytes tab i := by cases tab <;> rfl

theorem exec_tableRead_of_none {id : Byte} {s : State} (hquiet : s.quiet) (h : TableId.ofCode? id.toNat = none)
    (i : Byte) : exec (.tableRead [id, i]) s = .next (answered 0x42 (.plain .range) s.heard) :=
  done_controllerFrame_of_refused (f := ⟨0x42, [id, i]⟩) hquiet (by decide : 2 ≤ 32) (by simp)
    fun t => (takeRequest_tableRead id i t).trans (requestRead_of_none h i t)

theorem exec_tableRead_of_some {id : Byte} {tab : TableId} {s : State} (hquiet : s.quiet)
    (h : TableId.ofCode? id.toNat = some tab) (i : Byte) :
    exec (.tableRead [id, i]) s =
      .next (answered 0x42 (if tab.count ≤ i.toNat then .plain .range else ⟨.ok, s.entryBytes tab i.toNat⟩)
        s.heard) := by
  refine done_controllerFrame_of_quiet (f := ⟨0x42, [id, i]⟩) hquiet (by decide : 2 ≤ 32) (by simp) ?_
    (heard_inProgress hquiet)
  rw [takeRequest_tableRead, requestRead_of_some h, entryBytes_heard]

theorem exec_statusRead {s : State} (hquiet : s.quiet) :
    exec (.statusRead []) s = .next (answered 0x48 ⟨.ok, s.heard.statusBytes⟩ (clearSticky s.heard)) :=
  done_controllerFrame_of_quiet (f := ⟨0x48, []⟩) hquiet (by decide : 0 ≤ 32) (by simp) rfl (heard_inProgress hquiet)

theorem clearSticky_record (s : State) (x : Source) :
    (clearSticky s).record x =
      if (s.record x).state = .clear then { s.record x with sticky := false } else s.record x := by
  rw [clearSticky, State.record, State.setFaults_faults]
  exact Vector.getElem_map _ x.row.index.isLt

/-! ### Bytes (01 R13) -/

theorem byteOf_mod (n : Nat) : byteOf (n % 256) = byteOf n := by
  apply BitVec.eq_of_toNat_eq
  simp [byteOf]

theorem bytes16_eq (n : Nat) : bytes16 n = [byteOf (n / 256), byteOf (n % 256)] := by rw [bytes16, byteOf_mod]

theorem bytesSigned16_eq {n : Int} (hlo : -32768 ≤ n) (hhi : n < 32768) :
    bytesSigned16 n = bytes16 (if n < 0 then n + 65536 else n).toNat := by
  have hmod : n % 65536 = if n < 0 then n + 65536 else n := by split <;> omega
  rw [bytesSigned16, hmod]

theorem toNat_byteOf_mod (n : Nat) : (byteOf n).toNat = n % 256 := by rw [byteOf, BitVec.toNat_ofNat]

theorem field16_of_bytes {p : List Byte} {o n : Nat} (hhi : byteAt p o = byteOf (n / 256))
    (hlo : byteAt p (o + 1) = byteOf n) (hn : n < 65536) : field16 p o = n := by
  rw [field16, hhi, hlo, read16, toNat_byteOf_mod, toNat_byteOf_mod]
  omega

/-! ### The entries as read (01, Table entries) -/

theorem entryBytes_program (s : State) (i : Nat) :
    s.entryBytes .program i =
      [byteOf (s.programAt i).kind.code] ++ bytesSigned16 (s.programAt i).tSet ++
      [byteOf (s.programAt i).cap.code] ++ bytes16 (s.programAt i).dryness ++ bytes16 (s.programAt i).confirm ++
      [byteOf (s.programAt i).depth] ++ bytes16 (s.programAt i).duration ++
      [byteOf (s.programAt i).start, byteOf (s.programAt i).wrap,
        match (s.programAt i).untangle with
        | none => 0xFF
        | some u => byteOf u] := by
  simp only [State.entryBytes, PhaseRecord.bytes]
  cases (s.programAt i).untangle <;> rfl

theorem entryBytes_curve (s : State) (i : Nat) :
    s.entryBytes .curve i =
      bytes16 (s.curveAt i).value ++ [if (s.curveAt i).written = true then 0x01 else 0x00] := by
  simp only [State.entryBytes]
  cases (s.curveAt i).written <;> rfl

theorem entryBytes_limits (s : State) (i : Fin 4) :
    s.entryBytes .limits i.val =
      bytesSigned16 (s.limitAt i).high ++ bytesSigned16 (s.limitAt i).restore ++ [byteOf (s.limitAt i).persist] := by
  simp [State.entryBytes, State.limitAt, LimitEntry.bytes]

theorem entryBytes_actions (s : State) (x : Source) :
    s.entryBytes .actions x.row.index.val =
      [byteOf (s.action x).code, byteOf x.row.floor.code, byteOf (s.record x).count] := by
  simp only [State.entryBytes, Source.ofIndex?_index]
  rfl

theorem entryBytes_config (s : State) (p : Param) :
    s.entryBytes .config p.row.index.val = bytes16 (s.param p) := by
  simp only [State.entryBytes, Param.ofIndex?_index]
  rfl

/-! ### The packed bytes of a status response (01, STATUS_READ bytes 9 and 16 to 21) -/

theorem Level.code_inj {a b : Level} (h : a.code = b.code) : a = b := by
  cases a <;> cases b <;> simp [Level.code] at h ⊢

theorem Level.lower_code (a b : Level) : (a.lower b).code = min a.code b.code := by
  unfold Level.lower
  split <;> omega

theorem State.targetLevel_code (s : State) : s.targetLevel.code = min s.heater.wanted.code s.permitted.code :=
  Level.lower_code _ _

theorem State.staging_bit (s : State) :
    64 * bitOf s.staging =
      if s.heater.commanded.code = min s.heater.wanted.code s.permitted.code then 0 else 64 := by
  rw [← s.targetLevel_code]
  by_cases h : s.heater.commanded = s.targetLevel
  · simp [State.staging, bitOf, h]
  · have hcode : s.heater.commanded.code ≠ s.targetLevel.code := fun e => h (Level.code_inj e)
    simp [State.staging, bitOf, h, hcode]

/-- Four numbers below 4, two bits each, are read back from their byte. -/
theorem byte_of_pairs {c : Nat → Nat} (hc : ∀ j, c j < 4) {j : Nat} (hj : j < 4) :
    (byteOf ((List.range 4).map fun i => c i * 4 ^ i).sum).toNat / 4 ^ j % 4 = c j := by
  have hsum : ((List.range 4).map fun i => c i * 4 ^ i).sum = c 0 + c 1 * 4 + c 2 * 16 + c 3 * 64 := by
    simp [List.range_succ]
    omega
  have h0 := hc 0
  have h1 := hc 1
  have h2 := hc 2
  have h3 := hc 3
  rw [hsum, toNat_byteOf_mod]
  interval_cases j <;> omega

theorem recordByte_source (s : State) (x : Source) :
    (s.recordByte (x.row.index.val / 4)).toNat / 4 ^ (x.row.index.val % 4) % 4 = (s.record x).state.code := by
  have hcode : ∀ r : RecordState, r.code < 4 := by intro r; cases r <;> decide
  have hpairs := byte_of_pairs
    (c := fun j => ((Source.ofIndex? (4 * (x.row.index.val / 4) + j)).map fun y => (s.record y).state.code).getD 0)
    (fun j => by cases Source.ofIndex? (4 * (x.row.index.val / 4) + j) <;> simp [hcode])
    (Nat.mod_lt x.row.index.val (by decide : 0 < 4))
  rw [Nat.div_add_mod, Source.ofIndex?_index] at hpairs
  exact hpairs

/-- The number whose lowest bits are given. -/
def bitsValue (b : Nat → Bool) (n : Nat) : Nat := ((List.range n).map fun i => bitOf (b i) * 2 ^ i).sum

theorem bitsValue_succ (b : Nat → Bool) (n : Nat) : bitsValue b (n + 1) = 2 ^ n * bitOf (b n) + bitsValue b n := by
  simp only [bitsValue, List.range_succ, List.map_append, List.sum_append, List.map_cons, List.map_nil, List.sum_cons,
    List.sum_nil]
  ring

theorem bitsValue_lt (b : Nat → Bool) (n : Nat) : bitsValue b n < 2 ^ n := by
  induction n with
  | zero => simp [bitsValue]
  | succ n ih =>
    have hbit : 2 ^ n * bitOf (b n) ≤ 2 ^ n := by cases b n <;> simp [bitOf]
    rw [bitsValue_succ, pow_succ]
    omega

theorem testBit_bitsValue (b : Nat → Bool) {n i : Nat} (h : i < n) : (bitsValue b n).testBit i = b i := by
  induction n with
  | zero => exact absurd h (Nat.not_lt_zero i)
  | succ n ih =>
    rw [bitsValue_succ, Nat.testBit_two_pow_mul_add _ (bitsValue_lt b n)]
    split
    next hi => exact ih hi
    next hi =>
      obtain rfl : i = n := by omega
      rw [Nat.sub_self]
      cases b i <;> rfl

/-- The sticky flag of a source number. -/
def State.stickyAt (s : State) (i : Nat) : Bool := ((Source.ofIndex? i).map fun x => (s.record x).sticky).getD false

theorem State.stickyBits_eq (s : State) : s.stickyBits = bitsValue s.stickyAt 15 := rfl

theorem State.stickyBits_testBit (s : State) (x : Source) :
    s.stickyBits.testBit x.row.index.val = (s.record x).sticky := by
  rw [s.stickyBits_eq, testBit_bitsValue _ x.row.index.isLt, State.stickyAt, Source.ofIndex?_index]
  rfl

theorem statusBytes_record {k : Nat} (h : k < 4) (s : State) : byteAt s.statusBytes (16 + k) = s.recordByte k := by
  interval_cases k <;> rfl

theorem statusBytes_sticky (s : State) : field16 s.statusBytes 20 = s.stickyBits :=
  field16_of_bytes rfl rfl ((s.stickyBits_eq ▸ bitsValue_lt s.stickyAt 15).trans (by decide))

theorem statusBytes_take (s : State) :
    s.statusBytes.take 16 =
      [byteOf s.cycle.state.code, byteOf s.cycle.slot, byteOf s.cycle.phase] ++ bytes16 s.cycle.elapsed ++
      [byteOf s.drum.state.code, byteOf s.drum.dir.code] ++ bytes16 s.drum.setpoint ++
      [byteOf
        (s.heater.commanded.code + 4 * min s.heater.wanted.code s.permitted.code + 16 * s.heater.wanted.code +
          if s.heater.commanded.code = min s.heater.wanted.code s.permitted.code then 0 else 64)] ++
      bytes16 s.moisture.w16 ++ bytes16 s.moisture.streak ++
      [byteOf s.walker.count, byteOf s.faults.effective.code] := by
  rw [← s.staging_bit, ← s.targetLevel_code]
  rfl

theorem statusBytes_drop (s : State) :
    s.statusBytes.drop 22 =
      [byteOf
        ((if s.tables.lock = true then 1 else 0) + (if s.links.service = true then 2 else 0) +
          4 * s.links.keepalive.cause.code),
       byteOf s.upstream.queue.length] ++ bytes16 s.path.missed ++ bytes16 s.upstream.dropped := by
  have hservice : 2 * bitOf s.links.service = if s.links.service = true then 2 else 0 := by
    cases s.links.service <;> rfl
  rw [← hservice]
  rfl

/-- Settles O50: a read answers from the state that has heard it, and each byte is that of its layout. -/
theorem readsAnswerTheStateAsItStands : Obligations.ReadsAnswerTheStateAsItStands := by
  refine ⟨fun s hquiet => ⟨fun id i => ⟨fun hid => ?_, fun tab htab => ⟨fun hi => ?_, fun hi => ?_⟩⟩,
    exec_statusRead hquiet, fun x => clearSticky_record s.heard x⟩, fun s => ?_, bytes16_eq,
    fun n hlo hhi => bytesSigned16_eq hlo hhi, rfl, rfl, rfl, rfl, rfl, rfl, rfl, rfl, rfl⟩
  · exact exec_tableRead_of_none hquiet (TableId.ofCode?_of_gt hid) i
  · rw [exec_tableRead_of_some hquiet htab, if_pos hi]
  · rw [exec_tableRead_of_some hquiet htab, if_neg (by omega)]
  · refine ⟨fun i _ => entryBytes_program s i, fun _ _ => rfl, fun i _ => entryBytes_curve s i, entryBytes_limits s,
      entryBytes_actions s, entryBytes_config s, rfl, statusBytes_take s, fun x => ⟨?_, ?_⟩, statusBytes_drop s⟩
    · rw [statusBytes_record (by have := x.row.index.isLt; omega), recordByte_source]
    · rw [statusBytes_sticky, s.stickyBits_testBit]

end Sys2Proof.Machine

/-! # The reset (01 R1; 02 R24; 11 R183, R187) -/

namespace Sys2Proof.Machine

/-! ### The reset values -/

theorem reset_record (x : Source) : State.reset.record x = ⟨.clear, false, 0⟩ :=
  Vector.getElem_replicate x.row.index.isLt

theorem reset_present (x : Source) : State.reset.present x = false := Vector.getElem_replicate x.row.index.isLt

theorem reset_programAt {i : Nat} (h : i < 128) : State.reset.programAt i = noneRecord := by
  have hget : State.reset.tables.program[i]? = some noneRecord := Vector.getElem?_replicate_of_lt h
  rw [State.programAt, hget]
  rfl

theorem reset_patternAt {i : Nat} (h : i < 32) : State.reset.patternAt i = emptyEntry := by
  have hget : State.reset.tables.pattern[i]? = some emptyEntry := Vector.getElem?_replicate_of_lt h
  rw [State.patternAt, hget]
  rfl

theorem reset_curveAt {i : Nat} (h : i < 9) : State.reset.curveAt i = ⟨0, false⟩ := by
  have hget : State.reset.tables.curve[i]? = some ⟨0, false⟩ := Vector.getElem?_replicate_of_lt h
  rw [State.curveAt, hget]
  rfl

/-- Settles O5: the tables of rows are evaluated, and every other value is the reset state's by definition. -/
theorem resetStateHoldsTheSpecValues : Obligations.ResetStateHoldsTheSpecValues :=
  ⟨by decide, by decide, fun x => ⟨reset_record x, reset_present x⟩, ⟨rfl, rfl, rfl, rfl⟩,
    fun _ h => reset_programAt h, fun _ h => reset_patternAt h, fun _ h => reset_curveAt h,
    rfl, rfl, rfl, rfl, rfl, rfl, rfl, rfl, rfl, rfl, rfl, rfl, rfl, rfl, rfl, rfl, rfl, rfl, rfl, rfl, rfl, rfl, rfl,
    rfl, rfl, rfl, rfl⟩

/-! ### RESET (log entry 17) -/

theorem exec_reset (high : Bool) (s : State) :
    exec (.reset high) s = .next (startTransmission (resetFrom high s)).refresh := rfl

/-- With the reset tables and faults, no entry waiting and at most 12 frames, no flag is up and ATTN is low. -/
theorem settled_of_reset {t : State} {q : List UpFrame} (htables : t.tables = resetTables)
    (hfaults : t.faults = resetFaults) (hupstream : t.upstream = { resetUpstream with queue := q })
    (hq : q.length ≤ 12) : t.settled := by
  have hlevel : t.levelFlagOf = false := by
    rw [State.levelFlagOf, State.param, htables, hupstream]
    exact decide_eq_false (Nat.not_lt.mpr hq)
  have hfault : t.faultTerm = false := by
    have hreset : State.reset.faultTerm = false := by decide
    simp only [State.faultTerm, State.counts, State.record, State.action, hfaults] at hreset ⊢
    exact hreset
  have hattn : t.attnOf = false := by
    rw [State.attnOf, hlevel, hfault, hupstream]
    simp [resetUpstream]
  have hsame : ({ t.upstream with levelFlag := false, attn := false } : Upstream) = t.upstream := by rw [hupstream]; rfl
  rw [State.settled, State.refresh, hlevel, hattn, hsame]
  rfl

theorem resetFrom_links {s : State} {ready : Bool} (h : s.links.ready = ready) (high : Bool) :
    resetLinks (if high then .high250000 else .low115200) ready s.links.service = (resetFrom high s).links := by
  rw [resetFrom, h]

/-- Settles O6: the POWER_UP frame waits while READY is low, and is in the transmitter at once while READY is high. -/
theorem resetCommandGivesResetState : Obligations.ResetCommandGivesResetState := by
  refine fun high s => ⟨fun hready => ?_, fun hready => ?_⟩
  · have hstay : startTransmission (resetFrom high s) = resetFrom high s := startTransmission_of_lineBusy (.inl hready)
    have hsettled : (resetFrom high s).settled :=
      settled_of_reset (q := [powerUpFrame]) rfl rfl rfl (by decide : 1 ≤ 12)
    rw [exec_reset, hstay, hsettled, resetFrom_links hready]
    rfl
  · have hstart : startTransmission (resetFrom high s) = (resetFrom high s).withHeadSent powerUpFrame [] :=
      (startTransmission_of_cons (s := resetFrom high s) hready rfl rfl).trans
        (moveEvents_of_nil (s := (resetFrom high s).withHeadSent powerUpFrame []) rfl)
    have hsettled : ((resetFrom high s).withHeadSent powerUpFrame []).settled :=
      settled_of_reset (q := []) rfl rfl rfl (by decide : 0 ≤ 12)
    rw [exec_reset, hstart, hsettled, resetFrom_links hready]
    rfl

end Sys2Proof.Machine

/-! # A SAMPLE decoded (02 R17 to R19; 01, SAMPLE and DRIVE payloads) -/

namespace Sys2Proof.Machine

theorem clampNat_zero (hi v : Nat) : clampNat 0 hi v = min hi v := by
  unfold clampNat
  split_ifs <;> omega

theorem clampInt_eq {lo hi : Int} (h : lo ≤ hi) (v : Int) : clampInt lo hi v = max lo (min hi v) := by
  unfold clampInt
  split_ifs <;> omega

/-- Two bytes as a signed number are the two's complement reading of the 16-bit value (01 R13). -/
theorem readSigned16_eq (hi lo : Byte) :
    readSigned16 hi lo = (BitVec.ofNat 16 (hi.toNat * 256 + lo.toNat)).toInt := by
  have hhi := hi.isLt
  have hlo := lo.isLt
  have hmod : (hi.toNat * 256 + lo.toNat) % 2 ^ 16 = hi.toNat * 256 + lo.toNat := Nat.mod_eq_of_lt (by omega)
  rw [BitVec.toInt_eq_toNat_cond, BitVec.toNat_ofNat, hmod, readSigned16, read16]
  split_ifs <;> omega

theorem decodeTemperature_valid_iff (x : Int) : (decodeTemperature x).valid = true ↔ -300 ≤ x ∧ x ≤ 1800 := by
  simp [decodeTemperature]

theorem decodeReadings_electrode (p : List Byte) {i : Nat} (h : i < (byteAt p 10).toNat) :
    (decodeReadings p).electrodes[i]? =
      some (min 4095 ((byteAt p (11 + 2 * i)).toNat * 256 + (byteAt p (12 + 2 * i)).toNat)) := by
  have hnext : 11 + 2 * i + 1 = 12 + 2 * i := by omega
  simp [decodeReadings, h, clampNat_zero, field16, read16, hnext]

/-- Settles O29: each field by the lemma on its clamp, its range or its byte order. -/
theorem decodedReadingsFollowTheLayout : Obligations.DecodedReadingsFollowTheLayout := fun p =>
  ⟨rfl, rfl, decodeTemperature_valid_iff _, decodeTemperature_valid_iff _, clampNat_zero _ _,
    clampInt_eq (by decide) _, rfl, by simp [decodeReadings], fun _ h => decodeReadings_electrode p h,
    fun _ => readSigned16_eq _ _, rfl⟩

end Sys2Proof.Machine

/-! # The acts that the blocks share

Every operation that several blocks share (a new selection of the winner, a change of the cycle state, an arising, a going,
a phase begin) is a chain of a few acts. `Act` names them and `Acts` is their closure: what each act keeps, every one of
these operations keeps. -/

namespace Sys2Proof.Machine

/-! ### Acts -/

/-- One act of the operations that the blocks share: the forced reduction, a selection of the winner, a move of the walker,
an event told, and a write of the cycle, the fault unit, or the estimator but for the second's lowest level. -/
inductive Act : State → State → Prop
  | force (s : State) : Act s (forceReduction s)
  | reselect (n : Bool) (s : State) : Act s (reselect n s)
  | walk {s t : State} (h : MovesWalker s t) : Act s t
  | tell (k : EventKind) (a : Nat) (s : State) : Act s (raiseEvent k a s)
  | cycle (c : Cycle) (s : State) : Act s (s.setCycle c)
  | fault (f : Faults) (s : State) : Act s (s.setFaults f)
  | estimate (m : Moisture) (s : State) (h : m.lowest = s.moisture.lowest) : Act s (s.setMoisture m)

/-- A chain of acts. -/
def Acts : State → State → Prop := Relation.ReflTransGen Act

theorem Acts.refl (s : State) : Acts s s := Relation.ReflTransGen.refl

theorem Acts.trans {s t u : State} (h : Acts s t) (k : Acts t u) : Acts s u := Relation.ReflTransGen.trans h k

theorem Act.acts {s t : State} (h : Act s t) : Acts s t := Relation.ReflTransGen.single h

/-- What every act keeps, a chain of acts keeps. -/
theorem Acts.lift {R : State → State → Prop} (hrefl : ∀ s, R s s) (htrans : ∀ {s t u}, R s t → R t u → R s u)
    (hact : ∀ {s t}, Act s t → R s t) {s t : State} (h : Acts s t) : R s t := by
  induction h with
  | refl => exact hrefl s
  | tail _ hlast ih => exact htrans ih (hact hlast)

/-! ### The shared operations are chains of acts -/

theorem MovesWalker.acts {s t : State} (h : MovesWalker s t) : Acts s t := (Act.walk h).acts

theorem forceReduction_acts (s : State) : Acts s (forceReduction s) := (Act.force s).acts

theorem raiseEvent_acts (k : EventKind) (a : Nat) (s : State) : Acts s (raiseEvent k a s) := (Act.tell k a s).acts

theorem setCycle_acts (s : State) (c : Cycle) : Acts s (s.setCycle c) := (Act.cycle c s).acts

theorem setFaults_acts (s : State) (f : Faults) : Acts s (s.setFaults f) := (Act.fault f s).acts

theorem setMoisture_acts (s : State) {m : Moisture} (h : m.lowest = s.moisture.lowest) : Acts s (s.setMoisture m) :=
  (Act.estimate m s h).acts

theorem reselect_acts (n : Bool) (s : State) : Acts s (reselect n s) := (Act.reselect n s).acts

theorem cycleTo_acts (c : CycleState) (s : State) : Acts s (cycleTo c s) :=
  ((setCycle_acts s _).trans (forceReduction_acts _)).trans (reselect_acts _ _)

theorem enterHalted_acts (s : State) : Acts s (enterHalted s) := by
  unfold enterHalted
  split
  · exact .refl s
  · exact cycleTo_acts _ s

theorem workOutAction_acts (s : State) : Acts s (workOutAction s) := by
  have hchange : Acts s (reselect false (forceReduction (s.setFaults { s.faults with effective := s.highestAction }))) :=
    ((setFaults_acts s _).trans (forceReduction_acts _)).trans (reselect_acts _ _)
  unfold workOutAction
  dsimp only
  split
  · exact .refl s
  · split
    · exact hchange.trans (enterHalted_acts _)
    · exact hchange

theorem emptyRingFor_acts (x : Source) (s : State) : Acts s (emptyRingFor x s) := by
  unfold emptyRingFor
  split
  · exact setMoisture_acts s rfl
  · exact .refl s

theorem arise_acts (x : Source) (s : State) : Acts s (arise x s) := by
  unfold arise
  split
  · exact .refl s
  · exact ((((setFaults_acts s _).trans (emptyRingFor_acts x _)).trans (setFaults_acts _ _)).trans
      (raiseEvent_acts _ _ _)).trans (workOutAction_acts _)

theorem goAway_acts (x : Source) (s : State) : Acts s (goAway x s) := by
  have hgone : ∀ r, Acts s ((s.setPresent x false).setRecord x r) := fun r =>
    (setFaults_acts s _).trans (setFaults_acts _ _)
  unfold goAway
  dsimp only
  split
  · split
    · split
      · exact (hgone _).trans (workOutAction_acts _)
      · exact ((hgone _).trans (raiseEvent_acts _ _ _)).trans (workOutAction_acts _)
    · exact setFaults_acts s _
  · exact .refl s

theorem handCondition_acts (x : Source) (b : Bool) (s : State) : Acts s (handCondition x b s) := by
  unfold handCondition
  split
  · exact arise_acts x s
  · exact goAway_acts x s

theorem thresholdCheck_acts (x : Source) (l : LimitEntry) (t : Temperature) (s : State) :
    Acts s (thresholdCheck x l t s) := by
  unfold thresholdCheck
  split
  · split
    · split
      · exact goAway_acts x s
      · exact .refl s
    · split
      · exact arise_acts x s
      · exact .refl s
  · exact .refl s

theorem limitsSample_acts (s : State) : Acts s (limitsSample s) := by
  unfold limitsSample
  split
  · exact ((((thresholdCheck_acts _ _ _ _).trans (thresholdCheck_acts _ _ _ _)).trans
      (handCondition_acts _ _ _)).trans (handCondition_acts _ _ _)).trans (handCondition_acts _ _ _)
  · exact .refl s
  · exact .refl s
  · exact .refl s

/-! ### The cycle controller's and the estimator's work -/

theorem beginPhase_acts (p : Nat) (r : PhaseRecord) (s : State) : Acts s (beginPhase p r s) := by
  unfold beginPhase
  dsimp only
  refine Acts.trans ?_ (reselect_acts _ _)
  refine Acts.trans ?_ (forceReduction_acts _)
  refine Acts.trans ?_ (raiseEvent_acts _ _ _)
  refine Acts.trans ?_ (walkerPhaseBegin_moves _ _).acts
  exact (setCycle_acts s _).trans (setMoisture_acts _ rfl)

theorem completeCycle_acts (s : State) : Acts s (completeCycle s) := (cycleTo_acts _ s).trans (raiseEvent_acts _ _ _)

theorem endPhase_acts (e : EndReason) (s : State) : Acts s (endPhase e s) := by
  have hmark : Acts s (raiseEvent .phaseEnd e.code (s.setCycle (markEnd e s.cycle))) :=
    (setCycle_acts s _).trans (raiseEvent_acts _ _ _)
  unfold endPhase
  dsimp only
  split
  · exact hmark.trans (beginPhase_acts _ _ _)
  · exact hmark.trans (completeCycle_acts _)

theorem suspend_acts (c : SuspendCause) (s : State) : Acts s (suspend c s) :=
  (cycleTo_acts _ s).trans (raiseEvent_acts _ _ _)

theorem endCooldown_acts (s : State) : Acts s (endCooldown s) :=
  ((raiseEvent_acts _ _ s).trans (cycleTo_acts _ _)).trans (raiseEvent_acts _ _ _)

theorem cycleSample_acts (o : Bool) (s : State) : Acts s (cycleSample o s) := by
  unfold cycleSample
  split
  · split
    · split
      · exact completeCycle_acts s
      · exact suspend_acts _ s
    · exact endCooldown_acts s
    · exact .refl s
    · exact .refl s
    · exact .refl s
  · exact .refl s

theorem takeDry_acts (s : State) : Acts s (takeDry s) := by
  unfold takeDry
  split
  · exact endPhase_acts _ s
  · exact .refl s

theorem allShortWork_acts (s : State) : Acts s (allShortWork s) := by
  unfold allShortWork
  dsimp only
  split
  · exact (setMoisture_acts s (by rfl)).trans (arise_acts _ _)
  · exact setMoisture_acts s rfl

theorem contactWork_acts (s0 s : State) : Acts s (contactWork s0 s) := by
  unfold contactWork
  dsimp only
  split
  · exact ((setMoisture_acts s (by rfl)).trans (goAway_acts _ _)).trans (takeDry_acts _)
  · exact (setMoisture_acts s (by rfl)).trans (goAway_acts _ _)

theorem moistureSample_acts (s0 s : State) : Acts s (moistureSample s0 s) := by
  unfold moistureSample
  split
  · split
    · exact allShortWork_acts s
    · exact contactWork_acts s0 s
  · exact .refl s

theorem activeSecond_acts (s : State) : Acts s (activeSecond s) := by
  unfold activeSecond
  split
  · exact setCycle_acts s _
  · exact (setCycle_acts s _).trans (endPhase_acts _ _)

theorem cooldownSecond_acts (s : State) : Acts s (cooldownSecond s) := by
  unfold cooldownSecond
  dsimp only
  split
  · exact (setCycle_acts s _).trans (endCooldown_acts _)
  · exact setCycle_acts s _

theorem cycleTenth_acts (second : Bool) (s : State) : Acts s (cycleTenth second s) := by
  unfold cycleTenth
  split
  · exact setCycle_acts s _
  · split
    · exact activeSecond_acts s
    · exact .refl s
  · split
    · exact cooldownSecond_acts s
    · exact .refl s
  · exact .refl s
  · exact .refl s

/-! ### The walker's tenth -/

theorem notePersist_acts (s : State) : Acts s (notePersist s) := by
  unfold notePersist
  split
  · exact ((setWalker_moves s _).acts.trans (raiseEvent_acts _ _ _)).trans (forceReduction_acts _)
  · exact .refl s

/-- The drum opens a new second for the motor current (05 R90). -/
def State.newSecond (s : State) : State := s.setDrum { s.drum with currentMin := none, currentMax := none }

/-- The judgement of a second is a chain of acts, and then a new second for the motor current. -/
theorem judgeSecond_acts (s : State) : ∃ t, Acts s t ∧ judgeSecond s = t.newSecond := by
  refine ⟨_, ?_, rfl⟩
  split
  · exact ((setWalker_moves s _).acts.trans (raiseEvent_acts _ _ _)).trans (notePersist_acts _)
  · exact (setWalker_moves s _).acts

theorem countTurning_moves (s : State) : MovesWalker s (countTurning s) := by
  unfold countTurning
  split
  · exact setWalker_moves s _
  · exact .refl s

theorem walkerCount_acts (s : State) : Acts s (walkerCount s) := by
  have hcount := (countTurning_moves s).acts
  unfold walkerCount
  dsimp only
  split
  · exact (hcount.trans (endTangled_moves _).acts).trans (reselect_acts _ _)
  · split
    · exact (hcount.trans (advanceWalker_moves _).acts).trans (reselect_acts _ _)
    · exact hcount

/-- What every act and the opening of a second keep, the walker's tenth keeps. -/
theorem walkerTenth_lift {R : State → State → Prop} (hrefl : ∀ s, R s s) (htrans : ∀ {s t u}, R s t → R t u → R s u)
    (hact : ∀ {s t}, Act s t → R s t) (hnew : ∀ s, R s s.newSecond) (second : Bool) (s : State) :
    R s (walkerTenth second s) := by
  have hcount : ∀ t, R t (walkerCount t) := fun t => (walkerCount_acts t).lift hrefl htrans hact
  unfold walkerTenth
  cases second with
  | false => exact hcount s
  | true =>
    obtain ⟨t, hacts, heq⟩ := judgeSecond_acts s
    rw [if_pos rfl, heq]
    exact htrans (htrans (hacts.lift hrefl htrans hact) (hnew t)) (hcount _)

end Sys2Proof.Machine

/-! # What every act keeps

The frame of the acts, what they do to the commanded level and its stamps (04 R56, R64), and what they do to a drum whose
reaction waits for its step 2 (05 R85). -/

namespace Sys2Proof.Machine

/-! ### The frame -/

/-- What no act moves: the queue of commands, the links but for the transmitter, the sample path, the heater but for the
commanded level and its stamps, the drum's stamp and notes, the tables, the two upstream timers, and the model's own marks
of a SAMPLE. -/
def MovesActs (s t : State) : Prop :=
  t = { t with
        pending := s.pending
        links := { s.links with controllerTx := t.links.controllerTx }
        path := s.path
        heater :=
          { s.heater with
            commanded := t.heater.commanded, h1Switch := t.heater.h1Switch, h2Switch := t.heater.h2Switch }
        drum :=
          { t.drum with
            turningEntry := s.drum.turningEntry, ocRun := s.drum.ocRun, currentMin := s.drum.currentMin,
            currentMax := s.drum.currentMax }
        tables := s.tables
        upstream :=
          { t.upstream with copyCounter := s.upstream.copyCounter, reportTimer := s.upstream.reportTimer }
        aux := { s.aux with segFresh := t.aux.segFresh, deferred := t.aux.deferred } }

theorem MovesActs.refl (s : State) : MovesActs s s := rfl

theorem MovesActs.trans {s t u : State} (h : MovesActs s t) (k : MovesActs t u) : MovesActs s u := by
  unfold MovesActs at *; rw [k, h]

theorem MovesAction.movesActs {s t : State} (h : MovesAction s t) : MovesActs s t := by
  unfold MovesAction at h; unfold MovesActs; rw [h]

/-- The two upstream timers are moved by their own blocks alone. -/
theorem joinTail_timers (f : UpFrame) (u : Upstream) :
    (joinTail f u).copyCounter = u.copyCounter ∧ (joinTail f u).reportTimer = u.reportTimer := by
  unfold joinTail
  split
  · exact ⟨rfl, rfl⟩
  · split <;> exact ⟨rfl, rfl⟩

theorem moveEntries_timers (es : List EventEntry) (u : Upstream) :
    (moveEntries es u).copyCounter = u.copyCounter ∧ (moveEntries es u).reportTimer = u.reportTimer := by
  induction es generalizing u with
  | nil => exact ⟨rfl, rfl⟩
  | cons e es ih =>
    unfold moveEntries
    split
    · obtain ⟨hcopy, hreport⟩ := joinTail_timers e.frame u
      exact ⟨(ih _).1.trans hcopy, (ih _).2.trans hreport⟩
    · exact ⟨rfl, rfl⟩

theorem startTransmission_timers (s : State) :
    (startTransmission s).upstream.copyCounter = s.upstream.copyCounter ∧
    (startTransmission s).upstream.reportTimer = s.upstream.reportTimer := by
  obtain hsame | ⟨f, rest, -, -, -, hstart⟩ := startTransmission_cases s
  · rw [hsame]; exact ⟨rfl, rfl⟩
  · rw [hstart]
    exact moveEntries_timers s.upstream.events { s.upstream with queue := rest }

theorem joinQueue_timers (f : UpFrame) (s : State) :
    (joinQueue f s).upstream.copyCounter = s.upstream.copyCounter ∧
    (joinQueue f s).upstream.reportTimer = s.upstream.reportTimer := by
  obtain ⟨hcopy, hreport⟩ := startTransmission_timers (s.setUpstream (joinTail f s.upstream))
  obtain ⟨hcopy', hreport'⟩ := joinTail_timers f s.upstream
  exact ⟨hcopy.trans hcopy', hreport.trans hreport'⟩

theorem raiseEvent_timers (k : EventKind) (a : Nat) (s : State) :
    (raiseEvent k a s).upstream.copyCounter = s.upstream.copyCounter ∧
    (raiseEvent k a s).upstream.reportTimer = s.upstream.reportTimer := by
  have hlist := moveEntries_timers (addEvent k a s.upstream.events)
    { s.upstream with events := addEvent k a s.upstream.events }
  have hstart := startTransmission_timers
    (moveEvents (s.setUpstream { s.upstream with events := addEvent k a s.upstream.events }))
  exact ⟨hstart.1.trans hlist.1, hstart.2.trans hlist.2⟩

theorem raiseEvent_movesActs (k : EventKind) (a : Nat) (s : State) : MovesActs s (raiseEvent k a s) := by
  obtain ⟨hcopy, hreport⟩ := raiseEvent_timers k a s
  unfold MovesActs
  rw [← hcopy, ← hreport, raiseEvent_moves k a s]

theorem Act.frame {s t : State} (h : Act s t) : MovesActs s t := by
  cases h with
  | force => exact (forceReduction_moves s).drum.action.movesActs
  | reselect n => exact (reselect_moves n s).action.movesActs
  | walk h => exact h.drum.action.movesActs
  | tell k a => exact raiseEvent_movesActs k a s
  | cycle => rfl
  | fault => rfl
  | estimate => rfl

theorem Acts.frame {s t : State} (h : Acts s t) : MovesActs s t := h.lift .refl .trans Act.frame

section Frame

variable {s t : State}

theorem MovesActs.path (h : MovesActs s t) : t.path = s.path := by rw [h]

theorem MovesActs.tables (h : MovesActs s t) : t.tables = s.tables := by rw [h]

theorem MovesActs.param (h : MovesActs s t) (p : Param) : t.param p = s.param p := by
  simp only [State.param, h.tables]

theorem MovesActs.wanted (h : MovesActs s t) : t.heater.wanted = s.heater.wanted := by rw [h]

theorem MovesActs.lastUp (h : MovesActs s t) : t.heater.lastUp = s.heater.lastUp := by rw [h]

theorem MovesActs.links (h : MovesActs s t) :
    t.links = { s.links with controllerTx := t.links.controllerTx } := by rw [h]

theorem MovesActs.currents (h : MovesActs s t) :
    t.drum.currentMin = s.drum.currentMin ∧ t.drum.currentMax = s.drum.currentMax := by rw [h]; exact ⟨rfl, rfl⟩

theorem MovesActs.reportTimer (h : MovesActs s t) : t.upstream.reportTimer = s.upstream.reportTimer := by rw [h]

theorem MovesActs.drumDeferred (h : MovesActs s t) : t.aux.drumDeferred = s.aux.drumDeferred := by rw [h]

theorem MovesActs.airflowWaits (h : MovesActs s t) : t.aux.airflowWaits = s.aux.airflowWaits := by rw [h]

end Frame

/-! ### Fields that an event and a forced reduction leave -/

@[simp] theorem raiseEvent_path (k : EventKind) (a : Nat) (s : State) : (raiseEvent k a s).path = s.path := by
  rw [raiseEvent_moves]
@[simp] theorem raiseEvent_moisture (k : EventKind) (a : Nat) (s : State) : (raiseEvent k a s).moisture = s.moisture := by
  rw [raiseEvent_moves]
@[simp] theorem raiseEvent_heater (k : EventKind) (a : Nat) (s : State) : (raiseEvent k a s).heater = s.heater := by
  rw [raiseEvent_moves]
@[simp] theorem raiseEvent_drum (k : EventKind) (a : Nat) (s : State) : (raiseEvent k a s).drum = s.drum := by
  rw [raiseEvent_moves]
@[simp] theorem raiseEvent_walker (k : EventKind) (a : Nat) (s : State) : (raiseEvent k a s).walker = s.walker := by
  rw [raiseEvent_moves]
@[simp] theorem raiseEvent_cycle (k : EventKind) (a : Nat) (s : State) : (raiseEvent k a s).cycle = s.cycle := by
  rw [raiseEvent_moves]
@[simp] theorem raiseEvent_faults (k : EventKind) (a : Nat) (s : State) : (raiseEvent k a s).faults = s.faults := by
  rw [raiseEvent_moves]
@[simp] theorem raiseEvent_tables (k : EventKind) (a : Nat) (s : State) : (raiseEvent k a s).tables = s.tables := by
  rw [raiseEvent_moves]
@[simp] theorem raiseEvent_aux (k : EventKind) (a : Nat) (s : State) : (raiseEvent k a s).aux = s.aux := by
  rw [raiseEvent_moves]

@[simp] theorem forceReduction_links (s : State) : (forceReduction s).links = s.links := by rw [forceReduction_moves]
@[simp] theorem forceReduction_path (s : State) : (forceReduction s).path = s.path := by rw [forceReduction_moves]
@[simp] theorem forceReduction_drum (s : State) : (forceReduction s).drum = s.drum := by rw [forceReduction_moves]
@[simp] theorem forceReduction_walker (s : State) : (forceReduction s).walker = s.walker := by rw [forceReduction_moves]
@[simp] theorem forceReduction_cycle (s : State) : (forceReduction s).cycle = s.cycle := by rw [forceReduction_moves]
@[simp] theorem forceReduction_faults (s : State) : (forceReduction s).faults = s.faults := by rw [forceReduction_moves]
@[simp] theorem forceReduction_tables (s : State) : (forceReduction s).tables = s.tables := by rw [forceReduction_moves]
@[simp] theorem forceReduction_upstream (s : State) : (forceReduction s).upstream = s.upstream := by rw [forceReduction_moves]
@[simp] theorem forceReduction_aux (s : State) : (forceReduction s).aux = s.aux := by rw [forceReduction_moves]

/-! ### The stamps of the stages (04 R56) -/

/-- A stage and its stamp: a stage that is not as it was has the present count, and no stamp is moved to another. -/
def stageStamped (now : Tick) (was is : Bool) (old new : Option Tick) : Prop :=
  (was ≠ is → new = some now) ∧ (new = old ∨ new = some now)

theorem stageStamped.refl (now : Tick) (b : Bool) (o : Option Tick) : stageStamped now b b o o :=
  ⟨fun h => absurd rfl h, .inl rfl⟩

theorem stageStamped.trans {now : Tick} {a b c : Bool} {o p q : Option Tick} (h : stageStamped now a b o p)
    (k : stageStamped now b c p q) : stageStamped now a c o q := by
  obtain ⟨hswitch, hkeep⟩ := h
  obtain ⟨kswitch, kkeep⟩ := k
  refine ⟨fun hne => ?_, ?_⟩
  · by_cases hab : a = b
    · exact kswitch (hab ▸ hne)
    · rcases kkeep with k | k
      · rw [k]; exact hswitch hab
      · exact k
  · rcases kkeep with k | k
    · rw [k]; exact hkeep
    · exact .inr k

theorem switchStamp_stamped (now : Tick) (was is : Bool) (old : Option Tick) :
    stageStamped now was is old (switchStamp was is now old) := by
  unfold switchStamp
  split
  next h => exact ⟨fun hne => absurd h hne, .inl rfl⟩
  next => exact ⟨fun _ => rfl, .inr rfl⟩

/-- Both stages and their stamps, at one count of the time base. -/
structure Stamps (s t : State) : Prop where
  now : t.path.timeBase = s.path.timeBase
  h1  : stageStamped s.path.timeBase s.heater.commanded.h1 t.heater.commanded.h1 s.heater.h1Switch t.heater.h1Switch
  h2  : stageStamped s.path.timeBase s.heater.commanded.h2 t.heater.commanded.h2 s.heater.h2Switch t.heater.h2Switch

theorem Stamps.refl (s : State) : Stamps s s := ⟨rfl, .refl _ _ _, .refl _ _ _⟩

theorem Stamps.trans {s t u : State} (h : Stamps s t) (k : Stamps t u) : Stamps s u :=
  ⟨k.now.trans h.now, h.h1.trans (h.now ▸ k.h1), h.h2.trans (h.now ▸ k.h2)⟩

theorem setCommanded_stamps (l : Level) (s : State) : Stamps s (setCommanded l s) :=
  ⟨rfl, switchStamp_stamped _ _ _ _, switchStamp_stamped _ _ _ _⟩

/-! ### The commanded level falls (04 R64; 03 R44) -/

/-- The commanded level does not rise, its stages are stamped, and the second's lowest level, once it is the commanded
level, follows it. -/
structure Lowers (s t : State) : Prop where
  stamps : Stamps s t
  falls  : t.heater.commanded.code ≤ s.heater.commanded.code
  same   : t.heater.commanded = s.heater.commanded →
    t.heater.h1Switch = s.heater.h1Switch ∧ t.heater.h2Switch = s.heater.h2Switch
  lowest : s.moisture.lowest = s.heater.commanded → t.moisture.lowest = t.heater.commanded

theorem Lowers.refl (s : State) : Lowers s s := ⟨.refl s, le_rfl, fun _ => ⟨rfl, rfl⟩, id⟩

theorem Lowers.trans {s t u : State} (h : Lowers s t) (k : Lowers t u) : Lowers s u where
  stamps := h.stamps.trans k.stamps
  falls := k.falls.trans h.falls
  same heq := by
    have hts : t.heater.commanded = s.heater.commanded :=
      Level.code_inj (le_antisymm h.falls (heq ▸ k.falls))
    obtain ⟨h1, h2⟩ := h.same hts
    obtain ⟨k1, k2⟩ := k.same (heq.trans hts.symm)
    exact ⟨k1.trans h1, k2.trans h2⟩
  lowest := k.lowest ∘ h.lowest

/-- An operation that leaves the count, the level with its stamps and the lowest level lowers nothing. -/
theorem Lowers.of_same {s t : State} (hnow : t.path.timeBase = s.path.timeBase)
    (hlevel : t.heater.commanded = s.heater.commanded)
    (h1 : t.heater.h1Switch = s.heater.h1Switch) (h2 : t.heater.h2Switch = s.heater.h2Switch)
    (hlowest : t.moisture.lowest = s.moisture.lowest) : Lowers s t where
  stamps := ⟨hnow, by rw [hlevel, h1]; exact .refl _ _ _, by rw [hlevel, h2]; exact .refl _ _ _⟩
  falls := by rw [hlevel]
  same _ := ⟨h1, h2⟩
  lowest h := by rw [hlowest, hlevel, h]

theorem Lowers.of_heater {s t : State} (hpath : t.path = s.path) (hheater : t.heater = s.heater)
    (hmoisture : t.moisture = s.moisture) : Lowers s t :=
  .of_same (by rw [hpath]) (by rw [hheater]) (by rw [hheater]) (by rw [hheater]) (by rw [hmoisture])

theorem MovesWalker.lowers {s t : State} (h : MovesWalker s t) : Lowers s t :=
  .of_heater (by rw [h]) (by rw [h]) (by rw [h])

theorem MovesUpstream.lowers {s t : State} (h : MovesUpstream s t) : Lowers s t :=
  .of_heater (by rw [h]) (by rw [h]) (by rw [h])

theorem setCommanded_lowers {l : Level} {s : State} (h : l.code < s.heater.commanded.code) :
    Lowers s (setCommanded l s) where
  stamps := setCommanded_stamps l s
  falls := h.le
  same heq := absurd (congrArg Level.code heq) h.ne
  lowest hlow := by
    show s.moisture.lowest.lower l = l
    rw [hlow, Level.lower, if_neg (by omega)]

theorem forceReduction_lowers (s : State) : Lowers s (forceReduction s) := by
  unfold forceReduction
  split
  next h => exact setCommanded_lowers h
  next => exact .refl s

/-- The entries of the drum are a write of its block and a forced reduction. -/
theorem forceReduction_setDrum_lowers (s : State) (d : Drum) : Lowers s (forceReduction (s.setDrum d)) := by
  have hset : Lowers s (s.setDrum d) := .of_heater rfl rfl rfl
  exact hset.trans (forceReduction_lowers _)

theorem leaveRamp_lowers (s : State) : Lowers s (leaveRamp s) := by
  unfold leaveRamp
  split <;> exact forceReduction_setDrum_lowers s _

theorem actOn_lowers (w : Demand) (s : State) : Lowers s (actOn w s) := by
  unfold actOn
  split
  · split
    · exact .refl s
    · exact forceReduction_setDrum_lowers s _
    · exact forceReduction_setDrum_lowers s _
    · exact forceReduction_setDrum_lowers s _
  · split
    · split
      · exact .of_heater rfl rfl rfl
      · exact leaveRamp_lowers s
    · exact leaveRamp_lowers s
  · split
    · split
      · split
        · exact .refl s
        · exact forceReduction_setDrum_lowers s _
      · exact forceReduction_setDrum_lowers s _
    · exact forceReduction_setDrum_lowers s _
  · exact .refl s
  · split
    · exact .refl s
    · exact .refl s
    · exact .refl s
    · exact .of_heater rfl rfl rfl

theorem meetWinner_lowers (w : Demand) (s : State) : Lowers s (meetWinner w s) := by
  unfold meetWinner
  split
  · exact .of_heater rfl rfl rfl
  · exact actOn_lowers w s

theorem reselect_lowers (n : Bool) (s : State) : Lowers s (reselect n s) := by
  have hwalk := (handWalker_moves s).lowers
  have hselect : Lowers (handWalker s)
      ((handWalker s).setDrum { (handWalker s).drum with winner := (handWalker s).selectDemand }) :=
    .of_heater rfl rfl rfl
  unfold reselect
  dsimp only
  split
  · exact (hwalk.trans hselect).trans (meetWinner_lowers _ _)
  · exact hwalk.trans hselect

theorem Act.lowers {s t : State} (h : Act s t) : Lowers s t := by
  cases h with
  | force => exact forceReduction_lowers s
  | reselect n => exact reselect_lowers n s
  | walk h => exact h.lowers
  | tell k a => exact (raiseEvent_moves k a s).lowers
  | cycle => exact .of_heater rfl rfl rfl
  | fault => exact .of_heater rfl rfl rfl
  | estimate m _ h => exact .of_same rfl rfl rfl rfl h

theorem Acts.lowers {s t : State} (h : Acts s t) : Lowers s t := h.lift .refl .trans Act.lowers

/-! ### A drum whose reaction waits (05 R85) -/

/-- While the drum's reaction waits no act moves its motion. -/
theorem Act.drum_of_deferred {s t : State} (h : Act s t) (hwait : s.aux.drumDeferred = true) :
    t.drum.state = s.drum.state := by
  cases h with
  | force => rw [forceReduction_moves s]
  | reselect n => rw [reselect_deferred n s hwait]
  | walk h => rw [h]
  | tell k a => rw [raiseEvent_moves k a s]
  | cycle => rfl
  | fault => rfl
  | estimate => rfl

theorem Acts.drum_of_deferred {s t : State} (h : Acts s t) :
    s.aux.drumDeferred = true → t.drum.state = s.drum.state := by
  induction h with
  | refl => exact fun _ => rfl
  | tail hchain hlast ih =>
    intro hwait
    exact (hlast.drum_of_deferred ((Acts.frame hchain).drumDeferred.trans hwait)).trans (ih hwait)

end Sys2Proof.Machine

/-! # Records at an arising and at a going, and which of them a block's work can move (09 R158) -/

namespace Sys2Proof.Machine

theorem MovesAction.record_eq {s t : State} (h : MovesAction s t) (x : Source) : t.record x = s.record x := by
  rw [h]; rfl

theorem MovesUpstream.record_eq {s t : State} (h : MovesUpstream s t) (x : Source) : t.record x = s.record x := by
  rw [h]; rfl

theorem MovesPhase.record_eq {s t : State} (h : MovesPhase s t) (x : Source) : t.record x = s.record x := by
  rw [h]; rfl

theorem emptyRingFor_record (x y : Source) (s : State) : (emptyRingFor x s).record y = s.record y := by
  unfold emptyRingFor
  split <;> rfl

theorem arise_record (x y : Source) (s : State) :
    (arise x s).record y =
      if x = y ∧ s.present x = false then ⟨.active, true, satSucc 255 (s.record x).count⟩ else s.record y := by
  unfold arise
  split
  next h => simp [h]
  next h =>
    rw [(workOutAction_moves _).record_eq, (raiseEvent_moves _ _ _).record_eq, State.record_setRecord,
      emptyRingFor_record, State.record_setPresent]
    simp [Bool.eq_false_iff.mpr h]

theorem goAway_record (x y : Source) (s : State) :
    (goAway x s).record y =
      if x = y ∧ s.present x = true ∧ (s.record x).state = .active then
        { s.record x with state := if s.action x = .safeStop then .latched else .clear }
      else s.record y := by
  unfold goAway
  dsimp only
  split
  next hp =>
    split
    next ha =>
      split
      next hs =>
        rw [(workOutAction_moves _).record_eq, State.record_setRecord, State.record_setPresent]
        simp [hp, ha]
      next hs =>
        rw [(workOutAction_moves _).record_eq, (raiseEvent_moves _ _ _).record_eq, State.record_setRecord,
          State.record_setPresent]
        simp [hp, ha]
    next ha => simp [ha]
  next hp => simp [hp]

/-- What a block's work leaves where it hands over conditions of the listed sources alone: every other record and condition,
and the keepalive window. -/
structure Hands (xs : List Source) (s t : State) : Prop where
  keepalive : t.links.keepalive = s.links.keepalive
  record    : ∀ x, x ∉ xs → t.record x = s.record x
  present   : ∀ x, x ∉ xs → t.present x = s.present x

theorem Hands.refl (xs : List Source) (s : State) : Hands xs s s := ⟨rfl, fun _ _ => rfl, fun _ _ => rfl⟩

theorem Hands.trans {xs : List Source} {s t u : State} (h : Hands xs s t) (k : Hands xs t u) : Hands xs s u :=
  ⟨k.keepalive.trans h.keepalive, fun x hx => (k.record x hx).trans (h.record x hx),
    fun x hx => (k.present x hx).trans (h.present x hx)⟩

theorem Hands.mono {xs ys : List Source} {s t : State} (h : Hands xs s t) (hsub : xs ⊆ ys) : Hands ys s t :=
  ⟨h.keepalive, fun x hx => h.record x fun hmem => hx (hsub hmem), fun x hx => h.present x fun hmem => hx (hsub hmem)⟩

theorem MovesPhase.hands {s t : State} (h : MovesPhase s t) (xs : List Source) : Hands xs s t :=
  ⟨h.keepalive, fun x _ => h.record_eq x, fun x _ => h.present x⟩

theorem MovesDrum.hands {s t : State} (h : MovesDrum s t) (xs : List Source) : Hands xs s t := h.phase.hands xs

theorem arise_hands {x : Source} {xs : List Source} (h : x ∈ xs) (s : State) : Hands xs s (arise x s) := by
  refine ⟨arise_keepalive x s, fun y hy => ?_, fun y hy => ?_⟩
  · have hne : x ≠ y := fun e => hy (e ▸ h)
    rw [arise_record, if_neg fun hxy => hne hxy.1]
  · have hne : x ≠ y := fun e => hy (e ▸ h)
    simp [hne]

theorem goAway_hands {x : Source} {xs : List Source} (h : x ∈ xs) (s : State) : Hands xs s (goAway x s) := by
  refine ⟨goAway_keepalive x s, fun y hy => ?_, fun y hy => ?_⟩
  · have hne : x ≠ y := fun e => hy (e ▸ h)
    rw [goAway_record, if_neg fun hxy => hne hxy.1]
  · have hne : x ≠ y := fun e => hy (e ▸ h)
    simp [hne]

theorem handCondition_hands {x : Source} {xs : List Source} (h : x ∈ xs) (b : Bool) (s : State) :
    Hands xs s (handCondition x b s) := by
  unfold handCondition
  split
  · exact arise_hands h s
  · exact goAway_hands h s

theorem thresholdCheck_hands {x : Source} {xs : List Source} (h : x ∈ xs) (l : LimitEntry) (t : Temperature)
    (s : State) : Hands xs s (thresholdCheck x l t s) := by
  unfold thresholdCheck
  split
  · split
    · split
      · exact goAway_hands h s
      · exact .refl _ s
    · split
      · exact arise_hands h s
      · exact .refl _ s
  · exact .refl _ s

/-! ### The blocks' work on a SAMPLE (02 R22) -/

/-- The sources whose conditions a block hands over on a SAMPLE (04 R71, R72; 03 R38; 05 R85 to R89; 09 R155). -/
def SampleBlock.sources : SampleBlock → List Source
  | .limits => [.exhaustHigh, .inletHigh, .exhaustSensor, .inletSensor, .fuseOpen]
  | .moisture => [.electrodeShort]
  | .contacts => [.heaterNoclose, .heaterWeld]
  | .heater => []
  | .drum => [.overcurrent, .motorStall, .drumOverrun]
  | .cycle => []

theorem limitsSample_hands (s : State) : Hands SampleBlock.limits.sources s (limitsSample s) := by
  unfold limitsSample
  split
  · dsimp only
    refine Hands.trans ?_ (handCondition_hands (by decide) _ _)
    refine Hands.trans ?_ (handCondition_hands (by decide) _ _)
    refine Hands.trans ?_ (handCondition_hands (by decide) _ _)
    refine Hands.trans ?_ (thresholdCheck_hands (by decide) _ _ _)
    exact thresholdCheck_hands (by decide) _ _ _
  · exact .refl _ s
  · exact .refl _ s
  · exact .refl _ s

theorem setMoisture_hands (s : State) (m : Moisture) (xs : List Source) : Hands xs s (s.setMoisture m) :=
  ⟨rfl, fun _ _ => rfl, fun _ _ => rfl⟩

theorem setHeater_hands (s : State) (h : Heater) (xs : List Source) : Hands xs s (s.setHeater h) :=
  ⟨rfl, fun _ _ => rfl, fun _ _ => rfl⟩

theorem takeDry_movesPhase (s : State) : MovesPhase s (takeDry s) := by
  unfold takeDry
  split
  · exact endPhase_movesPhase _ s
  · exact .refl s

theorem moistureSample_hands (s0 s : State) : Hands SampleBlock.moisture.sources s (moistureSample s0 s) := by
  have hset := fun m => setMoisture_hands s m SampleBlock.moisture.sources
  unfold moistureSample
  split
  · split
    · unfold allShortWork
      dsimp only
      split
      · exact (hset _).trans (arise_hands (by decide) _)
      · exact hset _
    · unfold contactWork
      dsimp only
      have hgone := fun m => (hset m).trans (goAway_hands (x := .electrodeShort) (by decide) _)
      split
      · exact (hgone _).trans ((takeDry_movesPhase _).hands _)
      · exact hgone _
  · exact .refl _ s

theorem stepContacts_hands (s : State) (xs : List Source) : Hands xs s (stepContacts s) := by
  unfold stepContacts
  split
  · exact .refl _ s
  · exact setHeater_hands s _ xs

theorem contactsSample_hands (s : State) : Hands SampleBlock.contacts.sources s (contactsSample s) :=
  ((stepContacts_hands s _).trans (handCondition_hands (by decide) _ _)).trans (handCondition_hands (by decide) _ _)

theorem regulate_hands (s : State) (xs : List Source) : Hands xs s (regulate s) := by
  unfold regulate
  split
  · split
    · exact .refl _ s
    · exact setHeater_hands s _ xs
  · exact .refl _ s

theorem setCommanded_hands (l : Level) (s : State) (xs : List Source) : Hands xs s (setCommanded l s) :=
  ⟨rfl, fun _ _ => rfl, fun _ _ => rfl⟩

theorem stageStep_hands (s : State) (xs : List Source) : Hands xs s (stageStep s) := by
  unfold stageStep
  split
  · exact setCommanded_hands _ s xs
  · split
    · exact (setCommanded_hands _ s xs).trans (setHeater_hands _ _ xs)
    · exact .refl _ s

theorem heaterSample_hands (s : State) (xs : List Source) : Hands xs s (heaterSample s) :=
  ((regulate_hands s xs).trans ((forceReduction_moves _).drum.hands xs)).trans (stageStep_hands _ xs)

theorem setDrum_hands (s : State) (d : Drum) (xs : List Source) : Hands xs s (s.setDrum d) :=
  (setDrum_movesPhase s d).hands xs

theorem setAux_hands (s : State) (a : Aux) (xs : List Source) : Hands xs s (s.setAux a) :=
  ⟨rfl, fun _ _ => rfl, fun _ _ => rfl⟩

theorem reactDrum_hands (s : State) (xs : List Source) : Hands xs s (reactDrum s) := by
  have hfold : ∀ (l : List Demand) (t : State), Hands xs t (l.foldl (fun t w => actOn w t) t) := by
    intro l
    induction l with
    | nil => exact .refl _
    | cons w ws ih => exact fun t => ((actOn_moves w t).hands xs).trans (ih _)
  exact (setAux_hands s _ xs).trans (hfold _ _)

theorem enterTurning_hands (s : State) : Hands SampleBlock.drum.sources s (enterTurning s) := by
  unfold enterTurning
  dsimp only
  refine Hands.trans ?_ (goAway_hands (by decide) _)
  refine Hands.trans ?_ ((forceReduction_moves _).drum.hands _)
  exact (setDrum_hands s _ _).trans ((setWalker_movesPhase _ _).hands _)

theorem drumEndTest_hands (s : State) : Hands SampleBlock.drum.sources s (drumEndTest s) := by
  unfold drumEndTest
  split
  · split
    · exact enterTurning_hands s
    · exact .refl _ s
  · split
    · exact ((enterDwell_moves s).hands _).trans (goAway_hands (by decide) _)
    · exact .refl _ s
  · exact .refl _ s
  · exact .refl _ s
  · exact .refl _ s

theorem handOvercurrent_hands (h : Option Bool) (s : State) :
    Hands SampleBlock.drum.sources s (handOvercurrent h s) := by
  unfold handOvercurrent
  split
  · exact .refl _ s
  · exact handCondition_hands (by decide) _ s

theorem drumSample_hands (late : Bool) (s : State) : Hands SampleBlock.drum.sources s (drumSample late s) := by
  have hnote : ∀ c n, Hands SampleBlock.drum.sources s (noteCurrent c (s.setDrum { s.drum with ocRun := n })) :=
    fun c n => (setDrum_hands s _ _).trans (setDrum_hands _ _ _)
  have hsteps : ∀ t, Hands SampleBlock.drum.sources t (drumEndTest (stepSetpoint (reactDrum t))) := fun t =>
    ((reactDrum_hands t _).trans ((stepSetpoint_moves _).hands _)).trans (drumEndTest_hands _)
  unfold drumSample
  dsimp only
  cases late
  · exact ((hnote _ _).trans (handOvercurrent_hands _ _)).trans (hsteps _)
  · exact ((hnote _ _).trans (hsteps _)).trans (handOvercurrent_hands _ _)

theorem cycleSample_movesPhase (o : Bool) (s : State) : MovesPhase s (cycleSample o s) := by
  unfold cycleSample
  split
  · split
    · split
      · exact completeCycle_movesPhase s
      · exact (cycleTo_movesPhase _ s).trans (raiseEvent_movesPhase _ _ _)
    · exact endCooldown_movesPhase s
    · exact .refl s
    · exact .refl s
    · exact .refl s
  · exact .refl s

/-- A block's work on a SAMPLE hands over the conditions of its own sources alone. -/
theorem sampleBlock_hands (s0 : State) (opening late : Bool) (b : SampleBlock) (s : State) :
    Hands b.sources s (sampleBlock s0 opening late b s) := by
  cases b with
  | limits => exact limitsSample_hands s
  | moisture => exact moistureSample_hands s0 s
  | contacts => exact contactsSample_hands s
  | heater => exact heaterSample_hands s _
  | drum => exact drumSample_hands late s
  | cycle => exact (cycleSample_movesPhase opening s).hands _

/-- The blocks' work on a SAMPLE from a state on, in an order. -/
def sampleWork (s0 : State) (opening late : Bool) (order : List SampleBlock) (s : State) : State :=
  order.foldl (fun t b => sampleBlock s0 opening late b t) s

theorem sampleWork_append (s0 : State) (opening late : Bool) (first rest : List SampleBlock) (s : State) :
    sampleWork s0 opening late (first ++ rest) s =
      sampleWork s0 opening late rest (sampleWork s0 opening late first s) := List.foldl_append

/-- What no block of a SAMPLE hands over is as it was (01 R7, R10; 02 R27). -/
theorem sampleWork_keeps (s0 : State) (opening late : Bool) (order : List SampleBlock) (s : State) :
    (sampleWork s0 opening late order s).links.keepalive = s.links.keepalive ∧
    (sampleWork s0 opening late order s).silent = s.silent := by
  induction order generalizing s with
  | nil => exact ⟨rfl, rfl⟩
  | cons b bs ih =>
    have hb := sampleBlock_hands s0 opening late b s
    have hsilent : (sampleBlock s0 opening late b s).silent = s.silent := hb.present .fieldSilent (by cases b <;> decide)
    obtain ⟨hkeep, hrest⟩ := ih (sampleBlock s0 opening late b s)
    exact ⟨hkeep.trans hb.keepalive, hrest.trans hsilent⟩

end Sys2Proof.Machine

/-! # An accepted SAMPLE (02 R15 to R23; 01 R5, R7, R8) -/

namespace Sys2Proof.Machine

/-! ### The acceptance -/

@[simp] theorem goodFrame_choice (p : Port) (s : State) : (goodFrame p s).choice = s.choice := by
  have hport : (s.portAfter p (s.badCount p - 1)).choice = s.choice := by cases p <;> rfl
  rw [← hport, goodFrame_moves p s]
  rfl

theorem goodFrame_field_links (s : State) :
    (goodFrame .field s).links =
      { s.links with
        fieldRx := .idle, fieldBad := s.badCount .field - 1,
        controllerTx := (goodFrame .field s).links.controllerTx } := (goodFrame_moves .field s).links

theorem goodFrame_field_faults (s : State) :
    (goodFrame .field s).faults.limits = s.faults.limits ∧ (goodFrame .field s).faults.actions = s.faults.actions := by
  rw [goodFrame_moves .field s]
  exact ⟨rfl, rfl⟩

/-- The present readings of a SAMPLE, as its acceptance leaves the sample path (02 R15 to R20, R26, R29). -/
def State.decodedPath (s : State) (p : List Byte) : SamplePath := (decodeSample p s).path

/-- A SAMPLE's acceptance moves the path, what the going of FIELD_SILENT moves, and the marks of a SAMPLE's work. -/
theorem beginSample_moves (p : List Byte) (s : State) :
    MovesRecord
      ((s.setPath (s.decodedPath p)).setAux
        { s.aux with drumDeferred := true, deferred := [], airflowWaits := s.slowRamp })
      (beginSample p s) := goAway_moves .fieldSilent _

theorem beginSample_silent (p : List Byte) (s : State) : (beginSample p s).silent = false := by
  unfold beginSample State.silent
  simp

theorem accepting_path (s : State) (p : List Byte) : (s.accepting p).path = s.decodedPath p := by
  have hgood : (goodFrame .field s).dropChoice.decodedPath p = s.decodedPath p := by
    show (decodeSample p (goodFrame .field s).dropChoice).path = (decodeSample p s).path
    simp only [decodeSample, State.setPath_path, State.dropChoice, State.setAux_path, State.setAux_param,
      goodFrame_path, goodFrame_param]
  rw [← hgood, State.accepting, (beginSample_moves p _).path]
  rfl

theorem accepting_links (s : State) (p : List Byte) :
    (s.accepting p).links =
      { s.links with
        fieldRx := .idle, fieldBad := s.badCount .field - 1, controllerTx := (s.accepting p).links.controllerTx } := by
  have hbegin := (beginSample_moves p (goodFrame .field s).dropChoice).links
  have hgood : (goodFrame .field s).dropChoice.links = (goodFrame .field s).links := rfl
  rw [State.setAux_links, State.setPath_links, hgood, goodFrame_field_links s] at hbegin
  exact hbegin

theorem accepting_tables (s : State) (p : List Byte) : (s.accepting p).tables = s.tables := by
  rw [State.accepting, (beginSample_moves p _).tables]
  exact goodFrame_tables .field s

theorem accepting_faults (s : State) (p : List Byte) :
    (s.accepting p).faults.limits = s.faults.limits ∧ (s.accepting p).faults.actions = s.faults.actions := by
  rw [State.accepting, beginSample_moves p (goodFrame .field s).dropChoice]
  exact goodFrame_field_faults s

/-! ### The blocks' work and the answer -/

/-- The state after the blocks' work on an accepted SAMPLE, before the DRIVE that answers it (02 R22). -/
def State.worked (s : State) (p : List Byte) : State :=
  sampleWork (s.accepting p) (s.doorOpening p) s.choice.overcurrentLate (fillOrder SampleBlock.all s.choice.sample)
    (reselect false (s.accepting p))

/-- A SAMPLE that is accepted is worked on, answered and handed on (02 R22, R23, R30). -/
theorem fieldFrame_of_accepts {s : State} {p : List Byte} (h : s.accepts p) :
    fieldFrame ⟨0x21, p⟩ s = handOnCopy p (answerDrive (s.worked p)) := by
  obtain ⟨hok, hnew⟩ := h
  have hfresh : (goodFrame .field s).duplicate p = false := by simp [State.duplicate, hnew]
  have hopening : (goodFrame .field s).doorOpening p = s.doorOpening p := by
    simp only [State.doorOpening, goodFrame_path]
  rw [fieldFrame_sample hok, takeSample, hfresh, if_neg Bool.false_ne_true, acceptSample, hopening, goodFrame_choice]
  rfl

theorem worked_moves (s : State) (p : List Byte) : MovesBlocks (s.accepting p) (s.worked p) :=
  sampleBlocks_moves _ _ _ _

theorem worked_path (s : State) (p : List Byte) : (s.worked p).path = s.decodedPath p := by
  rw [← accepting_path s p, worked_moves s p]

theorem worked_tables (s : State) (p : List Byte) : (s.worked p).tables = s.tables := by
  rw [← accepting_tables s p, worked_moves s p]

theorem worked_faults (s : State) (p : List Byte) :
    (s.worked p).faults.limits = s.faults.limits ∧ (s.worked p).faults.actions = s.faults.actions := by
  rw [← (accepting_faults s p).1, ← (accepting_faults s p).2, worked_moves s p]
  exact ⟨rfl, rfl⟩

theorem worked_keeps (s : State) (p : List Byte) :
    (s.worked p).links.keepalive = (s.accepting p).links.keepalive ∧ (s.worked p).silent = false := by
  obtain ⟨hkeep, hsilent⟩ := sampleWork_keeps (s.accepting p) (s.doorOpening p) s.choice.overcurrentLate
    (fillOrder SampleBlock.all s.choice.sample) (reselect false (s.accepting p))
  have hselect := (reselect_movesPhase false (s.accepting p))
  exact ⟨hkeep.trans hselect.keepalive,
    (hsilent.trans (hselect.present .fieldSilent)).trans (beginSample_silent p _)⟩

theorem worked_links (s : State) (p : List Byte) :
    (s.worked p).links =
      { s.links with
        fieldRx := .idle, fieldBad := s.badCount .field - 1, controllerTx := (s.worked p).links.controllerTx } := by
  have hkeep := (worked_keeps s p).1
  have hblocks : (s.worked p).links =
      { (s.accepting p).links with
        keepalive := (s.worked p).links.keepalive, controllerTx := (s.worked p).links.controllerTx } := by
    rw [worked_moves s p]
  rw [hkeep, accepting_links s p] at hblocks
  exact hblocks

/-- What the SAMPLE's answer leaves of the state that the blocks' work has made. -/
theorem answer_moves (s : State) (p : List Byte) :
    MovesUpstream (answerDrive (s.worked p)) (handOnCopy p (answerDrive (s.worked p))).refresh :=
  (handOnCopy_moves p _).trans (refresh_moves _)

theorem exec_sample_of_accepts {s : State} {p : List Byte} (h : s.accepts p) :
    exec (.sample p) s = .next (handOnCopy p (answerDrive (s.worked p))).refresh := by
  rw [exec_sample, fieldFrame_of_accepts h]

/-- The present readings, field by field (02 R15 to R20, R26, R29). -/
theorem decodedPath_eq (s : State) (p : List Byte) :
    s.decodedPath p =
      { s.path with
        lastSeq := some (byteAt p 0)
        missed :=
          match s.path.lastSeq with
          | none => s.path.missed
          | some q => min 65535 (s.path.missed + (byteAt p 0 - q - 1).toNat)
        readings := some (decodeReadings p)
        door := if (byteAt p 1).getLsbD 0 = true then .isClosed else .isOpen
        flags := some (decodeFlags p)
        gapMillis := 0
        gapSpan := 10 * s.param .gapSamples } := by
  simp only [State.decodedPath, decodeSample, State.setPath_path, missedNext]
  cases s.path.lastSeq <;> rfl

/-- The bytes of the DRIVE that answers, on the line (01 R8; 02 R23). -/
def State.answerLine (s : State) : List Byte :=
  lineBytes 0x31
    (drivePayload (s.path.lastSeq.getD 0) s.drum.dir s.drum.setpoint s.heater.commanded.h1 s.heater.commanded.h2
      (s.param .electrodeBurst))

theorem answerDrive_links (s : State) :
    (answerDrive s).links = { s.links with fieldTx := s.links.fieldTx.hand s.answerLine } := rfl

theorem answerDrive_heater (s : State) :
    (answerDrive s).heater = { s.heater with refH1 := s.heater.commanded.h1, refH2 := s.heater.commanded.h2 } := rfl

/-- The links once a SAMPLE has been answered (01 R5, R8). -/
theorem answered_links {s t : State} {p : List Byte} (h : MovesUpstream (answerDrive (s.worked p)) t) :
    t.links =
      { s.links with
        fieldRx := .idle, fieldBad := s.badCount .field - 1,
        fieldTx := s.links.fieldTx.hand (s.worked p).answerLine, controllerTx := t.links.controllerTx } := by
  have hlinks : t.links = { (answerDrive (s.worked p)).links with controllerTx := t.links.controllerTx } := by rw [h]
  rw [answerDrive_links, worked_links] at hlinks
  exact hlinks

/-- Settles O30: the work leaves the path of the acceptance, and the answer reads the drum and the heater as it leaves
them. -/
theorem acceptedSampleIsDecodedAndAnswered : Obligations.AcceptedSampleIsDecodedAndAnswered := by
  intro s p haccepts
  have hmoves := answer_moves s p
  have hlinks := answered_links hmoves
  have hdrum : (handOnCopy p (answerDrive (s.worked p))).refresh.drum = (s.worked p).drum := by rw [hmoves]; rfl
  have hheater : (handOnCopy p (answerDrive (s.worked p))).refresh.heater = (answerDrive (s.worked p)).heater := by
    rw [hmoves]
  have hfaults : (handOnCopy p (answerDrive (s.worked p))).refresh.faults = (s.worked p).faults := by rw [hmoves]; rfl
  have htables : (handOnCopy p (answerDrive (s.worked p))).refresh.tables = s.tables := by
    rw [hmoves.record.tables]
    exact worked_tables s p
  refine ⟨_, exec_sample_of_accepts haccepts, ?_, ?_, ⟨htables, ?_, ?_, ?_⟩, ?_, ?_, ?_, ?_, ?_⟩
  · have hpath : (handOnCopy p (answerDrive (s.worked p))).refresh.path = s.decodedPath p := by
      rw [hmoves.record.path]
      exact worked_path s p
    exact hpath.trans (decodedPath_eq s p)
  · exact (hmoves.present .fieldSilent).trans (worked_keeps s p).2
  · rw [hfaults, (worked_faults s p).1]
  · rw [hfaults, (worked_faults s p).2]
  · rw [hlinks]
  · rw [State.badCount, hlinks]
  · rw [State.receiver, hlinks]
  · rw [hlinks, hdrum, hheater, answerDrive_heater, State.answerLine, worked_path, decodedPath_eq]
    simp only [State.param, worked_tables]
    rfl
  · rw [hheater]; rfl
  · rw [hheater]; rfl

end Sys2Proof.Machine

/-! # The gap expiry (02 R26, R27, R29; 05 R91; 09 R158) -/

namespace Sys2Proof.Machine

theorem exec_gapExpiry (s : State) : exec .gapExpiry s = .next (gapExpiry s).refresh := rfl

/-- A silence that has begun moves what an arising moves. -/
theorem raiseSilence_moves (s : State) : MovesRecord s (raiseSilence s) := by
  have hselect := (arise_moves .fieldSilent s).trans (reselect_moves false _).action.record
  have hstop : ∀ t : State, MovesRecord t (t.setDrum { t.drum with setpoint := 0 }) := fun _ => rfl
  unfold raiseSilence
  dsimp only
  split
  · exact .refl s
  · split
    · exact hselect.trans (hstop _)
    · exact hselect

theorem raiseSilence_of_silent {s : State} (h : s.silent = true) : raiseSilence s = s := if_pos h

/-- A new silence: what the arising and the selection leave, with setpoint 0 for a drum in DECEL. -/
theorem raiseSilence_faults {s : State} (h : s.silent = false) :
    (raiseSilence s).faults = (arise .fieldSilent s).faults := by
  have hselect : (reselect false (arise .fieldSilent s)).faults = (arise .fieldSilent s).faults := by
    rw [reselect_moves false (arise .fieldSilent s)]
  unfold raiseSilence
  rw [h, if_neg Bool.false_ne_true]
  dsimp only
  split <;> exact hselect

theorem raiseSilence_silent (s : State) : (raiseSilence s).silent = true := by
  cases h : s.silent with
  | true => rw [raiseSilence_of_silent h, h]
  | false =>
    rw [State.silent, State.present, raiseSilence_faults h]
    exact (arise_present .fieldSilent .fieldSilent s).trans (by simp)

theorem raiseSilence_record {s : State} (h : s.silent = false) :
    (raiseSilence s).record .fieldSilent = ⟨.active, true, satSucc 255 (s.record .fieldSilent).count⟩ := by
  rw [State.record, raiseSilence_faults h]
  exact (arise_record .fieldSilent .fieldSilent s).trans (if_pos ⟨rfl, h⟩)

theorem raiseSilence_setpoint {s : State} (h : s.silent = false) (hdecel : (raiseSilence s).drum.state = .decel) :
    (raiseSilence s).drum.setpoint = 0 := by
  unfold raiseSilence at hdecel ⊢
  rw [h, if_neg Bool.false_ne_true] at hdecel ⊢
  dsimp only at hdecel ⊢
  split
  · rfl
  next hne => rw [if_neg hne] at hdecel; exact absurd hdecel hne

/-- Settles O17: the expiry is the silence, then the gap DRIVE and the restart of the gap timer. -/
theorem gapExpiryBringsSilenceAndTheGapDrive : Obligations.GapExpiryBringsSilenceAndTheGapDrive := by
  intro s
  have hmoves := raiseSilence_moves s
  refine ⟨_, exec_gapExpiry s, raiseSilence_silent s, ?_, rfl, rfl, ?_, ⟨?_, ?_, ?_, ?_⟩,
    fun h => ⟨raiseSilence_record h, raiseSilence_setpoint h⟩, fun h => ?_⟩
  · show (raiseSilence s).links.fieldTx.hand (lineBytes 0x31 (drivePayload ((raiseSilence s).path.lastSeq.getD 0) .stop 0
      false false ((raiseSilence s).param .electrodeBurst))) = _
    rw [hmoves.links, hmoves.path, hmoves.param]
    rfl
  · show { (raiseSilence s).path with gapMillis := 0, gapSpan := 10 * (raiseSilence s).param .gapSamples } = _
    rw [hmoves.path, hmoves.param]
  · exact hmoves.tables
  · show (raiseSilence s).faults.limits = _
    rw [hmoves]
  · show (raiseSilence s).faults.actions = _
    rw [hmoves]
  · have hlinks : (gapExpiry s).refresh.links =
        { (raiseSilence s).links with fieldTx := (gapExpiry s).refresh.links.fieldTx } := rfl
    rw [hmoves.links] at hlinks
    rw [hlinks]
  · unfold gapExpiry
    rw [raiseSilence_of_silent h]
    rfl

end Sys2Proof.Machine

/-! # The coming tenth (02 R24): what its beginning counts, what the second's judgement moves, and the rows that it does not
bring (log entry 2) -/

namespace Sys2Proof.Machine

/-! ### The beginning of a tenth -/

@[simp] theorem beginTenth_path (s : State) : (beginTenth s).path = s.pathAfterTenth := by rw [beginTenth_eq]; rfl
@[simp] theorem beginTenth_moisture (s : State) : (beginTenth s).moisture = s.moisture := by rw [beginTenth_eq]; rfl
@[simp] theorem beginTenth_heater (s : State) : (beginTenth s).heater = s.heater := by rw [beginTenth_eq]; rfl
@[simp] theorem beginTenth_walker (s : State) : (beginTenth s).walker = s.walker := by rw [beginTenth_eq]; rfl
@[simp] theorem beginTenth_cycle (s : State) : (beginTenth s).cycle = s.cycle := by rw [beginTenth_eq]; rfl
@[simp] theorem beginTenth_faults (s : State) : (beginTenth s).faults = s.faults := by rw [beginTenth_eq]; rfl
@[simp] theorem beginTenth_upstream (s : State) : (beginTenth s).upstream = s.upstream := by rw [beginTenth_eq]; rfl
@[simp] theorem beginTenth_segFresh (s : State) : (beginTenth s).aux.segFresh = false := by rw [beginTenth_eq]; rfl
@[simp] theorem beginTenth_silent (s : State) : (beginTenth s).silent = s.silent := by rw [beginTenth_eq]; rfl
@[simp] theorem beginTenth_exhaust (s : State) : (beginTenth s).exhaust? = s.exhaust? := by rw [beginTenth_eq]; rfl

/-- The drum counts the tenth for the span it is in (05 R83, R86, R88). -/
theorem beginTenth_drum (s : State) :
    (beginTenth s).drum =
      { s.drum with
        dwell := if s.drum.state = .dwell then s.drum.dwell.map (· + 1) else s.drum.dwell
        spinup := if s.drum.state = .ramp then s.drum.spinup.map (· + 1) else s.drum.spinup
        coast := if s.drum.state = .decel ∧ s.silent = false then s.drum.coast.map (· + 1) else s.drum.coast } := by
  have htick : (tickTenth s).drum = s.drum := rfl
  have hsilent : (tickTenth s).silent = s.silent := rfl
  unfold beginTenth countTenth
  rw [htick, hsilent]
  cases hstate : s.drum.state with
  | dwell => simp [hstate]
  | ramp => simp [hstate]
  | turning => simp [htick]
  | stopped => simp [htick]
  | decel =>
    cases s.silent with
    | false => simp [hstate]
    | true => simp [htick]

@[simp] theorem beginTenth_drumState (s : State) : (beginTenth s).drum.state = s.drum.state := by rw [beginTenth_drum]
@[simp] theorem beginTenth_winner (s : State) : (beginTenth s).drum.winner = s.drum.winner := by rw [beginTenth_drum]
@[simp] theorem beginTenth_currentMin (s : State) : (beginTenth s).drum.currentMin = s.drum.currentMin := by
  rw [beginTenth_drum]
@[simp] theorem beginTenth_currentMax (s : State) : (beginTenth s).drum.currentMax = s.drum.currentMax := by
  rw [beginTenth_drum]

@[simp] theorem beginTenth_holds (s : State) : (beginTenth s).holds = s.holds := by simp [State.holds]

@[simp] theorem beginTenth_dwellSpan (s : State) : (beginTenth s).dwellSpan = s.dwellSpan := by
  simp [State.dwellSpan]

@[simp] theorem beginTenth_segmentLength (s : State) : (beginTenth s).segmentLength = s.segmentLength := by
  simp [State.segmentLength]

/-! ### What is due at the coming tenth -/

/-- A count that a tenth has raised is at most one more than it was. -/
theorem getD_map_succ_le (o : Option Nat) : (o.map (· + 1)).getD 0 ≤ o.getD 0 + 1 := by cases o <;> simp

theorem dwellDue_of_short {s : State} (h : s.drum.state = .dwell → s.drum.dwell.getD 0 + 1 < s.dwellSpan) :
    (beginTenth s).dwellDue = false := by
  by_cases hstate : s.drum.state = .dwell
  · have hcount := getD_map_succ_le s.drum.dwell
    have hshort := h hstate
    simp only [State.dwellDue, beginTenth_drum, beginTenth_dwellSpan, hstate, if_true, Bool.and_eq_false_iff,
      decide_eq_false_iff_not]
    exact .inr (by omega)
  · simp [State.dwellDue, hstate]

theorem stallDue_of_short {s : State}
    (h : s.drum.state = .ramp → s.drum.spinup.getD 0 + 1 < 10 * s.param .spinupLimit ∨ s.drum.stallMark = true) :
    (beginTenth s).stallDue = false := by
  by_cases hstate : s.drum.state = .ramp
  · have hcount := getD_map_succ_le s.drum.spinup
    simp only [State.stallDue, beginTenth_drum, beginTenth_param, hstate, if_true, Bool.and_eq_false_iff,
      decide_eq_false_iff_not]
    rcases h hstate with hshort | hmark
    · exact .inl (.inr (by omega))
    · exact .inr (by simp [hmark])
  · simp [State.stallDue, hstate]

theorem overrunDue_of_short {s : State}
    (h : s.drum.state = .decel →
      s.drum.coast.getD 0 + 1 < 10 * s.param .coastLimit ∨ s.drum.overrunMark = true ∨ s.silent = true) :
    (beginTenth s).overrunDue = false := by
  by_cases hstate : s.drum.state = .decel
  · have hcount := getD_map_succ_le s.drum.coast
    simp only [State.overrunDue, beginTenth_drum, beginTenth_param, beginTenth_silent, hstate, true_and,
      Bool.and_eq_false_iff, decide_eq_false_iff_not]
    rcases h hstate with hshort | hmark | hsilent
    · refine .inl (.inr ?_)
      split <;> omega
    · exact .inr (by simp [hmark])
    · exact .inl (.inl (.inr (by simp [hsilent])))
  · simp [State.overrunDue, hstate]

/-- What the walker's count reads of a state: nothing of the drum but its state, and of the walker its segment. -/
theorem judgeSecond_drum (s : State) :
    (judgeSecond s).drum = { s.drum with currentMin := none, currentMax := none } := by
  have hdetect : (detectTangle s).drum = s.drum := by
    unfold detectTangle notePersist
    split <;> simp
  unfold judgeSecond
  dsimp only
  split
  · rw [State.setDrum_drum, hdetect]
  · rfl

theorem judgeSecond_aux (s : State) : (judgeSecond s).aux = s.aux := by
  have hdetect : (detectTangle s).aux = s.aux := by
    unfold detectTangle notePersist
    split <;> simp
  unfold judgeSecond
  dsimp only
  split
  · rw [State.setDrum_aux, hdetect]
  · rfl

/-- The judgement of a second moves the score, and at a tangle the count, the persist flag and the pending early end
(06 R105, R106, R111). -/
theorem judgeSecond_walker (s : State) :
    (judgeSecond s).walker =
      { s.walker with
        score := (judgeSecond s).walker.score, count := (judgeSecond s).walker.count,
        early := s.tangleDue || s.walker.early, persist := (judgeSecond s).walker.persist } := by
  have hdetect : (detectTangle s).walker =
      { s.walker with
        score := (detectTangle s).walker.score, count := (detectTangle s).walker.count, early := true,
        persist := (detectTangle s).walker.persist } := by
    unfold detectTangle notePersist
    split <;> simp
  unfold judgeSecond
  dsimp only
  split
  next h => rw [State.setDrum_walker, hdetect, h, Bool.true_or]
  next h => rw [Bool.eq_false_iff.mpr h, Bool.false_or]; rfl

/-- The judgement's part in what the segment's count reads. -/
theorem judgeSecond_param (s : State) (p : Param) : (judgeSecond s).param p = s.param p := by
  rw [State.param, judgeSecond_moves]
  rfl

/-- The walker's tenth after the judgement of the second, if there is one, reads a drum and a segment that stand as they
were, with an early end pending where that second detects a tangle (06 R100, R105). -/
structure Judged (s u : State) : Prop where
  drumState : u.drum.state = s.drum.state
  holds     : u.holds = s.holds
  fresh     : u.aux.segFresh = s.aux.segFresh
  turning   : u.walker.turning = s.walker.turning
  length    : u.segmentLength = s.segmentLength
  param     : ∀ p, u.param p = s.param p

theorem Judged.refl (s : State) : Judged s s := ⟨rfl, rfl, rfl, rfl, rfl, fun _ => rfl⟩

theorem judgeSecond_judged (s : State) : Judged s (judgeSecond s) where
  drumState := by rw [judgeSecond_drum]
  holds := by rw [State.holds, judgeSecond_drum]; rfl
  fresh := by rw [judgeSecond_aux]
  turning := by rw [judgeSecond_walker]
  length := by
    rw [State.segmentLength, judgeSecond_walker, judgeSecond_param]
    rfl
  param := judgeSecond_param s

theorem beginTenth_judged (s : State) :
    Judged (beginTenth s) (if s.secondNext then judgeSecond (beginTenth s) else beginTenth s) := by
  split
  · exact judgeSecond_judged _
  · exact .refl _

/-- A segment ends early, or by its length, at a tenth that the walker counts alone, from a time that has reached its
end (06 R100, R107). -/
theorem countTurning_of_timed {s : State} (h : s.segmentTimed = true) :
    countTurning s = s.setWalker { s.walker with turning := satSucc 2550 s.walker.turning } := if_pos h

theorem countTurning_of_untimed {s : State} (h : s.segmentTimed = false) : countTurning s = s := by
  simp [countTurning, h]

theorem countTurning_segmentTimed (s : State) : (countTurning s).segmentTimed = s.segmentTimed := by
  unfold countTurning
  split <;> rfl

theorem segmentTimed_iff (s : State) :
    s.segmentTimed = true ↔ s.drum.state = .turning ∧ s.holds = true ∧ s.aux.segFresh = false := by
  simp [State.segmentTimed, and_assoc]

/-- A segment that is not timed, or ends early, or is short of its length does not complete it. -/
theorem segmentDue_of_short {s : State}
    (h : s.drum.state ≠ .turning ∨ s.holds = false ∨ s.walker.early = true ∨
      satSucc 2550 s.walker.turning < s.segmentLength) : (countTurning s).segmentDue = false := by
  cases htimed : s.segmentTimed with
  | false =>
    rw [State.segmentDue, countTurning_segmentTimed, htimed]
    rfl
  | true =>
    obtain ⟨hstate, hholds, -⟩ := (segmentTimed_iff s).mp htimed
    rw [countTurning_of_timed htimed, State.segmentDue]
    simp only [State.setWalker_walker, Bool.and_eq_false_iff]
    rcases h with h | h | h | h
    · exact absurd hstate h
    · simp [hholds] at h
    · exact .inl (.inr (by simp [h]))
    · exact .inr (decide_eq_false (Nat.not_le.mpr h))

/-- A segment that is not timed, or has no early end pending, or is short of MIN_TURN does not end early. -/
theorem earlyDue_of_short {s : State}
    (h : s.drum.state ≠ .turning ∨ s.holds = false ∨ s.walker.early = false ∨
      satSucc 2550 s.walker.turning < s.param .minTurn) : (countTurning s).earlyDue = false := by
  cases htimed : s.segmentTimed with
  | false =>
    rw [State.earlyDue, countTurning_segmentTimed, htimed]
    rfl
  | true =>
    obtain ⟨hstate, hholds, -⟩ := (segmentTimed_iff s).mp htimed
    rw [countTurning_of_timed htimed, State.earlyDue]
    simp only [State.setWalker_walker, Bool.and_eq_false_iff]
    rcases h with h | h | h | h
    · exact absurd hstate h
    · simp [hholds] at h
    · exact .inl (.inr h)
    · exact .inr (decide_eq_false (Nat.not_le.mpr h))

/-- A tangle comes in ACTIVE, under the walker outside a pass, with no early end pending, from a score and a ripple at
their limits (06 R104, R105). -/
theorem tangleDue_iff (s : State) :
    s.tangleDue = true ↔
      s.cycle.state = .active ∧ s.holds = true ∧ s.walker.pass = false ∧ s.walker.early = false ∧
      s.turningSettled = true ∧ s.param .tangleScore ≤ satSucc 10 s.walker.score ∧
      ∃ lo hi, s.drum.currentMin = some lo ∧ s.drum.currentMax = some hi ∧ s.param .tangleRipple ≤ hi - lo := by
  unfold State.tangleDue State.rippleHigh State.ripple?
  by_cases h : s.cycle.state = .active ∧ s.holds = true ∧ ¬ s.walker.pass = true ∧ ¬ s.walker.early = true ∧
      s.turningSettled = true
  · obtain ⟨hactive, hholds, hpass, hearly, hsettled⟩ := h
    cases s.drum.currentMin <;> cases s.drum.currentMax <;> simp_all [and_comm]
  · rw [if_neg h]
    simp only [Bool.false_and, Bool.false_eq_true, false_iff]
    rintro ⟨hactive, hholds, hpass, hearly, hsettled, -⟩
    exact h ⟨hactive, hholds, by simp [hpass], by simp [hearly], hsettled⟩

/-! ### The end of the phase and of COOLDOWN -/

@[simp] theorem beginTenth_settleNext (s : State) : (beginTenth s).settleNext = s.settleNext := by
  simp [State.settleNext]

theorem spanReached_iff (s : State) :
    s.spanReached = true ↔
      s.cycle.state = .active ∧ s.faults.effective ≠ .coolRun ∧ s.silent = false ∧
      60 * s.cycle.record.duration ≤ s.cycle.elapsed + 1 := by
  have hspan : s.durationSpan = 60 * s.cycle.record.duration := rfl
  rw [State.spanReached, Bool.and_eq_true, decide_eq_true_eq, hspan]
  simp [State.phaseTimeRuns, and_assoc]

@[simp] theorem beginTenth_spanReached (s : State) : (beginTenth s).spanReached = s.spanReached := by
  rw [Bool.eq_iff_iff, spanReached_iff, spanReached_iff]
  simp

@[simp] theorem beginTenth_phaseEndDue (s : State) : (beginTenth s).phaseEndDue = s.phaseEndDue := by
  simp [State.phaseEndDue]

/-- What each end of a phase needs (07 R128 to R131). -/
theorem phaseEndDue_cases {s : State} {e : EndReason} (h : s.phaseEndDue = some e) :
    (e = .timeout ∧ s.cycle.record.kind = .heatToDry ∧ s.spanReached = true) ∨
    (e = .cooled ∧ s.cycle.record.kind = .cool ∧ 10 ≤ s.settleNext) ∨
    (e = .duration ∧ s.cycle.record.kind ≠ .heatToDry ∧ s.spanReached = true ∧
      ¬(s.cycle.record.kind = .cool ∧ 10 ≤ s.settleNext)) := by
  unfold State.phaseEndDue at h
  cases hkind : s.cycle.record.kind with
  | none => simp [hkind] at h
  | cool =>
    by_cases hsettle : 10 ≤ s.settleNext
    · simp [hkind, hsettle] at h
      simp [← h, hsettle]
    · simp [hkind, hsettle] at h
      simp [← h.2, h.1, hsettle]
  | heatToDry => simp [hkind] at h; simp [← h.2, h.1]
  | heatTimed => simp [hkind] at h; simp [← h.2, h.1]
  | tumble => simp [hkind] at h; simp [← h.2, h.1]
  | anticrease => simp [hkind] at h; simp [← h.2, h.1]

/-- A phase end comes at a second expiry in ACTIVE. -/
theorem endNext_eq_some {s : State} {e : EndReason} (h : s.endNext = some e) :
    s.secondNext = true ∧ s.cycle.state = .active ∧ s.phaseEndDue = some e := by
  unfold State.endNext at h
  split at h
  next hnow => exact ⟨hnow.1, hnow.2, by rwa [beginTenth_phaseEndDue] at h⟩
  next => cases h

/-! ### Rows out of time (log entry 2) -/

theorem done_dueTenth_of_not {due : Bool} (h : due = false) (b : TenthBlock) (s : State) :
    done (dueTenth due b s) = .next s.refresh := by
  rw [h]
  rfl

theorem exec_secondExpiry_of_not {s : State} (h : s.secondNext = false) : exec .secondExpiry s = .next s.refresh := by
  have hexec : exec .secondExpiry s = done (if s.secondNext then runTenth [] s else s) := rfl
  rw [hexec, h]
  rfl

/-- The rows of a phase end whose reason the coming tenth does not bring. -/
theorem endNext_ne_of {s : State} {e : EndReason}
    (h : ¬(s.secondNext = true ∧ s.cycle.state = .active ∧ s.phaseEndDue = some e)) :
    decide (s.endNext = some e) = false := decide_eq_false fun heq => h (endNext_eq_some heq)

/-- A phase whose time does not run, or is short of its span, ends neither by TIMEOUT nor by DURATION. -/
theorem spanReached_of_short {s : State}
    (h : s.cycle.state ≠ .active ∨ s.cycle.elapsed + 1 < 60 * s.cycle.record.duration ∨
      s.faults.effective = .coolRun ∨ s.silent = true) : s.spanReached = false := by
  rw [← Bool.not_eq_true, spanReached_iff]
  rintro ⟨hactive, hrun, hheard, hspan⟩
  rcases h with h | h | h | h
  · exact h hactive
  · omega
  · exact hrun h
  · simp [hheard] at h

theorem timeout_not_next {s : State} (h : s.spanReached = false ∨ s.cycle.record.kind ≠ .heatToDry) :
    decide (s.endNext = some .timeout) = false := by
  refine endNext_ne_of fun ⟨_, _, hend⟩ => ?_
  obtain ⟨-, hkind, hspan⟩ | ⟨he, -⟩ | ⟨he, -⟩ := phaseEndDue_cases hend
  · rcases h with h | h
    · simp [hspan] at h
    · exact h hkind
  · cases he
  · cases he

theorem duration_not_next {s : State}
    (h : s.spanReached = false ∨ s.cycle.record.kind = .heatToDry ∨ (s.cycle.record.kind = .cool ∧ 10 ≤ s.settleNext)) :
    decide (s.endNext = some .duration) = false := by
  refine endNext_ne_of fun ⟨_, _, hend⟩ => ?_
  obtain ⟨he, -⟩ | ⟨he, -⟩ | ⟨-, hkind, hspan, hcool⟩ := phaseEndDue_cases hend
  · cases he
  · cases he
  · rcases h with h | h | h
    · simp [hspan] at h
    · exact hkind h
    · exact hcool h

theorem cooled_not_next {s : State}
    (h : s.cycle.state ≠ .active ∨ s.cycle.record.kind ≠ .cool ∨ s.settleNext < 10) :
    decide (s.endNext = some .cooled) = false := by
  refine endNext_ne_of fun ⟨_, hactive, hend⟩ => ?_
  obtain ⟨he, -⟩ | ⟨-, hkind, hsettle⟩ | ⟨he, -⟩ := phaseEndDue_cases hend
  · cases he
  · rcases h with h | h | h
    · exact h hactive
    · exact h hkind
    · omega
  · cases he

theorem cooldownNext_of_short {s : State}
    (h : s.secondNext = false ∨ s.cycle.state ≠ .cooldown ∨
      ∃ n, s.cycle.cooldown = some n ∧ n + 1 < 60 * s.param .cooldownLimit) : s.cooldownNext = false := by
  rcases h with h | h | ⟨n, hn, hshort⟩
  · simp [State.cooldownNext, h]
  · simp [State.cooldownNext, h]
  · simp [State.cooldownNext, State.cooldownSpent, hn, hshort]

theorem reportNext_of_short {s : State}
    (h : s.secondNext = false ∨ s.param .reportInterval = 0 ∨ s.upstream.reportTimer + 1 < s.param .reportInterval) :
    s.reportNext = false := by
  rcases h with h | h | h <;> simp [State.reportNext, h]

/-- A tangle that the coming second does not judge, or whose judgement is short of a limit. -/
theorem tangleNext_of_short {s : State}
    (h : s.secondNext = false ∨ s.cycle.state ≠ .active ∨ s.holds = false ∨ s.walker.pass = true ∨
      s.walker.early = true ∨ s.drum.state ≠ .turning ∨ satSucc 10 s.walker.score < s.param .tangleScore ∨
      ∀ lo hi, s.drum.currentMin = some lo → s.drum.currentMax = some hi → hi - lo < s.param .tangleRipple) :
    (s.secondNext && (beginTenth s).tangleDue) = false := by
  rw [← Bool.not_eq_true, Bool.and_eq_true, tangleDue_iff]
  rintro ⟨hsecond, hactive, hholds, hpass, hearly, hsettled, hscore, lo, hi, hlo, hhi, hripple⟩
  simp only [beginTenth_cycle, beginTenth_holds, beginTenth_walker, beginTenth_param, beginTenth_currentMin,
    beginTenth_currentMax] at hactive hholds hpass hearly hscore hlo hhi hripple
  have hturning : s.drum.state = .turning := by
    simp only [State.turningSettled, beginTenth_drumState, Bool.and_eq_true, decide_eq_true_eq] at hsettled
    exact hsettled.1
  rcases h with h | h | h | h | h | h | h | h
  · simp [hsecond] at h
  · exact h hactive
  · simp [hholds] at h
  · simp [hpass] at h
  · simp [hearly] at h
  · exact h hturning
  · omega
  · have := h lo hi hlo hhi
    omega

theorem segmentEnd_not_next {s : State}
    (h : s.drum.state ≠ .turning ∨ s.holds = false ∨ s.walker.early = true ∨
      satSucc 2550 s.walker.turning < s.segmentLength) : s.walkerCounted.segmentDue = false := by
  have hjudged := beginTenth_judged s
  refine segmentDue_of_short ?_
  rw [hjudged.drumState, hjudged.holds, hjudged.turning, hjudged.length, beginTenth_drumState, beginTenth_holds,
    beginTenth_segmentLength, beginTenth_walker]
  rcases h with h | h | h | h
  · exact .inl h
  · exact .inr (.inl h)
  · refine .inr (.inr (.inl ?_))
    split
    · rw [judgeSecond_walker]
      simp [h]
    · simpa using h
  · exact .inr (.inr (.inr h))

theorem earlyEnd_not_next {s : State}
    (h : s.drum.state ≠ .turning ∨ s.holds = false ∨ (s.walker.early = false ∧ s.secondNext = false) ∨
      satSucc 2550 s.walker.turning < s.param .minTurn) : s.walkerCounted.earlyDue = false := by
  have hjudged := beginTenth_judged s
  refine earlyDue_of_short ?_
  rw [hjudged.drumState, hjudged.holds, hjudged.turning, hjudged.param, beginTenth_drumState, beginTenth_holds,
    beginTenth_param, beginTenth_walker]
  rcases h with h | h | ⟨hearly, hsecond⟩ | h
  · exact .inl h
  · exact .inr (.inl h)
  · refine .inr (.inr (.inl ?_))
    rw [hsecond, if_neg Bool.false_ne_true]
    simpa using hearly
  · exact .inr (.inr (.inr h))

/-- A SAMPLE_COPY whose SAMPLE is not accepted, or does not complete the decimation, is none. -/
theorem exec_sampleCopy_of_short {s : State} {p : List Byte}
    (h : s.param .copyDecimation = 0 ∨ s.upstream.copyCounter + 1 < s.param .copyDecimation ∨ ¬ s.accepts p) :
    exec (.sampleCopy p) s = .next s.refresh := by
  have hexec : exec (.sampleCopy p) s =
      done (if samplePayloadOk p && !s.duplicate p && s.copyDue then fieldFrame ⟨0x21, p⟩ s else s) := rfl
  have hnot : (samplePayloadOk p && !s.duplicate p && s.copyDue) = false := by
    rw [← Bool.not_eq_true]
    simp only [State.duplicate, State.copyDue, Bool.and_eq_true, Bool.not_eq_true', decide_eq_false_iff_not,
      decide_eq_true_eq]
    rintro ⟨⟨hok, hnew⟩, hne, hdue⟩
    rcases h with h | h | h
    · exact hne h
    · omega
    · exact h ⟨hok, hnew⟩
  rw [hexec, hnot]
  rfl

/-- Settles O18: each row runs a tenth only where its due test holds, and each case fails that test. -/
theorem timerRowOutOfTimeIsNoEvent : Obligations.TimerRowOutOfTimeIsNoEvent := by
  intro s
  refine ⟨fun hsecond c hc => ?_, fun h => done_dueTenth_of_not (dwellDue_of_short fun hstate => ?_) _ s,
    fun h => done_dueTenth_of_not (stallDue_of_short fun hstate => ?_) _ s,
    fun h => done_dueTenth_of_not (overrunDue_of_short fun hstate => ?_) _ s,
    fun h => done_dueTenth_of_not (segmentEnd_not_next h) _ s,
    fun h => done_dueTenth_of_not (earlyEnd_not_next h) _ s,
    fun h => done_dueTenth_of_not (tangleNext_of_short (.inr h)) _ s,
    fun h => done_dueTenth_of_not (reportNext_of_short (.inr h)) _ s,
    fun h => ⟨done_dueTenth_of_not (timeout_not_next (.inl (spanReached_of_short h))) _ s,
      done_dueTenth_of_not (duration_not_next (.inl (spanReached_of_short h))) _ s⟩,
    fun h => done_dueTenth_of_not (timeout_not_next (.inr h)) _ s,
    fun h => done_dueTenth_of_not (duration_not_next (.inr h)) _ s,
    fun h => done_dueTenth_of_not (cooled_not_next h) _ s,
    fun h => done_dueTenth_of_not (cooldownNext_of_short (.inr h)) _ s, fun p h => exec_sampleCopy_of_short h⟩
  · have hend : ∀ e, decide (s.endNext = some e) = false := fun e =>
      endNext_ne_of fun hnow => by simp [hsecond] at hnow
    simp only [List.mem_cons, List.not_mem_nil, or_false] at hc
    rcases hc with rfl | rfl | rfl | rfl | rfl | rfl | rfl
    · exact exec_secondExpiry_of_not hsecond
    · exact done_dueTenth_of_not (tangleNext_of_short (.inl hsecond)) _ s
    · exact done_dueTenth_of_not (reportNext_of_short (.inl hsecond)) _ s
    · exact done_dueTenth_of_not (hend .timeout) _ s
    · exact done_dueTenth_of_not (hend .duration) _ s
    · exact done_dueTenth_of_not (hend .cooled) _ s
    · exact done_dueTenth_of_not (cooldownNext_of_short (.inl hsecond)) _ s
  · rcases h with h | ⟨n, hn, hshort⟩
    · exact absurd hstate h
    · rw [hn]; exact hshort
  · rcases h with h | h | ⟨n, hn, hshort⟩
    · exact absurd hstate h
    · exact .inr h
    · rw [hn]; exact .inl hshort
  · rcases h with h | h | h | ⟨n, hn, hshort⟩
    · exact absurd hstate h
    · exact .inr (.inl h)
    · exact .inr (.inr h)
    · rw [hn]; exact .inl hshort

end Sys2Proof.Machine

/-! # The blocks' work at a tenth, in every order (02 R24; log entry 5) -/

namespace Sys2Proof.Machine

/-! ### One block's turn -/

theorem tenthBlocks_append (second : Bool) (first rest : List TenthBlock) (s : State) :
    tenthBlocks second (first ++ rest) s = tenthBlocks second rest (tenthBlocks second first s) := List.foldl_append

theorem tenthBlocks_cons (second : Bool) (b : TenthBlock) (rest : List TenthBlock) (s : State) :
    tenthBlocks second (b :: rest) s = tenthBlocks second rest (tenthBlock second b s) := rfl

theorem tenthBlock_moisture (second : Bool) (s : State) :
    tenthBlock second .moisture s = if second then moistureSecond s else s := rfl

theorem tenthBlock_report (second : Bool) (s : State) :
    tenthBlock second .report s = if second then reportSecond s else s := rfl

theorem TenthBlock.mem_all (b : TenthBlock) : b ∈ TenthBlock.all := by cases b <;> decide

/-- In the order of a tenth each block has one turn. -/
theorem tenthOrder_split (named : List TenthBlock) (b : TenthBlock) :
    ∃ first rest, fillOrder TenthBlock.all named = first ++ b :: rest ∧ b ∉ first ∧ b ∉ rest := by
  have hnodup := nodup_fillOrder nodup_tenthBlocks named
  obtain ⟨first, rest, heq⟩ := List.append_of_mem ((mem_fillOrder b TenthBlock.all named).mpr (.inr b.mem_all))
  rw [heq, List.nodup_append, List.nodup_cons] at hnodup
  obtain ⟨-, ⟨hrest, -⟩, hdisjoint⟩ := hnodup
  exact ⟨first, rest, heq, fun hmem => hdisjoint b hmem b List.mem_cons_self rfl, hrest⟩

/-- What every block of an order keeps, the work of the order keeps. -/
theorem tenthBlocks_lift {R : State → State → Prop} (hrefl : ∀ s, R s s) (htrans : ∀ {s t u}, R s t → R t u → R s u)
    {second : Bool} {order : List TenthBlock} (hblock : ∀ b ∈ order, ∀ s, R s (tenthBlock second b s)) (s : State) :
    R s (tenthBlocks second order s) := by
  induction order generalizing s with
  | nil => exact hrefl s
  | cons b bs ih =>
    rw [tenthBlocks_cons]
    exact htrans (hblock b List.mem_cons_self s) (ih (fun c hc => hblock c (List.mem_cons_of_mem b hc)) _)

/-- A whole tenth, up to one block's turn, at it, and after it. -/
theorem runTenth_turn (b : TenthBlock) (s : State) :
    ∃ first rest, b ∉ first ∧ b ∉ rest ∧
      runTenth [] s =
        tenthBlocks s.secondNext rest (tenthBlock s.secondNext b
          (tenthBlocks s.secondNext first (beginTenth s.dropChoice))) := by
  obtain ⟨first, rest, heq, hfirst, hrest⟩ := tenthOrder_split s.choice.tenth b
  refine ⟨first, rest, hfirst, hrest, ?_⟩
  rw [runTenth, List.nil_append, heq, tenthBlocks_append, tenthBlocks_cons]

theorem exec_tenth (s : State) : exec .tenth s = .next (runTenth [] s).refresh := rfl

/-! ### The keepalive window (01 R10, R11) -/

theorem keepaliveTenth_window (s : State) :
    (keepaliveTenth s).links.keepalive =
      if s.links.keepalive.running = false then s.links.keepalive
      else if s.param .keepaliveUpper ≤ s.links.keepalive.timer + 1 then ⟨s.param .keepaliveUpper, false, .late⟩
      else { s.links.keepalive with timer := s.links.keepalive.timer + 1 } := by
  unfold keepaliveTenth State.lateDue
  cases s.links.keepalive.running with
  | false => simp
  | true => by_cases h : s.param .keepaliveUpper ≤ s.links.keepalive.timer + 1 <;> simp [h]

theorem tenthBlocks_param (second : Bool) (order : List TenthBlock) (s : State) (p : Param) :
    (tenthBlocks second order s).param p = s.param p := by
  rw [State.param, tenthBlocks_moves]
  rfl

theorem runTenth_keepalive (s : State) :
    (runTenth [] s).links.keepalive =
      if s.links.keepalive.running = false then s.links.keepalive
      else if s.param .keepaliveUpper ≤ s.links.keepalive.timer + 1 then ⟨s.param .keepaliveUpper, false, .late⟩
      else { s.links.keepalive with timer := s.links.keepalive.timer + 1 } := by
  obtain ⟨first, rest, hfirst, hrest, heq⟩ := runTenth_turn .keepalive s
  have hbefore := (tenthBlocks_keepsBreach hfirst s.secondNext (beginTenth s.dropChoice)).1
  have hparam := tenthBlocks_param s.secondNext first (beginTenth s.dropChoice) .keepaliveUpper
  rw [beginTenth_links] at hbefore
  rw [beginTenth_param] at hparam
  rw [heq, (tenthBlocks_keepsBreach hrest _ _).1, tenthBlock, keepaliveTenth_window, hbefore, hparam]
  rfl

/-! ### The cycle at an arising (08 R148; 09 R159) -/

@[simp] theorem reselect_cycle (n : Bool) (s : State) : (reselect n s).cycle = s.cycle := by rw [reselect_moves]
@[simp] theorem reselect_path (n : Bool) (s : State) : (reselect n s).path = s.path := by rw [reselect_moves]
@[simp] theorem reselect_faults (n : Bool) (s : State) : (reselect n s).faults = s.faults := by rw [reselect_moves]
@[simp] theorem reselect_tables (n : Bool) (s : State) : (reselect n s).tables = s.tables := by rw [reselect_moves]
@[simp] theorem reselect_links (n : Bool) (s : State) : (reselect n s).links = s.links := by rw [reselect_moves]
@[simp] theorem reselect_upstream (n : Bool) (s : State) : (reselect n s).upstream = s.upstream := by rw [reselect_moves]
@[simp] theorem reselect_ring (n : Bool) (s : State) : (reselect n s).moisture.ring = s.moisture.ring := by
  rw [reselect_moves]
@[simp] theorem forceReduction_ring (s : State) : (forceReduction s).moisture.ring = s.moisture.ring := by
  rw [forceReduction_moves]

/-- The cycle as an entry to HALTED leaves it (08 R148). -/
def Cycle.halt (c : Cycle) : Cycle := { c with state := .halted, suspension := none, cooldown := none }

/-- The cycle as a change of its state leaves it (08 R140, R146). -/
def Cycle.to (c : CycleState) (k : Cycle) : Cycle :=
  { k with
    state := c
    suspension := if c = .suspended then some 0 else none
    cooldown := if c = .cooldown then some 0 else none }

@[simp] theorem cycleTo_cycle (c : CycleState) (s : State) : (cycleTo c s).cycle = s.cycle.to c := by
  simp [cycleTo, Cycle.to]

@[simp] theorem cycleTo_ring (c : CycleState) (s : State) : (cycleTo c s).moisture.ring = s.moisture.ring := by
  simp [cycleTo]

/-- The cycle stands as it was, or has been halted. -/
def HaltsAtMost (s t : State) : Prop :=
  t.moisture.ring = s.moisture.ring ∧ (t.cycle = s.cycle ∨ t.cycle = s.cycle.halt)

theorem HaltsAtMost.refl (s : State) : HaltsAtMost s s := ⟨rfl, .inl rfl⟩

theorem HaltsAtMost.trans {s t u : State} (h : HaltsAtMost s t) (k : HaltsAtMost t u) : HaltsAtMost s u := by
  obtain ⟨hring, h⟩ := h
  obtain ⟨kring, k⟩ := k
  refine ⟨kring.trans hring, ?_⟩
  rcases k with k | k <;> rcases h with h | h <;> rw [k, h]
  · exact .inl rfl
  · exact .inr rfl
  · exact .inr rfl
  · exact .inr rfl

theorem HaltsAtMost.of_same {s t : State} (hring : t.moisture.ring = s.moisture.ring) (hcycle : t.cycle = s.cycle) :
    HaltsAtMost s t := ⟨hring, .inl hcycle⟩

theorem MovesDrum.haltsAtMost {s t : State} (h : MovesDrum s t) : HaltsAtMost s t := .of_same (by rw [h]) (by rw [h])

theorem enterHalted_haltsAtMost (s : State) : HaltsAtMost s (enterHalted s) := by
  unfold enterHalted
  split
  · exact .refl s
  · exact ⟨by simp, .inr (by simp [Cycle.to, Cycle.halt])⟩

theorem workOutAction_haltsAtMost (s : State) : HaltsAtMost s (workOutAction s) := by
  have hchange : HaltsAtMost s
      (reselect false (forceReduction (s.setFaults { s.faults with effective := s.highestAction }))) :=
    .of_same (by simp) (by simp)
  unfold workOutAction
  dsimp only
  split
  · exact .refl s
  · split
    · exact hchange.trans (enterHalted_haltsAtMost _)
    · exact hchange

/-- An arising halts the cycle at most; EXHAUST_SENSOR empties the ring too (03 R46). -/
theorem arise_haltsAtMost {x : Source} (hx : x ≠ .exhaustSensor) (s : State) : HaltsAtMost s (arise x s) := by
  have hrecord : ∀ r, HaltsAtMost s ((emptyRingFor x (s.setPresent x true)).setRecord x r) := fun r => by
    unfold emptyRingFor
    rw [if_neg hx]
    exact .of_same rfl rfl
  have htell : ∀ k a t, HaltsAtMost t (raiseEvent k a t) := fun _ _ _ => .of_same (by simp) (by simp)
  unfold arise
  split
  · exact .refl s
  · exact ((hrecord _).trans (htell _ _ _)).trans (workOutAction_haltsAtMost _)

theorem setLinks_haltsAtMost (s : State) (b : Links) : HaltsAtMost s (s.setLinks b) := .of_same rfl rfl

theorem keepaliveTenth_haltsAtMost (s : State) : HaltsAtMost s (keepaliveTenth s) := by
  unfold keepaliveTenth
  split
  · exact (setLinks_haltsAtMost s _).trans (arise_haltsAtMost (by decide) _)
  · split
    · exact setLinks_haltsAtMost s _
    · exact .refl s

theorem drumTenth_haltsAtMost (s : State) : HaltsAtMost s (drumTenth s) := by
  have hmark : ∀ d, HaltsAtMost s (s.setDrum d) := fun _ => .of_same rfl rfl
  unfold drumTenth
  split
  · exact (hmark _).trans (arise_haltsAtMost (by decide) _)
  · split
    · exact (hmark _).trans (arise_haltsAtMost (by decide) _)
    · split
      · exact (endDwell_moves s).haltsAtMost
      · exact .refl s

theorem judgeSecond_haltsAtMost (s : State) : HaltsAtMost s (judgeSecond s) := by
  have hpersist : ∀ t, HaltsAtMost t (notePersist t) := fun t => by
    unfold notePersist
    split
    · exact .of_same (by simp) (by simp)
    · exact .refl t
  have hopen : ∀ t : State, HaltsAtMost t (t.setDrum { t.drum with currentMin := none, currentMax := none }) :=
    fun _ => .of_same rfl rfl
  unfold judgeSecond detectTangle
  dsimp only
  refine HaltsAtMost.trans ?_ (hopen _)
  split
  · exact HaltsAtMost.trans (.of_same (by simp) (by simp)) (hpersist _)
  · exact .of_same rfl rfl

theorem walkerTenth_haltsAtMost (second : Bool) (s : State) : HaltsAtMost s (walkerTenth second s) := by
  have hcount : ∀ t, HaltsAtMost t (walkerCount t) := fun t => by
    have hturn := (countTurning_moves t).drum.haltsAtMost
    unfold walkerCount
    dsimp only
    split
    · exact (hturn.trans (endTangled_moves _).drum.haltsAtMost).trans (reselect_moves _ _).haltsAtMost
    · split
      · exact (hturn.trans (advanceWalker_moves _).drum.haltsAtMost).trans (reselect_moves _ _).haltsAtMost
      · exact hturn
  unfold walkerTenth
  refine HaltsAtMost.trans ?_ (hcount _)
  split
  · exact judgeSecond_haltsAtMost s
  · exact .refl s

theorem reportSecond_haltsAtMost (s : State) : HaltsAtMost s (reportSecond s) := by
  have hset : ∀ u a, HaltsAtMost s ((s.setUpstream u).setAux a) := fun _ _ => .of_same rfl rfl
  have hjoin : ∀ f t, HaltsAtMost t (joinQueue f t) := fun _ _ =>
    .of_same (by rw [joinQueue_moves]) (by rw [joinQueue_moves])
  unfold reportSecond
  split
  · exact .refl s
  · split
    · exact .of_same rfl rfl
    · exact (hset _ _).trans (hjoin _ _)

/-- A block other than the estimator and the cycle controller leaves the ring, and halts the cycle at most. -/
theorem tenthBlock_haltsAtMost {b : TenthBlock} (hm : b ≠ .moisture) (hc : b ≠ .cycle) (second : Bool) (s : State) :
    HaltsAtMost s (tenthBlock second b s) := by
  cases b with
  | keepalive => exact keepaliveTenth_haltsAtMost s
  | drum => exact drumTenth_haltsAtMost s
  | moisture => exact absurd rfl hm
  | walker => exact walkerTenth_haltsAtMost second s
  | cycle => exact absurd rfl hc
  | report =>
    rw [tenthBlock_report]
    split
    · exact reportSecond_haltsAtMost s
    · exact .refl s

/-- A block other than the cycle controller halts the cycle at most. -/
theorem tenthBlock_cycle {b : TenthBlock} (hc : b ≠ .cycle) (second : Bool) (s : State) :
    (tenthBlock second b s).cycle = s.cycle ∨ (tenthBlock second b s).cycle = s.cycle.halt := by
  by_cases hm : b = .moisture
  · subst hm
    rw [tenthBlock_moisture]
    split
    · exact .inl rfl
    · exact .inl rfl
  · exact (tenthBlock_haltsAtMost hm hc second s).2

theorem tenthBlocks_cycle {order : List TenthBlock} (hc : .cycle ∉ order) (second : Bool) (s : State) :
    (tenthBlocks second order s).cycle = s.cycle ∨ (tenthBlocks second order s).cycle = s.cycle.halt := by
  refine tenthBlocks_lift (R := fun s t => t.cycle = s.cycle ∨ t.cycle = s.cycle.halt) (fun _ => .inl rfl) ?_
    (fun b hb t => tenthBlock_cycle (fun e => hc (e ▸ hb)) second t) s
  intro s t u h k
  rcases k with k | k <;> rcases h with h | h <;> rw [k, h]
  · exact .inl rfl
  · exact .inr rfl
  · exact .inr rfl
  · exact .inr rfl

/-! ### The suspension timer (08 R140) -/

@[simp] theorem beginPhase_cycle (p : Nat) (r : PhaseRecord) (s : State) :
    (beginPhase p r s).cycle = { s.cycle with phase := p, record := r, elapsed := 0, settle := 0 } := by
  unfold beginPhase
  dsimp only
  rw [reselect_cycle, forceReduction_cycle, raiseEvent_cycle, walkerPhaseBegin_moves]
  rfl

@[simp] theorem completeCycle_cycle (s : State) : (completeCycle s).cycle = s.cycle.to .idle := by
  simp [completeCycle]

@[simp] theorem endCooldown_cycle (s : State) : (endCooldown s).cycle = s.cycle.to .idle := by
  simp [endCooldown]

theorem markEnd_state (e : EndReason) (c : Cycle) : (markEnd e c).state = c.state := by cases e <;> rfl

/-- A phase end in ACTIVE leaves the cycle ACTIVE or IDLE (07 R132). -/
theorem endPhase_state (e : EndReason) (s : State) :
    (endPhase e s).cycle.state = s.cycle.state ∨ (endPhase e s).cycle.state = .idle := by
  unfold endPhase
  dsimp only
  split
  · exact .inl (by simp [markEnd_state])
  · exact .inr (by simp [Cycle.to])

/-- The cycle controller's tenth leaves a cycle SUSPENDED that was so, with its timer one higher. -/
theorem cycleTenth_suspension {second : Bool} {s : State} (h : (cycleTenth second s).cycle.state = .suspended) :
    s.cycle.state = .suspended ∧ (cycleTenth second s).cycle.suspension = s.cycle.suspension.map (satSucc 72000) := by
  cases hstate : s.cycle.state with
  | suspended => exact ⟨rfl, by simp [cycleTenth, hstate]⟩
  | active =>
    have hactive : (activeSecond s).cycle.state ≠ .suspended := by
      unfold activeSecond
      have hcount : (countSecond s).cycle.state = .active := hstate
      split
      · simp [hcount]
      next e _ => rcases endPhase_state e (countSecond s) with hend | hend <;> simp [hend, hcount]
    cases second
    · simp [cycleTenth, hstate] at h
    · exact absurd (by simpa [cycleTenth, hstate] using h) hactive
  | cooldown =>
    have hcool : (cooldownSecond s).cycle.state ≠ .suspended := by
      unfold cooldownSecond
      dsimp only
      split <;> simp [Cycle.to, hstate]
    cases second
    · simp [cycleTenth, hstate] at h
    · exact absurd (by simpa [cycleTenth, hstate] using h) hcool
  | idle => simp [cycleTenth, hstate] at h
  | halted => simp [cycleTenth, hstate] at h

theorem runTenth_suspension {s : State} (ht : (runTenth [] s).cycle.state = .suspended) :
    (runTenth [] s).cycle.suspension = s.cycle.suspension.map (satSucc 72000) := by
  obtain ⟨first, rest, hfirst, hrest, heq⟩ := runTenth_turn .cycle s
  have hhalt : ∀ c : Cycle, c.halt.state ≠ .suspended := fun _ => by simp [Cycle.halt]
  have hbefore := tenthBlocks_cycle hfirst s.secondNext (beginTenth s.dropChoice)
  have hafter := tenthBlocks_cycle hrest s.secondNext
    (tenthBlock s.secondNext .cycle (tenthBlocks s.secondNext first (beginTenth s.dropChoice)))
  rw [beginTenth_cycle] at hbefore
  rw [← heq] at hafter
  rcases hafter with hafter | hafter
  · rw [hafter] at ht ⊢
    obtain ⟨hsuspended, hcount⟩ := cycleTenth_suspension (by simpa [tenthBlock] using ht)
    rcases hbefore with hbefore | hbefore
    · rw [hbefore] at hcount
      exact hcount
    · rw [hbefore] at hsuspended
      exact absurd hsuspended (hhalt _)
  · rw [hafter] at ht
    exact absurd ht (hhalt _)

end Sys2Proof.Machine

/-! # A tenth that ends no span and reaches no limit (02 R24; 05 R83 to R88; 06 R100)

At such a tenth each block moves its own fields alone, which no other block reads: `MovesCalm` names them, and
`TenthBlock.sees` says which of them belong to a block. -/

namespace Sys2Proof.Machine

/-! ### The frame of a calm tenth -/

/-- Only the keepalive window, the ring and the lowest level, the second's extremes, the segment's time and the score, the
counts of the cycle, and the upstream block may move. -/
def MovesCalm (s t : State) : Prop :=
  t = { s with
        links := { s.links with keepalive := t.links.keepalive, controllerTx := t.links.controllerTx }
        moisture := { s.moisture with ring := t.moisture.ring, lowest := t.moisture.lowest }
        drum := { s.drum with currentMin := t.drum.currentMin, currentMax := t.drum.currentMax }
        walker := { s.walker with turning := t.walker.turning, score := t.walker.score }
        cycle :=
          { s.cycle with
            elapsed := t.cycle.elapsed, settle := t.cycle.settle, suspension := t.cycle.suspension }
        upstream := t.upstream
        aux := { s.aux with freeCount := t.aux.freeCount } }

theorem MovesCalm.refl (s : State) : MovesCalm s s := rfl

theorem MovesCalm.trans {s t u : State} (h : MovesCalm s t) (k : MovesCalm t u) : MovesCalm s u := by
  unfold MovesCalm at *; rw [k, h]

theorem MovesUpstream.calm {s t : State} (h : MovesUpstream s t) : MovesCalm s t := by
  unfold MovesUpstream at h; unfold MovesCalm; rw [h]

/-- What a block's own work at a calm tenth reads of the fields that a calm tenth moves. -/
def TenthBlock.sees (b : TenthBlock) (s t : State) : Prop :=
  match b with
  | .keepalive => t.links.keepalive = s.links.keepalive
  | .drum => True
  | .moisture => t.moisture = s.moisture
  | .walker => t.walker = s.walker ∧ t.drum = s.drum
  | .cycle => t.cycle = s.cycle
  | .report => t.upstream.reportTimer = s.upstream.reportTimer

theorem TenthBlock.sees_refl (b : TenthBlock) (s : State) : b.sees s s := by
  cases b <;> simp [TenthBlock.sees]

theorem TenthBlock.sees_trans {b : TenthBlock} {s t u : State} (h : b.sees s t) (k : b.sees t u) : b.sees s u := by
  cases b with
  | drum => trivial
  | walker => exact ⟨k.1.trans h.1, k.2.trans h.2⟩
  | _ => exact Eq.trans k h

/-- A block's work is calm: no breach, no end, no limit. -/
def TenthBlock.calm (b : TenthBlock) (second : Bool) (s : State) : Prop :=
  match b with
  | .keepalive => s.lateDue = false
  | .drum => s.stallDue = false ∧ s.overrunDue = false ∧ s.dwellDue = false
  | .moisture => True
  | .walker =>
    (second = true → s.tangleDue = false) ∧
    (s.drum.state = .turning → s.holds = true →
      satSucc 2550 s.walker.turning < s.segmentLength ∧
      (s.walker.early = true → satSucc 2550 s.walker.turning < s.param .minTurn))
  | .cycle =>
    second = true → s.cycle.state ≠ .cooldown ∧ (s.cycle.state = .active → s.phaseEndDue = none)
  | .report => True

/-- A calm tenth's other blocks do not make a block's work other than calm. -/
theorem TenthBlock.calm_of_moves {b : TenthBlock} {second : Bool} {s t : State} (hmoves : MovesCalm s t)
    (hsees : b.sees s t) (h : b.calm second s) : b.calm second t := by
  cases b with
  | keepalive =>
    have hlate : t.lateDue = s.lateDue := by
      simp only [State.lateDue, State.param]
      rw [show t.links.keepalive = s.links.keepalive from hsees, hmoves]
      rfl
    exact hlate.trans h
  | drum =>
    rw [hmoves]
    exact h
  | moisture => trivial
  | walker =>
    obtain ⟨hwalker, hdrum⟩ := hsees
    rw [hmoves, hwalker, hdrum]
    exact h
  | cycle =>
    rw [hmoves, show t.cycle = s.cycle from hsees]
    exact h
  | report => trivial

/-! ### Each block's calm work -/

theorem keepaliveTenth_of_calm {s : State} (h : s.lateDue = false) :
    keepaliveTenth s = s.setKeepalive (keepaliveTenth s).links.keepalive := by
  unfold keepaliveTenth
  rw [h, if_neg Bool.false_ne_true]
  split <;> rfl

theorem drumTenth_of_calm {s : State} (h : TenthBlock.drum.calm second s) : drumTenth s = s := by
  obtain ⟨hstall, hoverrun, hdwell⟩ := h
  simp [drumTenth, hstall, hoverrun, hdwell]

/-- The walker's block as the judgement of a second that detects no tangle leaves it (06 R105; 05 R90). -/
def State.judgedCalm (s : State) : State :=
  (s.setWalker { s.walker with score := s.scoreNext }).newSecond

/-- Without a tangle and without the end of a segment, the walker counts, and judges the second. -/
theorem walkerTenth_of_calm {second : Bool} {s : State} (h : TenthBlock.walker.calm second s) :
    walkerTenth second s = countTurning (if second then s.judgedCalm else s) := by
  obtain ⟨htangle, hsegment⟩ := h
  have hjudge : (if second then judgeSecond s else s) = if second then s.judgedCalm else s := by
    cases second with
    | false => rfl
    | true =>
      unfold judgeSecond
      rw [htangle rfl]
      rfl
  have hcount : ∀ t : State, t.drum.state = s.drum.state → t.holds = s.holds → t.walker.turning = s.walker.turning →
      t.walker.early = s.walker.early → t.segmentLength = s.segmentLength → t.param .minTurn = s.param .minTurn →
      walkerCount t = countTurning t := by
    intro t hstate hholds hturning hearly hlength hmin
    have hsegmentDue : (countTurning t).segmentDue = false := by
      refine segmentDue_of_short ?_
      rw [hstate, hholds, hturning, hlength]
      by_cases h1 : s.drum.state = .turning
      · cases h2 : s.holds with
        | false => exact .inr (.inl rfl)
        | true => exact .inr (.inr (.inr (hsegment h1 h2).1))
      · exact .inl h1
    have hearlyDue : (countTurning t).earlyDue = false := by
      refine earlyDue_of_short ?_
      rw [hstate, hholds, hearly, hturning, hmin]
      by_cases h1 : s.drum.state = .turning
      · cases h2 : s.holds with
        | false => exact .inr (.inl rfl)
        | true =>
          cases h3 : s.walker.early with
          | false => exact .inr (.inr (.inl rfl))
          | true => exact .inr (.inr (.inr ((hsegment h1 h2).2 h3)))
      · exact .inl h1
    simp [walkerCount, hsegmentDue, hearlyDue]
  unfold walkerTenth
  rw [hjudge]
  cases second <;> exact hcount _ rfl rfl rfl rfl rfl rfl

theorem cycleTenth_of_calm {second : Bool} {s : State} (h : TenthBlock.cycle.calm second s) :
    cycleTenth second s =
      s.setCycle
        (match s.cycle.state with
        | .suspended => { s.cycle with suspension := s.cycle.suspension.map (satSucc 72000) }
        | .active => if second then (countSecond s).cycle else s.cycle
        | .cooldown | .idle | .halted => s.cycle) := by
  unfold cycleTenth
  cases hstate : s.cycle.state with
  | suspended => rfl
  | active =>
    cases second with
    | false => rfl
    | true => simp [activeSecond, (h rfl).2 hstate, countSecond]
  | cooldown =>
    cases second with
    | false => rfl
    | true => exact absurd hstate (h rfl).1
  | idle => rfl
  | halted => rfl

/-- A block's work is calm: it is in the frame, and moves nothing that another block's work sees. -/
structure CalmWork (b : TenthBlock) (s t : State) : Prop where
  moves : MovesCalm s t
  sees  : ∀ c ≠ b, c.sees s t

theorem CalmWork.refl (b : TenthBlock) (s : State) : CalmWork b s s := ⟨.refl s, fun c _ => c.sees_refl s⟩

theorem CalmWork.trans {b : TenthBlock} {s t u : State} (h : CalmWork b s t) (k : CalmWork b t u) : CalmWork b s u :=
  ⟨h.moves.trans k.moves, fun c hc => TenthBlock.sees_trans (h.sees c hc) (k.sees c hc)⟩

theorem CalmWork.ite {b : TenthBlock} {s t : State} (h : CalmWork b s t) (second : Bool) :
    CalmWork b s (if second then t else s) := by
  split
  · exact h
  · exact .refl b s

theorem setKeepalive_calmWork (s : State) (k : Keepalive) : CalmWork .keepalive s (s.setKeepalive k) :=
  ⟨rfl, fun c hc => by cases c <;> simp_all [TenthBlock.sees, State.setKeepalive]⟩

theorem moistureSecond_calmWork (s : State) : CalmWork .moisture s (moistureSecond s) :=
  ⟨rfl, fun c hc => by cases c <;> simp_all [TenthBlock.sees, moistureSecond]⟩

theorem judgedCalm_calmWork (s : State) : CalmWork .walker s s.judgedCalm :=
  ⟨rfl, fun c hc => by cases c <;> simp_all [TenthBlock.sees, State.judgedCalm, State.newSecond]⟩

theorem countTurning_calmWork (s : State) : CalmWork .walker s (countTurning s) := by
  unfold countTurning
  split
  · exact ⟨rfl, fun c hc => by cases c <;> simp_all [TenthBlock.sees]⟩
  · exact .refl _ s

theorem setCycle_calmWork {s : State} {c : Cycle}
    (h : c = { s.cycle with elapsed := c.elapsed, settle := c.settle, suspension := c.suspension }) :
    CalmWork .cycle s (s.setCycle c) :=
  ⟨by rw [h]; rfl, fun b hb => by clear h; cases b <;> simp_all [TenthBlock.sees]⟩

/-- The report block's work: its timer, and a frame that joins. -/
theorem MovesUpstream.calmWork {s t : State} (h : MovesUpstream s t) : CalmWork .report s t :=
  ⟨h.calm, fun c hc => by rw [h]; cases c <;> simp_all [TenthBlock.sees]⟩

theorem reportSecond_calmWork (s : State) : CalmWork .report s (reportSecond s) := by
  have hset : ∀ u a, CalmWork .report s ((s.setUpstream u).setAux { s.aux with freeCount := a }) := fun _ _ =>
    ⟨rfl, fun c hc => by cases c <;> simp_all [TenthBlock.sees]⟩
  unfold reportSecond
  split
  · exact .refl _ s
  · split
    · exact (setUpstream_moves s _).calmWork
    · exact (hset _ _).trans (joinQueue_moves _ _).calmWork

theorem tenthBlock_calmWork {b : TenthBlock} {second : Bool} {s : State} (h : b.calm second s) :
    CalmWork b s (tenthBlock second b s) := by
  cases b with
  | keepalive =>
    rw [tenthBlock, keepaliveTenth_of_calm h]
    exact setKeepalive_calmWork s _
  | drum =>
    rw [tenthBlock, drumTenth_of_calm h]
    exact .refl _ s
  | moisture => exact (moistureSecond_calmWork s).ite second
  | walker =>
    rw [tenthBlock, walkerTenth_of_calm h]
    exact ((judgedCalm_calmWork s).ite second).trans (countTurning_calmWork _)
  | cycle =>
    rw [tenthBlock, cycleTenth_of_calm h]
    refine setCycle_calmWork ?_
    split
    · rfl
    · split <;> rfl
    all_goals rfl
  | report => exact (reportSecond_calmWork s).ite second

/-! ### A whole calm tenth -/

/-- With every block calm, the work of an order stays in the frame, and what a block outside the order sees is as it was. -/
theorem tenthBlocks_calm {second : Bool} {order : List TenthBlock} {s : State} (hnodup : order.Nodup)
    (hcalm : ∀ b ∈ order, b.calm second s) :
    MovesCalm s (tenthBlocks second order s) ∧ ∀ c ∉ order, c.sees s (tenthBlocks second order s) := by
  induction order generalizing s with
  | nil => exact ⟨.refl s, fun c _ => c.sees_refl s⟩
  | cons b bs ih =>
    rw [List.nodup_cons] at hnodup
    have hwork := tenthBlock_calmWork (hcalm b List.mem_cons_self)
    have hrest : ∀ c ∈ bs, c.calm second (tenthBlock second b s) := fun c hc =>
      TenthBlock.calm_of_moves hwork.moves (hwork.sees c fun e => hnodup.1 (e ▸ hc)) (hcalm c (List.mem_cons_of_mem b hc))
    obtain ⟨hmoves, hsees⟩ := ih hnodup.2 hrest
    rw [tenthBlocks_cons]
    refine ⟨hwork.moves.trans hmoves, fun c hc => ?_⟩
    rw [List.mem_cons, not_or] at hc
    exact TenthBlock.sees_trans (hwork.sees c hc.1) (hsees c hc.2)

/-- At a calm tenth a block works on what it sees of the tenth's beginning, and what it leaves stands. -/
theorem tenthBlocks_turn {second : Bool} {order : List TenthBlock} {b : TenthBlock} {s : State} (hnodup : order.Nodup)
    (hb : b ∈ order) (hcalm : ∀ c ∈ order, c.calm second s) :
    ∃ u, MovesCalm s u ∧ b.sees s u ∧ b.sees (tenthBlock second b u) (tenthBlocks second order s) := by
  obtain ⟨first, rest, rfl⟩ := List.append_of_mem hb
  obtain ⟨hfirst, hrest, hdisjoint⟩ := List.nodup_append.mp hnodup
  rw [List.nodup_cons] at hrest
  have hnot : b ∉ first := fun hmem => hdisjoint b hmem b List.mem_cons_self rfl
  obtain ⟨hmoves, hsees⟩ := tenthBlocks_calm hfirst fun c hc => hcalm c (List.mem_append_left _ hc)
  have hturn : ∀ c ∈ b :: rest, c.calm second (tenthBlocks second first s) := fun c hc =>
    TenthBlock.calm_of_moves hmoves (hsees c fun hmem => hdisjoint c hmem c hc rfl)
      (hcalm c (List.mem_append_right _ hc))
  have hwork := tenthBlock_calmWork (hturn b List.mem_cons_self)
  have hafter : ∀ c ∈ rest, c.calm second (tenthBlock second b (tenthBlocks second first s)) := fun c hc =>
    TenthBlock.calm_of_moves hwork.moves (hwork.sees c fun e => hrest.1 (e ▸ hc)) (hturn c (List.mem_cons_of_mem b hc))
  refine ⟨tenthBlocks second first s, hmoves, hsees b hnot, ?_⟩
  rw [tenthBlocks_append, tenthBlocks_cons]
  exact (tenthBlocks_calm hrest.2 hafter).2 b hrest.1

theorem beginTenth_dropChoice (s : State) : beginTenth s.dropChoice = (beginTenth s).dropChoice := by
  have hdrum : (beginTenth s.dropChoice).drum = (beginTenth s).drum := by
    rw [beginTenth_drum, beginTenth_drum]
    rfl
  rw [beginTenth_eq, beginTenth_eq s, hdrum]
  rfl

/-- A tenth that ends no span and reaches no limit is calm for every block. -/
theorem calm_of_plainTenth {s : State} (h : s.plainTenth) (b : TenthBlock) :
    b.calm s.secondNext (beginTenth s.dropChoice) := by
  obtain ⟨⟨hlate, hphase⟩, hdwell, hramp, hdecel, hsegment⟩ := h
  cases b with
  | keepalive => exact (beginTenth_lateDue s.dropChoice).trans hlate
  | drum =>
    exact ⟨stallDue_of_short hramp,
      overrunDue_of_short hdecel, dwellDue_of_short hdwell⟩
  | moisture => trivial
  | walker =>
    refine ⟨fun hsecond => ?_, fun hstate hholds => ?_⟩
    · by_cases hturn : s.drum.state = .turning ∧ s.holds = true
      · obtain ⟨-, -, htangle⟩ := hsegment hturn.1 hturn.2
        rw [beginTenth_dropChoice]
        exact htangle hsecond
      · have hnext := tangleNext_of_short (s := s.dropChoice) (by
          rw [not_and_or, Bool.not_eq_true] at hturn
          rcases hturn with hstate | hholds
          · exact .inr (.inr (.inr (.inr (.inr (.inl hstate)))))
          · exact .inr (.inr (.inl hholds)))
        have hsecond' : s.dropChoice.secondNext = true := hsecond
        rwa [hsecond', Bool.true_and] at hnext
    · simp only [beginTenth_drumState, beginTenth_holds, beginTenth_walker, beginTenth_segmentLength, beginTenth_param]
        at hstate hholds ⊢
      obtain ⟨hlength, hearly, -⟩ := hsegment hstate hholds
      exact ⟨hlength, hearly⟩
  | cycle =>
    intro hsecond
    obtain ⟨hend, hcooldown⟩ := hphase hsecond
    rw [beginTenth_cycle, beginTenth_phaseEndDue]
    refine ⟨hcooldown, fun hactive => ?_⟩
    rw [State.endNext, if_pos ⟨hsecond, hactive⟩, beginTenth_phaseEndDue] at hend
    exact hend
  | report => trivial

/-- A block's turn at a plain tenth: what it sees is that of the tenth's beginning, and what it leaves stands. -/
theorem runTenth_turn_of_plain {s : State} (h : s.plainTenth) (b : TenthBlock) :
    ∃ u, MovesCalm (beginTenth s.dropChoice) u ∧ b.sees (beginTenth s.dropChoice) u ∧
      b.sees (tenthBlock s.secondNext b u) (runTenth [] s) :=
  tenthBlocks_turn (nodup_fillOrder nodup_tenthBlocks _) ((mem_fillOrder b _ _).mpr (.inr b.mem_all))
    fun c _ => calm_of_plainTenth h c

theorem runTenth_movesCalm {s : State} (h : s.plainTenth) : MovesCalm (beginTenth s.dropChoice) (runTenth [] s) :=
  (tenthBlocks_calm (nodup_fillOrder nodup_tenthBlocks _) fun c _ => calm_of_plainTenth h c).1

/-- A plain tenth adds itself to the count of the span that the drum is in (05 R83, R86, R88). -/
theorem runTenth_drum_of_plain {s : State} (h : s.plainTenth) :
    (runTenth [] s).drum =
      { s.drum with
        dwell := if s.drum.state = .dwell then s.drum.dwell.map (· + 1) else s.drum.dwell
        spinup := if s.drum.state = .ramp then s.drum.spinup.map (· + 1) else s.drum.spinup
        coast := if s.drum.state = .decel ∧ s.silent = false then s.drum.coast.map (· + 1) else s.drum.coast
        currentMin := (runTenth [] s).drum.currentMin
        currentMax := (runTenth [] s).drum.currentMax } := by
  have hmoves := runTenth_movesCalm h
  have hdrum : (runTenth [] s).drum =
      { (beginTenth s.dropChoice).drum with
        currentMin := (runTenth [] s).drum.currentMin, currentMax := (runTenth [] s).drum.currentMax } := by rw [hmoves]
  rw [beginTenth_drum] at hdrum
  exact hdrum

/-- What the walker's count leaves of a segment, after the judgement of a second that detects no tangle. -/
theorem countTurning_walker (s : State) (hfresh : s.aux.segFresh = false) :
    (countTurning s).walker =
      { s.walker with
        turning :=
          if s.drum.state = .turning ∧ s.holds = true then satSucc 2550 s.walker.turning else s.walker.turning } := by
  by_cases h : s.drum.state = .turning ∧ s.holds = true
  · rw [countTurning_of_timed ((segmentTimed_iff s).mpr ⟨h.1, h.2, hfresh⟩), if_pos h]
    rfl
  · have htimed : s.segmentTimed = false := by
      rw [← Bool.not_eq_true, segmentTimed_iff]
      exact fun htimed => h ⟨htimed.1, htimed.2.1⟩
    rw [countTurning_of_untimed htimed, if_neg h]

theorem countTurning_drum (s : State) : (countTurning s).drum = s.drum := by rw [countTurning_moves s]

/-- A plain tenth counts for a segment that is timed; the score and the second's extremes move at a second expiry alone
(06 R100, R105; 05 R90). -/
theorem runTenth_walker_of_plain {s : State} (h : s.plainTenth) :
    (runTenth [] s).walker =
      { s.walker with
        turning :=
          if s.drum.state = .turning ∧ s.holds = true then satSucc 2550 s.walker.turning else s.walker.turning
        score := (runTenth [] s).walker.score } ∧
    (s.secondNext = false →
      (runTenth [] s).drum.currentMin = s.drum.currentMin ∧ (runTenth [] s).drum.currentMax = s.drum.currentMax ∧
      (runTenth [] s).walker.score = s.walker.score) := by
  obtain ⟨u, hmoves, ⟨hwalker, hdrum⟩, hwalker', hdrum'⟩ := runTenth_turn_of_plain h .walker
  have hcalm : TenthBlock.walker.calm s.secondNext u :=
    TenthBlock.calm_of_moves (b := .walker) hmoves ⟨hwalker, hdrum⟩ (calm_of_plainTenth h .walker)
  have hfresh : u.aux.segFresh = false := by
    rw [hmoves]
    exact beginTenth_segFresh _
  have hstate : u.drum.state = s.drum.state := by
    rw [hdrum]
    exact beginTenth_drumState _
  have hholds : u.holds = s.holds := by
    rw [State.holds, hdrum]
    exact beginTenth_holds _
  rw [beginTenth_walker] at hwalker
  rw [tenthBlock, walkerTenth_of_calm hcalm] at hwalker' hdrum'
  cases hsecond : s.secondNext with
  | false =>
    rw [hsecond, if_neg Bool.false_ne_true] at hwalker' hdrum'
    rw [countTurning_walker u hfresh, hstate, hholds, hwalker] at hwalker'
    rw [countTurning_drum, hdrum] at hdrum'
    rw [hwalker', hdrum']
    exact ⟨rfl, fun _ => ⟨beginTenth_currentMin _, beginTenth_currentMax _, rfl⟩⟩
  | true =>
    rw [hsecond, if_pos rfl] at hwalker'
    have hcount := countTurning_walker u.judgedCalm hfresh
    rw [show u.judgedCalm.drum.state = s.drum.state from hstate, show u.judgedCalm.holds = s.holds from hholds] at hcount
    have hjudged : u.judgedCalm.walker = { u.walker with score := u.scoreNext } := rfl
    rw [hwalker', hcount, hjudged, hwalker]
    exact ⟨rfl, fun hne => by cases hne⟩

/-- Settles O19: every order gives the keepalive timer and the suspension timer one turn, and at a plain tenth every
block's work is calm. -/
theorem tenthAdvancesTheTimeBase : Obligations.TenthAdvancesTheTimeBase := fun s =>
  ⟨_, exec_tenth s, runTenth_tenthFrame [] s, runTenth_keepalive s, fun _ ht => runTenth_suspension ht,
    fun h => ⟨runTenth_drum_of_plain h, runTenth_walker_of_plain h⟩⟩

end Sys2Proof.Machine

/-! # The second expiry (02 R24; 03 R44 to R46; 05 R90; 07 R125, R130; 08 R146, R147; 11 R184) -/

namespace Sys2Proof.Machine

/-! ### The commanded level at a tenth (04 R64; 03 R44) -/

theorem endDwell_lowers (s : State) : Lowers s (endDwell s) := by
  have hnext : Lowers s
      ((advanceWalker s).setDrum { (advanceWalker s).drum with winner := (advanceWalker s).segmentDemand }) := by
    have hset : Lowers (advanceWalker s)
        ((advanceWalker s).setDrum { (advanceWalker s).drum with winner := (advanceWalker s).segmentDemand }) :=
      .of_heater rfl rfl rfl
    exact (advanceWalker_moves s).lowers.trans hset
  unfold endDwell
  split
  · exact forceReduction_setDrum_lowers s _
  · exact forceReduction_setDrum_lowers s _
  · exact forceReduction_setDrum_lowers s _
  · dsimp only
    split
    · exact hnext.trans (forceReduction_setDrum_lowers _ _)
    · exact hnext.trans (forceReduction_setDrum_lowers _ _)
    · exact hnext.trans (forceReduction_setDrum_lowers _ _)
    · exact hnext.trans (.of_heater rfl rfl rfl)

theorem drumTenth_lowers (s : State) : Lowers s (drumTenth s) := by
  have hmark : ∀ d, Lowers s (s.setDrum d) := fun _ => .of_heater rfl rfl rfl
  unfold drumTenth
  split
  · exact (hmark _).trans (arise_acts _ _).lowers
  · split
    · exact (hmark _).trans (arise_acts _ _).lowers
    · split
      · exact endDwell_lowers s
      · exact .refl s

theorem keepaliveTenth_lowers (s : State) : Lowers s (keepaliveTenth s) := by
  have hset : ∀ k, Lowers s (s.setKeepalive k) := fun _ => .of_heater rfl rfl rfl
  unfold keepaliveTenth
  split
  · exact (hset _).trans (arise_acts _ _).lowers
  · split
    · exact hset _
    · exact .refl s

theorem reportSecond_lowers (s : State) : Lowers s (reportSecond s) := by
  have hset : ∀ u a, Lowers s ((s.setUpstream u).setAux a) := fun _ _ => .of_heater rfl rfl rfl
  unfold reportSecond
  split
  · exact .refl s
  · split
    · exact .of_heater rfl rfl rfl
    · exact (hset _ _).trans (joinQueue_moves _ _).lowers

/-- The estimator's second leaves the level, and takes it as the new second's lowest (03 R44). -/
theorem moistureSecond_lowers (s : State) : Lowers s (moistureSecond s) :=
  ⟨⟨rfl, .refl _ _ _, .refl _ _ _⟩, le_rfl, fun _ => ⟨rfl, rfl⟩, fun _ => rfl⟩

theorem tenthBlock_lowers (second : Bool) (b : TenthBlock) (s : State) : Lowers s (tenthBlock second b s) := by
  have hif : ∀ t, Lowers s t → Lowers s (if second then t else s) := fun t ht => by
    split
    · exact ht
    · exact .refl s
  cases b with
  | keepalive => exact keepaliveTenth_lowers s
  | drum => exact drumTenth_lowers s
  | moisture => exact hif _ (moistureSecond_lowers s)
  | walker => exact walkerTenth_lift .refl .trans Act.lowers (fun _ => .of_heater rfl rfl rfl) second s
  | cycle => exact (cycleTenth_acts second s).lowers
  | report => exact hif _ (reportSecond_lowers s)

theorem tenthBlocks_lowers (second : Bool) (order : List TenthBlock) (s : State) :
    Lowers s (tenthBlocks second order s) :=
  tenthBlocks_lift .refl .trans (fun b _ t => tenthBlock_lowers second b t) s

/-- At a second expiry the lowest level of the new second is the commanded level, whatever follows the estimator. -/
theorem runTenth_lowest {s : State} (h : s.secondNext = true) :
    (runTenth [] s).moisture.lowest = (runTenth [] s).heater.commanded := by
  obtain ⟨first, rest, -, -, heq⟩ := runTenth_turn .moisture s
  rw [heq, h]
  exact (tenthBlocks_lowers true rest _).lowest rfl

/-! ### The motor current and the report timer -/

theorem tenthBlock_currents {b : TenthBlock} (hb : b ≠ .walker) (second : Bool) (s : State) :
    (tenthBlock second b s).drum.currentMin = s.drum.currentMin ∧
    (tenthBlock second b s).drum.currentMax = s.drum.currentMax := by
  have harise : ∀ x d, d.currentMin = s.drum.currentMin → d.currentMax = s.drum.currentMax →
      (arise x (s.setDrum d)).drum.currentMin = s.drum.currentMin ∧
      (arise x (s.setDrum d)).drum.currentMax = s.drum.currentMax := fun x d hmin hmax => by
    rw [(arise_acts x _).frame.currents.1, (arise_acts x _).frame.currents.2]
    exact ⟨hmin, hmax⟩
  cases b with
  | keepalive =>
    unfold tenthBlock keepaliveTenth
    dsimp only
    split
    · exact (arise_acts _ _).frame.currents
    · split <;> exact ⟨rfl, rfl⟩
  | drum =>
    unfold tenthBlock drumTenth
    dsimp only
    split
    · exact harise _ _ rfl rfl
    · split
      · exact harise _ _ rfl rfl
      · split
        · rw [endDwell_moves s]; exact ⟨rfl, rfl⟩
        · exact ⟨rfl, rfl⟩
  | moisture =>
    rw [tenthBlock_moisture]
    split <;> exact ⟨rfl, rfl⟩
  | walker => exact absurd rfl hb
  | cycle => exact (cycleTenth_acts second s).frame.currents
  | report =>
    have hdrum : (tenthBlock second .report s).drum = s.drum :=
      (((reportSecond_calmWork s).ite second).sees .walker (by decide)).2
    rw [hdrum]
    exact ⟨rfl, rfl⟩

/-- At a second expiry a new second opens for the motor current (05 R90). -/
theorem runTenth_currents {s : State} (h : s.secondNext = true) :
    (runTenth [] s).drum.currentMin = none ∧ (runTenth [] s).drum.currentMax = none := by
  obtain ⟨first, rest, -, hrest, heq⟩ := runTenth_turn .walker s
  have hafter := tenthBlocks_lift
    (R := fun s t => t.drum.currentMin = s.drum.currentMin ∧ t.drum.currentMax = s.drum.currentMax)
    (fun _ => ⟨rfl, rfl⟩) (fun h k => ⟨k.1.trans h.1, k.2.trans h.2⟩)
    (fun b hb t => tenthBlock_currents (fun e => hrest (e ▸ hb)) s.secondNext t)
    (tenthBlock s.secondNext .walker (tenthBlocks s.secondNext first (beginTenth s.dropChoice)))
  have hturn : ∀ u, (tenthBlock true .walker u).drum.currentMin = none ∧
      (tenthBlock true .walker u).drum.currentMax = none := fun u => by
    have hjudge := judgeSecond_drum u
    have hcount := (walkerCount_acts (judgeSecond u)).frame.currents
    rw [hjudge] at hcount
    exact hcount
  rw [← heq, h] at hafter
  exact ⟨hafter.1.trans (hturn _).1, hafter.2.trans (hturn _).2⟩

theorem tenthBlock_reportTimer {b : TenthBlock} (hb : b ≠ .report) (second : Bool) (s : State) :
    (tenthBlock second b s).upstream.reportTimer = s.upstream.reportTimer := by
  have harise : ∀ x t, (arise x t).upstream.reportTimer = t.upstream.reportTimer := fun x t =>
    (arise_acts x t).frame.reportTimer
  cases b with
  | keepalive =>
    unfold tenthBlock keepaliveTenth
    dsimp only
    split
    · exact harise _ _
    · split <;> rfl
  | drum =>
    unfold tenthBlock drumTenth
    dsimp only
    split
    · exact harise _ _
    · split
      · exact harise _ _
      · split
        · rw [endDwell_moves s]
        · rfl
  | moisture =>
    rw [tenthBlock_moisture]
    split <;> rfl
  | walker =>
    exact walkerTenth_lift (R := fun s t => t.upstream.reportTimer = s.upstream.reportTimer) (fun _ => rfl)
      (fun h k => k.trans h) (fun h => h.frame.reportTimer) (fun _ => rfl) second s
  | cycle => exact (cycleTenth_acts second s).frame.reportTimer
  | report => exact absurd rfl hb

theorem reportSecond_timer (s : State) :
    (reportSecond s).upstream.reportTimer =
      if s.param .reportInterval = 0 then s.upstream.reportTimer
      else if s.param .reportInterval ≤ s.upstream.reportTimer + 1 then 0 else s.upstream.reportTimer + 1 := by
  unfold reportSecond
  by_cases hoff : s.param .reportInterval = 0
  · simp [hoff]
  · rw [if_neg hoff, if_neg hoff]
    by_cases hshort : s.upstream.reportTimer + 1 < s.param .reportInterval
    · rw [if_pos hshort, if_neg (Nat.not_le.mpr hshort)]
      rfl
    · rw [if_neg hshort, if_pos (Nat.not_lt.mp hshort)]
      exact (joinQueue_timers _ _).2

/-- The report timer at a second expiry (11 R184). -/
theorem runTenth_reportTimer {s : State} (h : s.secondNext = true) :
    (runTenth [] s).upstream.reportTimer =
      if s.param .reportInterval = 0 then s.upstream.reportTimer
      else if s.param .reportInterval ≤ s.upstream.reportTimer + 1 then 0 else s.upstream.reportTimer + 1 := by
  obtain ⟨first, rest, hfirst, hrest, heq⟩ := runTenth_turn .report s
  have hkeeps := fun {order : List TenthBlock} (hb : .report ∉ order) (t : State) => tenthBlocks_lift
    (R := fun s t => t.upstream.reportTimer = s.upstream.reportTimer) (fun _ => rfl) (fun h k => k.trans h)
    (fun b hmem t => tenthBlock_reportTimer (fun e => hb (e ▸ hmem)) s.secondNext t) t
  have hbefore := hkeeps hfirst (beginTenth s.dropChoice)
  rw [beginTenth_upstream] at hbefore
  have hparam := tenthBlocks_param s.secondNext first (beginTenth s.dropChoice) .reportInterval
  rw [beginTenth_param] at hparam
  rw [heq, hkeeps hrest, h, tenthBlock_report, if_pos rfl, reportSecond_timer, ← h, hbefore, hparam]
  rfl

/-! ### Outside ACTIVE (03 R45; 07 R125) -/

/-- Outside ACTIVE the ring and the counts of a phase stand, and the cycle stays outside ACTIVE. -/
def StandsOutsideActive (s t : State) : Prop :=
  s.cycle.state ≠ .active →
    t.cycle.state ≠ .active ∧ t.moisture.ring = s.moisture.ring ∧ t.cycle.elapsed = s.cycle.elapsed ∧
    t.cycle.settle = s.cycle.settle

theorem HaltsAtMost.standsOutsideActive {s t : State} (h : HaltsAtMost s t) : StandsOutsideActive s t := by
  obtain ⟨hring, hcycle | hcycle⟩ := h
  · exact fun hs => ⟨by rwa [hcycle], hring, by rw [hcycle], by rw [hcycle]⟩
  · exact fun _ => ⟨by simp [hcycle, Cycle.halt], hring, by simp [hcycle, Cycle.halt], by simp [hcycle, Cycle.halt]⟩

theorem endCooldown_ring (s : State) : (endCooldown s).moisture.ring = s.moisture.ring := by
  simp [endCooldown]

theorem cycleTenth_standsOutsideActive (second : Bool) (s : State) :
    StandsOutsideActive s (cycleTenth second s) := by
  intro hs
  unfold cycleTenth
  split
  next hstate => exact ⟨by simp [hstate], rfl, rfl, rfl⟩
  next hstate => exact absurd hstate hs
  next hstate =>
    split
    · unfold cooldownSecond
      dsimp only
      split
      · exact ⟨by simp [Cycle.to], by rw [endCooldown_ring]; rfl, by simp [Cycle.to], by simp [Cycle.to]⟩
      · exact ⟨by simp [hstate], rfl, rfl, rfl⟩
    · exact ⟨hs, rfl, rfl, rfl⟩
  next => exact ⟨hs, rfl, rfl, rfl⟩
  next => exact ⟨hs, rfl, rfl, rfl⟩

theorem moistureSecond_standsOutsideActive (s : State) : StandsOutsideActive s (moistureSecond s) :=
  fun hs => ⟨hs, if_neg hs, rfl, rfl⟩

theorem tenthBlock_standsOutsideActive (second : Bool) (b : TenthBlock) (s : State) :
    StandsOutsideActive s (tenthBlock second b s) := by
  by_cases hm : b = .moisture
  · subst hm
    rw [tenthBlock_moisture]
    split
    · exact moistureSecond_standsOutsideActive s
    · exact (HaltsAtMost.refl s).standsOutsideActive
  · by_cases hc : b = .cycle
    · subst hc; exact cycleTenth_standsOutsideActive second s
    · exact (tenthBlock_haltsAtMost hm hc second s).standsOutsideActive

theorem runTenth_standsOutsideActive {s : State} (h : s.cycle.state ≠ .active) :
    (runTenth [] s).moisture.ring = s.moisture.ring ∧ (runTenth [] s).cycle.elapsed = s.cycle.elapsed ∧
    (runTenth [] s).cycle.settle = s.cycle.settle := by
  have htrans : ∀ {s t u : State}, StandsOutsideActive s t → StandsOutsideActive t u → StandsOutsideActive s u := by
    intro s t u h k hs
    obtain ⟨ht, hring, helapsed, hsettle⟩ := h hs
    obtain ⟨hu, kring, kelapsed, ksettle⟩ := k ht
    exact ⟨hu, kring.trans hring, kelapsed.trans helapsed, ksettle.trans hsettle⟩
  have hblocks := tenthBlocks_lift (R := StandsOutsideActive) (fun s => (HaltsAtMost.refl s).standsOutsideActive) htrans
    (order := fillOrder TenthBlock.all ([] ++ s.choice.tenth))
    (fun b _ t => tenthBlock_standsOutsideActive s.secondNext b t) (beginTenth s.dropChoice)
  have hbegin : (beginTenth s.dropChoice).cycle.state ≠ .active := by rwa [beginTenth_cycle]
  obtain ⟨-, hring, helapsed, hsettle⟩ := hblocks hbegin
  rw [beginTenth_moisture] at hring
  rw [beginTenth_cycle] at helapsed hsettle
  exact ⟨hring, helapsed, hsettle⟩

/-! ### A plain second in ACTIVE (03 R45, R46; 07 R125, R130) -/

theorem satSucc_eq_min (m n : Nat) : satSucc m n = min m (n + 1) := by
  unfold satSucc
  split <;> omega

theorem countSecond_cycle {s : State} (h : s.cycle.state = .active) :
    (countSecond s).cycle =
      { s.cycle with
        elapsed :=
          if s.faults.effective ≠ .coolRun ∧ s.silent = false then s.cycle.elapsed + 1 else s.cycle.elapsed
        settle :=
          if s.cycle.record.kind = .cool then
            match s.exhaust? with
            | some x => if x ≤ s.cycle.record.tSet then min 10 (s.cycle.settle + 1) else 0
            | none => 0
          else s.cycle.settle } := by
  simp only [countSecond, State.setCycle_cycle, State.phaseTimeRuns, State.settleNext, satSucc_eq_min, h]
  cases s.exhaust? <;> simp

/-- What the calm blocks before the estimator and the cycle controller leave for them to read. -/
theorem MovesCalm.readings {s u : State} (h : MovesCalm (beginTenth s.dropChoice) u) :
    u.exhaust? = s.exhaust? ∧ u.silent = s.silent ∧ u.faults.effective = s.faults.effective ∧
    u.drum.state = s.drum.state ∧ u.cycle.state = s.cycle.state := by
  have hdrum : u.drum.state = (beginTenth s.dropChoice).drum.state := by rw [h]
  have hcycle : u.cycle.state = (beginTenth s.dropChoice).cycle.state := by rw [h]
  have hfaults : u.faults = (beginTenth s.dropChoice).faults := by rw [h]
  have hpath : u.path = (beginTenth s.dropChoice).path := by rw [h]
  rw [beginTenth_drumState] at hdrum
  rw [beginTenth_cycle] at hcycle
  rw [beginTenth_faults] at hfaults
  rw [beginTenth_path] at hpath
  refine ⟨?_, ?_, ?_, hdrum, hcycle⟩
  · simp only [State.exhaust?, State.silent, State.present, hpath, hfaults]
    rfl
  · simp only [State.silent, State.present, hfaults]
    rfl
  · rw [hfaults]
    rfl

theorem runTenth_cycle_of_plain {s : State} (hsecond : s.secondNext = true) (h : s.plainTenth)
    (hactive : s.cycle.state = .active) : (runTenth [] s).cycle = (countSecond s).cycle := by
  obtain ⟨u, hmoves, hsees, hturn⟩ := runTenth_turn_of_plain h .cycle
  have hcalm := TenthBlock.calm_of_moves hmoves hsees (calm_of_plainTenth h .cycle)
  have hcycle : u.cycle = s.cycle := by
    rw [show u.cycle = (beginTenth s.dropChoice).cycle from hsees, beginTenth_cycle]
    rfl
  obtain ⟨hexhaust, hsilent, heffective, -, -⟩ := hmoves.readings
  have hleft : (runTenth [] s).cycle = (cycleTenth s.secondNext u).cycle := hturn
  have hcount : (countSecond u).cycle = (countSecond s).cycle := by
    simp only [countSecond, State.phaseTimeRuns, State.settleNext, State.setCycle_cycle, hcycle, hexhaust, hsilent,
      heffective]
    rfl
  rw [hleft, cycleTenth_of_calm hcalm, State.setCycle_cycle, hcycle, hactive, ← hcount]
  simp [hsecond]

theorem nextRing_eq {s : State} (h : s.cycle.state = .active) :
    s.nextRing =
      match s.exhaust? with
      | some x =>
        if s.drum.state = .turning then
          (if s.moisture.ring.length < 16 then s.moisture.ring else s.moisture.ring.tail) ++ [⟨x, s.moisture.lowest⟩]
        else []
      | none => [] := by
  unfold State.nextRing
  rw [if_pos h]
  cases s.exhaust? <;> rfl

theorem runTenth_ring_of_plain {s : State} (hsecond : s.secondNext = true) (h : s.plainTenth) :
    (runTenth [] s).moisture.ring = s.nextRing := by
  obtain ⟨u, hmoves, hsees, hturn⟩ := runTenth_turn_of_plain h .moisture
  have hmoisture : u.moisture = s.moisture := by
    rw [show u.moisture = (beginTenth s.dropChoice).moisture from hsees, beginTenth_moisture]
    rfl
  obtain ⟨hexhaust, -, -, hdrum, hcycle⟩ := hmoves.readings
  have hleft : (runTenth [] s).moisture = (tenthBlock s.secondNext .moisture u).moisture := hturn
  rw [hleft, hsecond, tenthBlock_moisture, if_pos rfl]
  show u.nextRing = s.nextRing
  simp only [State.nextRing, hmoisture, hexhaust, hdrum, hcycle]

end Sys2Proof.Machine

/-! # A second expiry in COOLDOWN (08 R146, R147; 11 R182, R183) -/

namespace Sys2Proof.Machine

/-! ### Frames that join a queue with room -/

/-- With nothing waiting, READY low and room for the frames of a list, just they have joined the queue. -/
def Joins (l : List UpFrame) (s t : State) : Prop :=
  s.upstream.events = [] → s.links.ready = false → s.upstream.queue.length + l.length ≤ 15 →
    t.upstream.events = [] ∧ t.links.ready = false ∧ t.upstream.queue = s.upstream.queue ++ l

theorem Joins.of_same {s t : State} (hupstream : t.upstream = s.upstream) (hlinks : t.links.ready = s.links.ready) :
    Joins [] s t := by
  intro hevents hready _
  rw [hupstream, hlinks, List.append_nil]
  exact ⟨hevents, hready, rfl⟩

theorem Joins.trans {k l : List UpFrame} {s t u : State} (h : Joins k s t) (h' : Joins l t u) : Joins (k ++ l) s u := by
  intro hevents hready hroom
  rw [List.length_append] at hroom
  obtain ⟨tevents, tready, tqueue⟩ := h hevents hready (by omega)
  obtain ⟨uevents, uready, uqueue⟩ := h' tevents tready (by rw [tqueue, List.length_append]; omega)
  exact ⟨uevents, uready, by rw [uqueue, tqueue, List.append_assoc]⟩

theorem joinQueue_joins (f : UpFrame) (s : State) : Joins [f] s (joinQueue f s) := by
  intro hevents hready hroom
  have hlt : s.upstream.queue.length < queueCapacity := by
    simp only [List.length_singleton] at hroom
    simp only [queueCapacity]
    omega
  have hbusy : (s.setUpstream (joinTail f s.upstream)).lineBusy := .inl hready
  rw [joinQueue, startTransmission_of_lineBusy hbusy, joinTail_of_lt hlt]
  exact ⟨hevents, hready, rfl⟩

/-- A lone entry that finds room moves to the queue (11 R182). -/
theorem moveEntries_of_room (e : EventEntry) {u : Upstream} (h : u.queue.length ≤ 14) :
    moveEntries [e] u = { u with queue := u.queue ++ [e.frame], events := [] } := by
  have hlt : u.queue.length < queueCapacity := by simp only [queueCapacity]; omega
  have hmove : u.canMove = true := by
    have hkept : keptCount u.queue ≤ u.queue.length := List.length_filter_le _ _
    simp only [Upstream.canMove, Upstream.canAccept, Bool.and_eq_true, Bool.or_eq_true, decide_eq_true_eq]
    exact ⟨.inl hlt, by omega⟩
  rw [moveEntries, if_pos hmove, joinTail_of_lt hlt]
  rfl

/-- An event that finds the list empty, and room, is in the queue at once, with count 1 (11 R182, R183). -/
theorem raiseEvent_joins (k : EventKind) (a : Nat) (s : State) :
    Joins [⟨.event, [byteOf k.code, byteOf a, 1]⟩] s (raiseEvent k a s) := by
  intro hevents hready hroom
  have hlt : s.upstream.queue.length ≤ 14 := Nat.le_of_succ_le_succ hroom
  have hadd : addEvent k a s.upstream.events = [⟨k, a, 1⟩] := by rw [hevents]; rfl
  have hmoved : moveEvents (s.setUpstream { s.upstream with events := addEvent k a s.upstream.events }) =
      s.setUpstream
        { s.upstream with
          queue := s.upstream.queue ++ [⟨.event, [byteOf k.code, byteOf a, 1]⟩], events := [] } := by
    rw [hadd]
    exact congrArg s.setUpstream
      (moveEntries_of_room ⟨k, a, 1⟩ (u := { s.upstream with events := [⟨k, a, 1⟩] }) hlt)
  have hbusy : (moveEvents (s.setUpstream { s.upstream with events := addEvent k a s.upstream.events })).lineBusy := by
    rw [hmoved]
    exact .inl hready
  rw [raiseEvent, startTransmission_of_lineBusy hbusy, hmoved]
  exact ⟨rfl, hready, rfl⟩

theorem MovesDrum.joins {s t : State} (h : MovesDrum s t) : Joins [] s t := .of_same (by rw [h]) (by rw [h])

theorem cycleTo_joins (c : CycleState) (s : State) : Joins [] s (cycleTo c s) :=
  .of_same (by rw [cycleTo_moves c s]) (by rw [cycleTo_moves c s])

/-- The end of COOLDOWN tells COOLDOWN_END, then CYCLE_DONE with ABORTED (08 R147). -/
theorem endCooldown_joins (s : State) :
    Joins [⟨.event, [byteOf EventKind.cooldownEnd.code, byteOf 0, 1]⟩,
      ⟨.event, [byteOf EventKind.cycleDone.code, byteOf 4, 1]⟩] s (endCooldown s) :=
  ((raiseEvent_joins _ _ s).trans (cycleTo_joins .idle _)).trans (raiseEvent_joins _ _ _)

theorem sendReport_joins (s : State) : ∃ f, Joins [f] s (sendReport s) :=
  ⟨_, joinQueue_joins _ (s.setAux { s.aux with freeCount := s.aux.freeCount + 2 })⟩

theorem setReportTimer_joins (s : State) (n : Nat) :
    Joins [] s (s.setUpstream { s.upstream with reportTimer := n }) :=
  fun hevents hready _ => ⟨hevents, hready, (List.append_nil _).symm⟩

theorem reportSecond_joins (s : State) : ∃ l, l.length ≤ 1 ∧ Joins l s (reportSecond s) := by
  unfold reportSecond
  split
  · exact ⟨[], Nat.zero_le 1, .of_same rfl rfl⟩
  · split
    · exact ⟨[], Nat.zero_le 1, setReportTimer_joins s _⟩
    · obtain ⟨f, hf⟩ := sendReport_joins (s.setUpstream { s.upstream with reportTimer := 0 })
      exact ⟨[f], le_rfl, (setReportTimer_joins s 0).trans hf⟩

/-! ### Counts below the drum's limits (05 R86, R88) -/

/-- The spinup count of a RAMP and the coast count of a DECEL lie below two bounds. -/
def Drum.below (spinup coast : Nat) (d : Drum) : Prop :=
  (d.state = .ramp → d.spinup.getD 0 < spinup) ∧ (d.state = .decel → d.coast.getD 0 < coast)

/-- Counts that lay below two bounds lie below them still. -/
def KeepsBelow (s t : State) : Prop :=
  ∀ a b : Nat, 0 < a → 0 < b → s.drum.below a b → t.drum.below a b

theorem KeepsBelow.refl (s : State) : KeepsBelow s s := fun _ _ _ _ h => h

theorem KeepsBelow.trans {s t u : State} (h : KeepsBelow s t) (k : KeepsBelow t u) : KeepsBelow s u :=
  fun a b ha hb hs => k a b ha hb (h a b ha hb hs)

theorem KeepsBelow.of_counts {s t : State} (hstate : t.drum.state = s.drum.state) (hspinup : t.drum.spinup = s.drum.spinup)
    (hcoast : t.drum.coast = s.drum.coast) : KeepsBelow s t := by
  intro a b _ _ h
  unfold Drum.below at h ⊢
  rwa [hstate, hspinup, hcoast]

theorem KeepsBelow.of_drum {s t : State} (h : t.drum = s.drum) : KeepsBelow s t :=
  .of_counts (by rw [h]) (by rw [h]) (by rw [h])

theorem enterRamp_below (d : Direction) (v start : Nat) (s : State) : KeepsBelow s (enterRamp d v start s) := by
  intro a b ha _ _
  simp [enterRamp, Drum.below, ha]

theorem enterDecel_below (s : State) : KeepsBelow s (enterDecel s) := by
  intro a b _ hb _
  simp [enterDecel, Drum.below, hb]

theorem enterDwell_below (s : State) : KeepsBelow s (enterDwell s) := by
  intro a b _ _ _
  simp [enterDwell, Drum.below]

theorem enterStopped_below (s : State) : KeepsBelow s (enterStopped s) := by
  intro a b _ _ _
  simp [enterStopped, Drum.below]

theorem leaveRamp_below (s : State) : KeepsBelow s (leaveRamp s) := by
  unfold leaveRamp
  split
  · exact enterDwell_below s
  · exact enterDecel_below s

theorem actOn_below (w : Demand) (s : State) : KeepsBelow s (actOn w s) := by
  unfold actOn
  split
  · split
    · exact .refl s
    · exact enterRamp_below _ _ _ s
    · exact enterRamp_below _ _ _ s
    · exact enterDwell_below s
  · split
    · split
      · exact .of_counts rfl rfl rfl
      · exact leaveRamp_below s
    · exact leaveRamp_below s
  · split
    · split
      · split
        · exact .refl s
        · exact enterRamp_below _ _ _ s
      · exact enterDecel_below s
    · exact enterDecel_below s
  · exact .refl s
  · split
    · exact .refl s
    · exact .refl s
    · exact .refl s
    · exact .of_counts rfl rfl rfl

theorem reselect_below (n : Bool) (s : State) : KeepsBelow s (reselect n s) := by
  have hwinner : KeepsBelow s ((handWalker s).setDrum { (handWalker s).drum with winner := (handWalker s).selectDemand }) := by
    have hdrum : (handWalker s).drum = s.drum := by rw [handWalker_moves s]
    rw [hdrum]
    exact .of_counts rfl rfl rfl
  unfold reselect
  dsimp only
  split
  · refine hwinner.trans ?_
    unfold meetWinner
    split
    · exact .of_drum rfl
    · exact actOn_below _ _
  · exact hwinner

theorem Act.below {s t : State} (h : Act s t) : KeepsBelow s t := by
  cases h with
  | force => exact .of_drum (by simp)
  | reselect n => exact reselect_below n s
  | walk hwalk => exact .of_drum (by rw [hwalk])
  | tell k a => exact .of_drum (by simp)
  | cycle c => exact .of_drum rfl
  | fault f => exact .of_drum rfl
  | estimate m hm => exact .of_drum rfl

theorem Acts.below {s t : State} (h : Acts s t) : KeepsBelow s t := h.lift .refl .trans Act.below

theorem endDwell_below (s : State) : KeepsBelow s (endDwell s) := by
  have hnext : KeepsBelow s
      ((advanceWalker s).setDrum { (advanceWalker s).drum with winner := (advanceWalker s).segmentDemand }) := by
    have hdrum : (advanceWalker s).drum = s.drum := by rw [advanceWalker_moves s]
    rw [hdrum]
    exact .of_counts rfl rfl rfl
  unfold endDwell
  split
  · exact enterStopped_below s
  · exact enterRamp_below _ _ _ s
  · exact enterRamp_below _ _ _ s
  · dsimp only
    split
    · exact hnext.trans (enterStopped_below _)
    · exact hnext.trans (enterRamp_below _ _ _ _)
    · exact hnext.trans (enterRamp_below _ _ _ _)
    · exact hnext.trans (.of_counts rfl rfl rfl)

/-- No count of the drum stands at its limit. -/
def State.belowLimits (s : State) : Prop := s.drum.below (10 * s.param .spinupLimit) (10 * s.param .coastLimit)

theorem drumTenth_of_below {s : State} (h : s.belowLimits) : drumTenth s = if s.dwellDue then endDwell s else s := by
  obtain ⟨hramp, hdecel⟩ := h
  have hstall : s.stallDue = false := by
    by_cases hstate : s.drum.state = .ramp
    · have hlt := hramp hstate
      simp only [State.stallDue, hstate, Bool.and_eq_false_iff, decide_eq_false_iff_not]
      exact .inl (.inr (by omega))
    · simp [State.stallDue, hstate]
  have hoverrun : s.overrunDue = false := by
    by_cases hstate : s.drum.state = .decel
    · have hlt := hdecel hstate
      simp only [State.overrunDue, hstate, Bool.and_eq_false_iff, decide_eq_false_iff_not]
      exact .inl (.inr (by omega))
    · simp [State.overrunDue, hstate]
  simp [drumTenth, hstall, hoverrun]

/-! ### A block's quiet tenth outside ACTIVE -/

/-- What the quiet work of blocks other than the cycle controller leaves to one another, with how many frames at most have
joined the queue, and whether the keepalive window has had its turn. -/
structure Quiet (turned : Prop) (n : Nat) (s t : State) : Prop where
  cycle : t.cycle = s.cycle
  faults : t.faults = s.faults
  path : t.path = s.path
  tables : t.tables = s.tables
  below : KeepsBelow s t
  window : ¬turned → t.links.keepalive = s.links.keepalive
  joins : ∃ l : List UpFrame, l.length ≤ n ∧ Joins l s t

theorem Quiet.refl (s : State) : Quiet False 0 s s :=
  ⟨rfl, rfl, rfl, rfl, .refl s, fun _ => rfl, [], le_rfl, .of_same rfl rfl⟩

theorem Quiet.trans {p q : Prop} {n m : Nat} {s t u : State} (h : Quiet p n s t) (k : Quiet q m t u) :
    Quiet (p ∨ q) (n + m) s u where
  cycle := k.cycle.trans h.cycle
  faults := k.faults.trans h.faults
  path := k.path.trans h.path
  tables := k.tables.trans h.tables
  below := h.below.trans k.below
  window hno := (k.window fun hq => hno (.inr hq)).trans (h.window fun hp => hno (.inl hp))
  joins := by
    obtain ⟨l, hl, hjoins⟩ := h.joins
    obtain ⟨l', hl', hjoins'⟩ := k.joins
    exact ⟨l ++ l', by rw [List.length_append]; omega, hjoins.trans hjoins'⟩

theorem Quiet.mono {p q : Prop} {n m : Nat} {s t : State} (h : Quiet p n s t) (hpq : p → q) (hnm : n ≤ m) :
    Quiet q m s t :=
  ⟨h.cycle, h.faults, h.path, h.tables, h.below, fun hq => h.window fun hp => hq (hpq hp),
    let ⟨l, hl, hjoins⟩ := h.joins; ⟨l, hl.trans hnm, hjoins⟩⟩

theorem MovesDrum.quiet {s t : State} (h : MovesDrum s t) (hbelow : KeepsBelow s t) : Quiet False 0 s t :=
  ⟨by rw [h], by rw [h], by rw [h], by rw [h], hbelow, fun _ => by rw [h], [], le_rfl, h.joins⟩

theorem Quiet.param {p : Prop} {n : Nat} {s t : State} (h : Quiet p n s t) (x : Param) : t.param x = s.param x := by
  rw [State.param, h.tables]; rfl

theorem Quiet.exhaust {p : Prop} {n : Nat} {s t : State} (h : Quiet p n s t) : t.exhaust? = s.exhaust? := by
  simp only [State.exhaust?, State.silent, State.present, h.path, h.faults]
  rfl

theorem Quiet.lateDue {p : Prop} {n : Nat} {s t : State} (h : Quiet p n s t) (hp : ¬p) : t.lateDue = s.lateDue := by
  simp only [State.lateDue, h.param, h.window hp]

theorem Quiet.belowLimits {p : Prop} {n : Nat} {s t : State} (h : Quiet p n s t) (hspinup : 0 < s.param .spinupLimit)
    (hcoast : 0 < s.param .coastLimit) (hs : s.belowLimits) : t.belowLimits := by
  unfold State.belowLimits at hs ⊢
  rw [h.param, h.param]
  exact h.below _ _ (by omega) (by omega) hs

theorem keepaliveTenth_quiet {s : State} (h : s.lateDue = false) : Quiet True 0 s (keepaliveTenth s) := by
  rw [keepaliveTenth_of_calm h]
  exact ⟨rfl, rfl, rfl, rfl, .of_drum rfl, fun hno => absurd trivial hno, [], le_rfl, .of_same rfl rfl⟩

theorem reportSecond_quiet (s : State) : Quiet False 1 s (reportSecond s) where
  cycle := ((reportSecond_calmWork s).sees .cycle (by decide))
  faults := by rw [(reportSecond_calmWork s).moves]
  path := by rw [(reportSecond_calmWork s).moves]
  tables := by rw [(reportSecond_calmWork s).moves]
  below := .of_drum ((reportSecond_calmWork s).sees .walker (by decide)).2
  window _ := (reportSecond_calmWork s).sees .keepalive (by decide)
  joins := reportSecond_joins s

/-- Outside ACTIVE the monitor detects nothing (06 R104). -/
theorem judgeSecond_quiet {s : State} (h : s.cycle.state ≠ .active) : Quiet False 0 s (judgeSecond s) := by
  have htangle : s.tangleDue = false := by simp [State.tangleDue, State.rippleHigh, State.ripple?, h]
  unfold judgeSecond
  rw [htangle]
  exact ⟨rfl, rfl, rfl, rfl, .of_counts rfl rfl rfl, fun _ => rfl, [], le_rfl, .of_same rfl rfl⟩

theorem walkerCount_quiet (s : State) : Quiet False 0 s (walkerCount s) := by
  have hmoves : MovesDrum s (walkerCount s) := by
    unfold walkerCount
    dsimp only
    split
    · exact ((countTurning_moves s).drum.trans (endTangled_moves _).drum).trans (reselect_moves _ _)
    · split
      · exact ((countTurning_moves s).drum.trans (advanceWalker_moves _).drum).trans (reselect_moves _ _)
      · exact (countTurning_moves s).drum
  exact hmoves.quiet (walkerCount_acts s).below

theorem walkerTenth_quiet {second : Bool} {s : State} (h : s.cycle.state ≠ .active) :
    Quiet False 0 s (walkerTenth second s) := by
  have hjudge : Quiet False 0 s (if second then judgeSecond s else s) := by
    split
    · exact judgeSecond_quiet h
    · exact .refl s
  exact (hjudge.trans (walkerCount_quiet _)).mono (by simp) le_rfl

theorem tenthBlock_quiet {b : TenthBlock} {second : Bool} {s : State} (hcycle : b ≠ .cycle)
    (hactive : s.cycle.state ≠ .active) (hbelow : s.belowLimits) (hlate : b = .keepalive → s.lateDue = false) :
    Quiet (b = .keepalive) 1 s (tenthBlock second b s) := by
  cases b with
  | keepalive => exact (keepaliveTenth_quiet (hlate rfl)).mono (by simp) (by omega)
  | drum =>
    show Quiet _ 1 s (drumTenth s)
    rw [drumTenth_of_below hbelow]
    split
    · exact ((endDwell_moves s).quiet (endDwell_below s)).mono (by simp) (by omega)
    · exact (Quiet.refl s).mono (by simp) (by omega)
  | moisture =>
    rw [tenthBlock_moisture]
    split
    · exact ⟨rfl, rfl, rfl, rfl, .of_drum rfl, fun _ => rfl, [], by simp, .of_same rfl rfl⟩
    · exact (Quiet.refl s).mono (by simp) (by omega)
  | walker => exact (walkerTenth_quiet hactive).mono (by simp) (by omega)
  | cycle => exact absurd rfl hcycle
  | report =>
    rw [tenthBlock_report]
    split
    · exact (reportSecond_quiet s).mono (by simp) le_rfl
    · exact (Quiet.refl s).mono (by simp) (by omega)

/-- The blocks of an order without the cycle controller do quiet work, each in its turn. -/
theorem tenthBlocks_quiet {second : Bool} {order : List TenthBlock} {s : State} (hnodup : order.Nodup)
    (hcycle : .cycle ∉ order) (hactive : s.cycle.state ≠ .active) (hspinup : 0 < s.param .spinupLimit)
    (hcoast : 0 < s.param .coastLimit) (hbelow : s.belowLimits)
    (hlate : .keepalive ∈ order → s.lateDue = false) :
    Quiet (.keepalive ∈ order) order.length s (tenthBlocks second order s) := by
  induction order generalizing s with
  | nil => exact (Quiet.refl s).mono (by simp) le_rfl
  | cons b bs ih =>
    obtain ⟨hb, hbs⟩ := List.nodup_cons.mp hnodup
    have hne : b ≠ .cycle := fun e => hcycle (by simp [e])
    have hrest : .cycle ∉ bs := fun hmem => hcycle (List.mem_cons_of_mem b hmem)
    have hblock : Quiet (b = .keepalive) 1 s (tenthBlock second b s) :=
      tenthBlock_quiet hne hactive hbelow fun e => hlate (by simp [e])
    have hwork := ih hbs hrest (by rwa [hblock.cycle]) (by rwa [hblock.param]) (by rwa [hblock.param])
      (hblock.belowLimits hspinup hcoast hbelow)
      (fun hmem => (hblock.lateDue (fun e => hb (e ▸ hmem))).trans (hlate (List.mem_cons_of_mem b hmem)))
    rw [tenthBlocks_cons]
    refine (hblock.trans hwork).mono ?_ (by simp [Nat.add_comm])
    rintro (rfl | hmem)
    · exact List.mem_cons_self
    · exact List.mem_cons_of_mem b hmem

/-! ### The cycle controller's turn in COOLDOWN -/

theorem tenthOrder_length (named : List TenthBlock) : (fillOrder TenthBlock.all named).length ≤ 6 :=
  (List.subperm_of_subset (nodup_fillOrder nodup_tenthBlocks named) fun b _ => b.mem_all).length_le

/-- COOLDOWN ends at this second expiry (08 R147). -/
def State.cooldownOver (s : State) : Bool := s.cooledDown || s.cooldownSpent

theorem cooldownSecond_of_over {s : State} (h : s.cooldownOver = true) :
    (cooldownSecond s).cycle.state = .idle ∧ (cooldownSecond s).cycle.cooldown = none ∧
    Joins [⟨.event, [byteOf EventKind.cooldownEnd.code, byteOf 0, 1]⟩,
      ⟨.event, [byteOf EventKind.cycleDone.code, byteOf 4, 1]⟩] s (cooldownSecond s) := by
  have hends : cooldownSecond s =
      endCooldown (s.setCycle { s.cycle with cooldown := s.cycle.cooldown.map (· + 1) }) := if_pos h
  rw [hends, endCooldown_cycle]
  have hset : Joins [] s (s.setCycle { s.cycle with cooldown := s.cycle.cooldown.map (· + 1) }) := .of_same rfl rfl
  exact ⟨rfl, rfl, hset.trans (endCooldown_joins _)⟩

theorem cooldownSecond_of_not_over {s : State} (h : s.cooldownOver = false) :
    cooldownSecond s = s.setCycle { s.cycle with cooldown := s.cycle.cooldown.map (· + 1) } :=
  if_neg (by rw [show (s.cooledDown || s.cooldownSpent) = false from h]; exact Bool.false_ne_true)

theorem cooldownSecond_state {s : State} (h : s.cycle.state = .cooldown) :
    (cooldownSecond s).cycle.state ≠ .active := by
  cases hover : s.cooldownOver with
  | true => rw [(cooldownSecond_of_over hover).1]; decide
  | false =>
    rw [cooldownSecond_of_not_over hover, State.setCycle_cycle, h]
    decide

theorem cooldownOver_iff {s : State} {n : Nat} (h : s.cycle.cooldown = some n) :
    s.cooldownOver = true ↔
      (∃ x, s.exhaust? = some x ∧ x < (s.limitAt 3).high) ∨ 60 * s.param .cooldownLimit ≤ n + 1 := by
  simp only [State.cooldownOver, State.cooledDown, State.cooldownSpent, h, Bool.or_eq_true, decide_eq_true_eq,
    Option.getD_some, State.abortCool]
  cases s.exhaust? with
  | none => simp
  | some x =>
    simp only [Option.some.injEq, exists_eq_left']
    exact or_congr_left decide_eq_true_iff

theorem beginTenth_belowLimits {s : State}
    (hramp : s.drum.state = .ramp → s.drum.spinup.getD 0 + 1 < 10 * s.param .spinupLimit)
    (hdecel : s.drum.state = .decel → s.drum.coast.getD 0 + 1 < 10 * s.param .coastLimit) :
    (beginTenth s.dropChoice).belowLimits := by
  have hspinup := getD_map_succ_le s.drum.spinup
  have hcoast := getD_map_succ_le s.drum.coast
  have hdrum : (beginTenth s.dropChoice).drum = (beginTenth s).drum := by rw [beginTenth_dropChoice]; rfl
  have hparam : ∀ p, (beginTenth s.dropChoice).param p = s.param p := fun p => beginTenth_param s.dropChoice p
  unfold State.belowLimits Drum.below
  rw [hdrum, beginTenth_drum, hparam, hparam]
  refine ⟨fun hstate => ?_, fun hstate => ?_⟩
  · have hlt := hramp hstate
    dsimp only
    split <;> omega
  · have hlt := hdecel hstate
    dsimp only
    split <;> omega

/-- A second expiry in COOLDOWN, with no limit near: before and after the cycle controller's turn the other blocks leave the
cycle, and tell no event (08 R146, R147). -/
theorem runTenth_cooldown {s : State} {n : Nat} (hsecond : s.secondNext = true) (hlaw : s.paramLaw)
    (hlate : s.lateDue = false) (hstate : s.cycle.state = .cooldown) (hcount : s.cycle.cooldown = some n)
    (hbelow : (beginTenth s.dropChoice).belowLimits) :
    if (∃ x, s.exhaust? = some x ∧ x < (s.limitAt 3).high) ∨ 60 * s.param .cooldownLimit ≤ n + 1 then
      (runTenth [] s).cycle.state = .idle ∧ (runTenth [] s).cycle.cooldown = none ∧
        s.tells 8 (runTenth [] s) [(.cooldownEnd, 0), (.cycleDone, 4)]
    else (runTenth [] s).cycle = { s.cycle with cooldown := some (n + 1) } := by
  obtain ⟨first, rest, horder, hfirst, hrest⟩ := tenthOrder_split ([] ++ s.choice.tenth) .cycle
  have hlength := tenthOrder_length ([] ++ s.choice.tenth)
  have hnodup := nodup_fillOrder nodup_tenthBlocks ([] ++ s.choice.tenth)
  rw [horder] at hlength hnodup
  obtain ⟨hnodupFirst, hnodupTail, hdisjoint⟩ := List.nodup_append.mp hnodup
  obtain ⟨-, hnodupRest⟩ := List.nodup_cons.mp hnodupTail
  have hspinup : 0 < s.param .spinupLimit := Nat.lt_of_lt_of_le (by decide) (hlaw.1 .spinupLimit).1
  have hcoast : 0 < s.param .coastLimit := Nat.lt_of_lt_of_le (by decide) (hlaw.1 .coastLimit).1
  have hparam : ∀ p, (beginTenth s.dropChoice).param p = s.param p := fun p => beginTenth_param s.dropChoice p
  have hcycle : (beginTenth s.dropChoice).cycle = s.cycle := beginTenth_cycle s.dropChoice
  have hlateBegin : (beginTenth s.dropChoice).lateDue = false := by
    simp only [State.lateDue, hparam, beginTenth_links]
    exact hlate
  have hbefore : Quiet (.keepalive ∈ first) first.length (beginTenth s.dropChoice)
      (tenthBlocks s.secondNext first (beginTenth s.dropChoice)) :=
    tenthBlocks_quiet hnodupFirst hfirst (by rw [hcycle, hstate]; decide) (by rwa [hparam]) (by rwa [hparam]) hbelow
      fun _ => hlateBegin
  have hrun : runTenth [] s = tenthBlocks s.secondNext rest (tenthBlock s.secondNext .cycle
      (tenthBlocks s.secondNext first (beginTenth s.dropChoice))) := by
    rw [runTenth, horder, tenthBlocks_append, tenthBlocks_cons]
  revert hbefore hrun
  generalize tenthBlocks s.secondNext first (beginTenth s.dropChoice) = u
  intro hbefore hrun
  have hucycle : u.cycle = s.cycle := hbefore.cycle.trans hcycle
  have huparam : ∀ p, u.param p = s.param p := fun p => (hbefore.param p).trans (hparam p)
  have hturn : tenthBlock s.secondNext .cycle u = cooldownSecond u := by
    simp [tenthBlock, cycleTenth, hucycle, hstate, hsecond]
  have hframe := (cooldownSecond_acts u).frame
  have hafter : Quiet (.keepalive ∈ rest) rest.length (cooldownSecond u) (runTenth [] s) := by
    rw [hrun, hturn]
    refine tenthBlocks_quiet hnodupRest hrest (cooldownSecond_state (by rw [hucycle, hstate]))
      (by rwa [hframe.param, huparam]) (by rwa [hframe.param, huparam]) ?_ fun hmem => ?_
    · have hubelow := hbefore.belowLimits (by rwa [hparam]) (by rwa [hparam]) hbelow
      unfold State.belowLimits at hubelow ⊢
      rw [hframe.param, hframe.param]
      exact (cooldownSecond_acts u).below _ _ (by rw [huparam]; omega) (by rw [huparam]; omega) hubelow
    · have hnot : .keepalive ∉ first := fun hin => hdisjoint _ hin _ (List.mem_cons_of_mem _ hmem) rfl
      have hkeepalive : (cooldownSecond u).links.keepalive = u.links.keepalive := by rw [hframe.links]
      have hulate := (hbefore.lateDue hnot).trans hlateBegin
      simp only [State.lateDue, hframe.param, hkeepalive]
      exact hulate
  have hover := cooldownOver_iff (s := u) (n := n) (by rw [hucycle, hcount])
  have hexhaust : u.exhaust? = s.exhaust? := hbefore.exhaust.trans (beginTenth_exhaust s.dropChoice)
  have hlimit : u.limitAt 3 = s.limitAt 3 := by
    rw [State.limitAt, hbefore.faults, beginTenth_faults]
    rfl
  rw [hexhaust, hlimit, huparam] at hover
  split
  next hends =>
    obtain ⟨hidle, hnone, hevents⟩ := cooldownSecond_of_over (hover.mpr hends)
    rw [hafter.cycle]
    refine ⟨hidle, hnone, fun hempty hready hroom => ?_⟩
    obtain ⟨l, hl, hjoins⟩ := hbefore.joins
    obtain ⟨l', hl', hjoins'⟩ := hafter.joins
    have hbegin : Joins [] s (beginTenth s.dropChoice) :=
      .of_same (beginTenth_upstream s.dropChoice) (by rw [beginTenth_links]; rfl)
    obtain ⟨-, -, hqueue⟩ := ((hbegin.trans hjoins).trans (hevents.trans hjoins')) hempty hready (by
      simp only [List.length_append, List.length_cons, List.length_nil] at hlength ⊢
      omega)
    rw [hqueue, List.drop_left]
    exact ((List.sublist_append_left _ l').trans (List.sublist_append_right _ _))
  next hgoes =>
    have hnot : u.cooldownOver = false := by
      rw [← Bool.not_eq_true, hover]
      exact hgoes
    rw [hafter.cycle, cooldownSecond_of_not_over hnot, State.setCycle_cycle, hucycle, hcount]
    rfl

/-! ### The row (02 R24) -/

theorem exec_secondExpiry_of_second {s : State} (h : s.secondNext = true) :
    exec .secondExpiry s = .next (runTenth [] s).refresh := by
  have hexec : exec .secondExpiry s = done (if s.secondNext then runTenth [] s else s) := rfl
  rw [hexec, h]
  rfl

/-- Settles O20: each clause is said of the block at its turn in the tenth, and of what the other blocks leave. -/
theorem secondExpiryOpensANewSecond : Obligations.SecondExpiryOpensANewSecond := by
  refine ⟨fun s hnext => ?_, fun s x hactive hturning hexhaust => ?_, fun s hactive hbreak => ?_⟩
  · have hsecond : s.secondNext = true := decide_eq_true hnext
    have hexec := exec_secondExpiry_of_second hsecond
    refine ⟨hexec.trans (exec_tenth s).symm, (runTenth [] s).refresh, hexec, (runTenth_currents hsecond).1,
      (runTenth_currents hsecond).2, runTenth_lowest hsecond, runTenth_reportTimer hsecond, runTenth_standsOutsideActive,
      fun hplain hactive => ⟨?_, ?_⟩, fun n hlaw hlate hstate hcount hramp hdecel => ?_⟩
    · exact (runTenth_cycle_of_plain hsecond hplain hactive).trans (countSecond_cycle hactive)
    · exact (runTenth_ring_of_plain hsecond hplain).trans (nextRing_eq hactive)
    · exact runTenth_cooldown hsecond hlaw hlate hstate hcount (beginTenth_belowLimits hramp hdecel)
  · show s.nextRing = _
    rw [nextRing_eq hactive, hexhaust]
    exact if_pos hturning
  · show s.nextRing = _
    rw [nextRing_eq hactive]
    rcases hbreak with hdrum | hnone
    · cases s.exhaust? with
      | none => rfl
      | some x => exact if_neg hdrum
    · rw [hnone]

end Sys2Proof.Machine

/-! # What no operation reads: the milliseconds of the sample path, the level flag and ATTN

The gap timer's and the tenth's milliseconds are read by the millisecond alone, and the level flag and ATTN by nothing, so
every operation commutes with writing them (02 R24, R26; 11 R185, R186). -/

namespace Sys2Proof.Machine

/-! ### The four fields -/

/-- Values of the two millisecond counts, the level flag and ATTN. -/
structure Marks where
  gap    : Nat
  millis : Nat
  level  : Bool
  attn   : Bool

/-- The upstream block with the two flags as given. -/
def Upstream.marked (k : Marks) (u : Upstream) : Upstream := { u with levelFlag := k.level, attn := k.attn }

/-- The state with the four fields as given. -/
def State.marked (k : Marks) (s : State) : State :=
  { s with
    path := { s.path with gapMillis := k.gap, millis := k.millis }
    upstream := s.upstream.marked k }

namespace State

variable (k : Marks) (s : State)

@[simp] theorem marked_moisture : (s.marked k).moisture = s.moisture := rfl
@[simp] theorem marked_drum : (s.marked k).drum = s.drum := rfl
@[simp] theorem marked_walker : (s.marked k).walker = s.walker := rfl
@[simp] theorem marked_cycle : (s.marked k).cycle = s.cycle := rfl
@[simp] theorem marked_faults : (s.marked k).faults = s.faults := rfl
@[simp] theorem marked_aux : (s.marked k).aux = s.aux := rfl

@[simp] theorem marked_param (p : Param) : (s.marked k).param p = s.param p := rfl
@[simp] theorem marked_record (x : Source) : (s.marked k).record x = s.record x := rfl
@[simp] theorem marked_present (x : Source) : (s.marked k).present x = s.present x := rfl
@[simp] theorem marked_silent : (s.marked k).silent = s.silent := rfl
@[simp] theorem marked_usable (i : Nat) : (s.marked k).usable i = s.usable i := rfl
@[simp] theorem marked_highestAction : (s.marked k).highestAction = s.highestAction := rfl
@[simp] theorem marked_walkerTurn : (s.marked k).walkerTurn = s.walkerTurn := rfl
@[simp] theorem marked_selectDemand : (s.marked k).selectDemand = s.selectDemand := rfl
@[simp] theorem marked_segmentDemand : (s.marked k).segmentDemand = s.segmentDemand := rfl
@[simp] theorem marked_holds : (s.marked k).holds = s.holds := rfl
@[simp] theorem marked_atRest : (s.marked k).atRest = s.atRest := rfl
@[simp] theorem marked_cycleResult : (s.marked k).cycleResult = s.cycleResult := rfl
@[simp] theorem marked_nextPhase : (s.marked k).nextPhase? = s.nextPhase? := rfl
@[simp] theorem marked_phaseEndDue : (s.marked k).phaseEndDue = s.phaseEndDue := rfl
@[simp] theorem marked_cooledDown : (s.marked k).cooledDown = s.cooledDown := rfl
@[simp] theorem marked_cooldownSpent : (s.marked k).cooldownSpent = s.cooldownSpent := rfl
@[simp] theorem marked_tangleDue : (s.marked k).tangleDue = s.tangleDue := rfl
@[simp] theorem marked_scoreNext : (s.marked k).scoreNext = s.scoreNext := rfl
@[simp] theorem marked_earlyDue : (s.marked k).earlyDue = s.earlyDue := rfl
@[simp] theorem marked_segmentDue : (s.marked k).segmentDue = s.segmentDue := rfl
@[simp] theorem marked_stallDue : (s.marked k).stallDue = s.stallDue := rfl
@[simp] theorem marked_overrunDue : (s.marked k).overrunDue = s.overrunDue := rfl
@[simp] theorem marked_dwellDue : (s.marked k).dwellDue = s.dwellDue := rfl
@[simp] theorem marked_choice : (s.marked k).choice = s.choice := rfl
@[simp] theorem marked_secondNext : (s.marked k).secondNext = s.secondNext := rfl
@[simp] theorem marked_receiver (p : Port) : (s.marked k).receiver p = s.receiver p := by cases p <;> rfl
@[simp] theorem marked_badCount (p : Port) : (s.marked k).badCount p = s.badCount p := by cases p <;> rfl

@[simp] theorem marked_setMoisture (b : Moisture) : (s.marked k).setMoisture b = (s.setMoisture b).marked k := rfl
@[simp] theorem marked_setDrum (b : Drum) : (s.marked k).setDrum b = (s.setDrum b).marked k := rfl
@[simp] theorem marked_setWalker (b : Walker) : (s.marked k).setWalker b = (s.setWalker b).marked k := rfl
@[simp] theorem marked_setCycle (b : Cycle) : (s.marked k).setCycle b = (s.setCycle b).marked k := rfl
@[simp] theorem marked_setFaults (b : Faults) : (s.marked k).setFaults b = (s.setFaults b).marked k := rfl
@[simp] theorem marked_setAux (b : Aux) : (s.marked k).setAux b = (s.setAux b).marked k := rfl
@[simp] theorem marked_setPresent (x : Source) (b : Bool) : (s.marked k).setPresent x b = (s.setPresent x b).marked k := rfl
@[simp] theorem marked_setRecord (x : Source) (r : FaultRecord) :
    (s.marked k).setRecord x r = (s.setRecord x r).marked k := rfl
@[simp] theorem marked_setBadCount (p : Port) (n : Nat) :
    (s.marked k).setBadCount p n = (s.setBadCount p n).marked k := by cases p <;> rfl
@[simp] theorem marked_toHunt (p : Port) : toHunt p (s.marked k) = (toHunt p s).marked k := by cases p <;> rfl

theorem marked_setUpstream (u : Upstream) : (s.marked k).setUpstream (u.marked k) = (s.setUpstream u).marked k := rfl

@[simp] theorem marked_ite (c : Prop) [Decidable c] (t : State) :
    (if c then s else t).marked k = if c then s.marked k else t.marked k := apply_ite (marked k) c s t

end State

/-! ### Upstream (11 R181 to R183; 01 R9) -/

theorem joinTail_marked (k : Marks) (f : UpFrame) (u : Upstream) : joinTail f (u.marked k) = (joinTail f u).marked k := by
  unfold joinTail
  simp only [apply_ite (Upstream.marked k)]
  rfl

theorem moveEntries_marked (k : Marks) (es : List EventEntry) (u : Upstream) :
    moveEntries es (u.marked k) = (moveEntries es u).marked k := by
  induction es generalizing u with
  | nil => rfl
  | cons e es ih =>
    rw [moveEntries, moveEntries, apply_ite (Upstream.marked k), ← ih, ← joinTail_marked]
    rfl

theorem moveEvents_marked (k : Marks) (s : State) : moveEvents (s.marked k) = (moveEvents s).marked k := by
  unfold moveEvents
  rw [← State.marked_setUpstream, ← moveEntries_marked]
  rfl

theorem startTransmission_marked (k : Marks) (s : State) :
    startTransmission (s.marked k) = (startTransmission s).marked k := by
  obtain hsame | ⟨f, rest, hidle, hready, hqueue, hstart⟩ := startTransmission_cases s
  · obtain hsame' | ⟨f, rest, hidle, hready, hqueue, hstart⟩ := startTransmission_cases (s.marked k)
    · rw [hsame, hsame']
    · rw [hstart, startTransmission_of_cons (s := s) hready hidle hqueue, ← moveEvents_marked]; rfl
  · rw [hstart, startTransmission_of_cons (s := s.marked k) hready hidle hqueue, ← moveEvents_marked]; rfl

theorem joinQueue_marked (k : Marks) (f : UpFrame) (s : State) : joinQueue f (s.marked k) = (joinQueue f s).marked k := by
  unfold joinQueue
  rw [← startTransmission_marked, ← State.marked_setUpstream, ← joinTail_marked]
  rfl

@[simp] theorem raiseEvent_marked (k : Marks) (e : EventKind) (a : Nat) (s : State) :
    raiseEvent e a (s.marked k) = (raiseEvent e a s).marked k := by
  unfold raiseEvent
  rw [← startTransmission_marked, ← moveEvents_marked]
  rfl

/-! ### Heater and walker (04 R56, R64; 06) -/

@[simp] theorem setCommanded_marked (k : Marks) (l : Level) (s : State) :
    setCommanded l (s.marked k) = (setCommanded l s).marked k := rfl

@[simp] theorem forceReduction_marked (k : Marks) (s : State) :
    forceReduction (s.marked k) = (forceReduction s).marked k := by
  unfold forceReduction
  rw [State.marked_ite]
  rfl

@[simp] theorem nameEntry_marked (k : Marks) (i : Nat) (s : State) :
    nameEntry i (s.marked k) = (nameEntry i s).marked k := rfl

theorem stepFrom_marked (k : Marks) (s : State) (base size fuel i : Nat) :
    stepFrom (s.marked k) base size fuel i = stepFrom s base size fuel i := by
  induction fuel generalizing i with
  | zero => rfl
  | succ fuel ih => simp only [stepFrom, State.marked_usable, ih]

@[simp] theorem nextMain_marked (k : Marks) (s : State) : (s.marked k).nextMain = s.nextMain := by
  funext i
  unfold State.nextMain
  rw [State.marked_walker]
  cases s.walker.main with
  | none => rfl
  | some w => exact stepFrom_marked k s w.base w.size w.size i

@[simp] theorem firstEntry_marked (k : Marks) (s : State) (r : PhaseRecord) :
    (s.marked k).firstEntry r = s.firstEntry r := by
  simp only [State.firstEntry, State.marked_usable, stepFrom_marked]

@[simp] theorem loseDrum_marked (k : Marks) (s : State) : loseDrum (s.marked k) = (loseDrum s).marked k := by
  simp [loseDrum]

@[simp] theorem regainDrum_marked (k : Marks) (s : State) : regainDrum (s.marked k) = (regainDrum s).marked k := by
  unfold regainDrum
  rw [State.marked_walker]
  cases s.walker.index <;> rfl

theorem passFind_marked (k : Marks) (s : State) (base n i : Nat) :
    passFind (s.marked k) base n i = passFind s base n i := by
  induction n generalizing i with
  | zero => rfl
  | succ n ih => simp only [passFind, State.marked_usable, ih]

@[simp] theorem endPass_marked (k : Marks) (s : State) : endPass (s.marked k) = (endPass s).marked k := by
  unfold endPass
  rw [State.marked_walker]
  cases s.walker.ret <;> rfl

@[simp] theorem passAt_marked (k : Marks) (base n i : Nat) (s : State) :
    passAt base n i (s.marked k) = (passAt base n i s).marked k := by
  unfold passAt
  rw [passFind_marked]
  cases passFind s base n i with
  | none => exact endPass_marked k s
  | some x => rfl

@[simp] theorem beginPass_marked (k : Marks) (u base ret : Nat) (s : State) :
    beginPass u base ret (s.marked k) = (beginPass u base ret s).marked k := by simp [beginPass]

@[simp] theorem advanceWalker_marked (k : Marks) (s : State) :
    advanceWalker (s.marked k) = (advanceWalker s).marked k := by
  unfold advanceWalker
  rw [State.marked_walker]
  cases s.walker.index with
  | none => rfl
  | some i => cases hbase : s.walker.untangle <;> simp

@[simp] theorem endTangled_marked (k : Marks) (s : State) : endTangled (s.marked k) = (endTangled s).marked k := by
  unfold endTangled
  rw [State.marked_walker, State.marked_cycle]
  cases s.walker.index with
  | none => rfl
  | some i => cases s.walker.untangle <;> cases s.cycle.record.untangle <;> simp

@[simp] theorem walkerPhaseBegin_marked (k : Marks) (r : PhaseRecord) (s : State) :
    walkerPhaseBegin r (s.marked k) = (walkerPhaseBegin r s).marked k := by simp [walkerPhaseBegin]

/-! ### Drum (05 R76 to R84) -/

@[simp] theorem enterRamp_marked (k : Marks) (d : Direction) (v start : Nat) (s : State) :
    enterRamp d v start (s.marked k) = (enterRamp d v start s).marked k := by simp [enterRamp]

@[simp] theorem enterDecel_marked (k : Marks) (s : State) : enterDecel (s.marked k) = (enterDecel s).marked k := by
  simp [enterDecel]

@[simp] theorem enterDwell_marked (k : Marks) (s : State) : enterDwell (s.marked k) = (enterDwell s).marked k := by
  simp [enterDwell]

@[simp] theorem enterStopped_marked (k : Marks) (s : State) : enterStopped (s.marked k) = (enterStopped s).marked k := by
  simp [enterStopped]

@[simp] theorem leaveRamp_marked (k : Marks) (s : State) : leaveRamp (s.marked k) = (leaveRamp s).marked k := by
  simp [leaveRamp]

@[simp] theorem actOn_marked (k : Marks) (w : Demand) (s : State) : actOn w (s.marked k) = (actOn w s).marked k := by
  unfold actOn
  rw [State.marked_drum]
  cases s.drum.state with
  | stopped => cases w <;> simp
  | ramp =>
    cases w.run? with
    | none => exact leaveRamp_marked k s
    | some x => simp
  | turning =>
    cases w.run? with
    | none => exact enterDecel_marked k s
    | some x => simp
  | decel => rfl
  | dwell => cases w <;> rfl

@[simp] theorem handWalker_marked (k : Marks) (s : State) : handWalker (s.marked k) = (handWalker s).marked k := by
  simp [handWalker]

@[simp] theorem meetWinner_marked (k : Marks) (w : Demand) (s : State) :
    meetWinner w (s.marked k) = (meetWinner w s).marked k := by simp [meetWinner]

@[simp] theorem reselect_marked (k : Marks) (n : Bool) (s : State) :
    reselect n (s.marked k) = (reselect n s).marked k := by simp [reselect]

@[simp] theorem endDwell_marked (k : Marks) (s : State) : endDwell (s.marked k) = (endDwell s).marked k := by
  unfold endDwell
  rw [State.marked_drum]
  cases s.drum.winner with
  | stop => exact enterStopped_marked k s
  | override v => exact enterRamp_marked k _ v 0 s
  | walkerRun d v => exact enterRamp_marked k d v 0 s
  | walkerPause n =>
    simp only [advanceWalker_marked, State.marked_segmentDemand, State.marked_drum, State.marked_setDrum]
    cases (advanceWalker s).segmentDemand <;> simp

/-! ### Cycle and faults (08 R148; 09 R158, R159) -/

@[simp] theorem cycleTo_marked (k : Marks) (c : CycleState) (s : State) :
    cycleTo c (s.marked k) = (cycleTo c s).marked k := by simp [cycleTo]

@[simp] theorem enterHalted_marked (k : Marks) (s : State) : enterHalted (s.marked k) = (enterHalted s).marked k := by
  simp [enterHalted]

@[simp] theorem workOutAction_marked (k : Marks) (s : State) :
    workOutAction (s.marked k) = (workOutAction s).marked k := by simp [workOutAction]

@[simp] theorem emptyRingFor_marked (k : Marks) (x : Source) (s : State) :
    emptyRingFor x (s.marked k) = (emptyRingFor x s).marked k := by simp [emptyRingFor]

@[simp] theorem arise_marked (k : Marks) (x : Source) (s : State) : arise x (s.marked k) = (arise x s).marked k := by
  simp [arise]

@[simp] theorem beginPhase_marked (k : Marks) (p : Nat) (r : PhaseRecord) (s : State) :
    beginPhase p r (s.marked k) = (beginPhase p r s).marked k := by simp [beginPhase]

@[simp] theorem completeCycle_marked (k : Marks) (s : State) :
    completeCycle (s.marked k) = (completeCycle s).marked k := by simp [completeCycle]

@[simp] theorem endPhase_marked (k : Marks) (e : EndReason) (s : State) :
    endPhase e (s.marked k) = (endPhase e s).marked k := by
  unfold endPhase
  simp only [State.marked_cycle, State.marked_setCycle, raiseEvent_marked, State.marked_nextPhase]
  cases (raiseEvent .phaseEnd e.code (s.setCycle (markEnd e s.cycle))).nextPhase? with
  | none => exact completeCycle_marked k _
  | some x => exact beginPhase_marked k x.1 x.2 _

@[simp] theorem endCooldown_marked (k : Marks) (s : State) : endCooldown (s.marked k) = (endCooldown s).marked k := by
  simp [endCooldown]

@[simp] theorem countSecond_marked (k : Marks) (s : State) : countSecond (s.marked k) = (countSecond s).marked k := rfl

@[simp] theorem activeSecond_marked (k : Marks) (s : State) : activeSecond (s.marked k) = (activeSecond s).marked k := by
  unfold activeSecond
  rw [State.marked_phaseEndDue]
  cases s.phaseEndDue with
  | none => rfl
  | some e => exact endPhase_marked k e (countSecond s)

@[simp] theorem cooldownSecond_marked (k : Marks) (s : State) :
    cooldownSecond (s.marked k) = (cooldownSecond s).marked k := by simp [cooldownSecond]

@[simp] theorem cycleTenth_marked (k : Marks) (second : Bool) (s : State) :
    cycleTenth second (s.marked k) = (cycleTenth second s).marked k := by
  unfold cycleTenth
  rw [State.marked_cycle]
  cases s.cycle.state with
  | suspended => rfl
  | active => simp
  | cooldown => simp
  | idle => rfl
  | halted => rfl

/-! ### The other blocks at a tenth (02 R24) -/

@[simp] theorem keepaliveTenth_marked (k : Marks) (s : State) :
    keepaliveTenth (s.marked k) = (keepaliveTenth s).marked k := by
  unfold keepaliveTenth
  rw [State.marked_ite, State.marked_ite, ← arise_marked]
  rfl

@[simp] theorem drumTenth_marked (k : Marks) (s : State) : drumTenth (s.marked k) = (drumTenth s).marked k := by
  simp [drumTenth]

@[simp] theorem moistureSecond_marked (k : Marks) (s : State) :
    moistureSecond (s.marked k) = (moistureSecond s).marked k := rfl

@[simp] theorem notePersist_marked (k : Marks) (s : State) : notePersist (s.marked k) = (notePersist s).marked k := by
  simp [notePersist]

@[simp] theorem detectTangle_marked (k : Marks) (s : State) : detectTangle (s.marked k) = (detectTangle s).marked k := by
  simp [detectTangle]

@[simp] theorem judgeSecond_marked (k : Marks) (s : State) : judgeSecond (s.marked k) = (judgeSecond s).marked k := by
  unfold judgeSecond
  rw [State.marked_tangleDue]
  cases s.tangleDue <;> simp

@[simp] theorem countTurning_marked (k : Marks) (s : State) : countTurning (s.marked k) = (countTurning s).marked k := by
  unfold countTurning
  rw [State.marked_ite]
  rfl

@[simp] theorem walkerTenth_marked (k : Marks) (second : Bool) (s : State) :
    walkerTenth second (s.marked k) = (walkerTenth second s).marked k := by
  have hcount : ∀ t, walkerCount (t.marked k) = (walkerCount t).marked k := fun t => by simp [walkerCount]
  unfold walkerTenth
  rw [← hcount, State.marked_ite, judgeSecond_marked]

theorem sendReport_marked (k : Marks) (s : State) : sendReport (s.marked k) = (sendReport s).marked k := by
  unfold sendReport
  rw [← joinQueue_marked]
  rfl

@[simp] theorem reportSecond_marked (k : Marks) (s : State) : reportSecond (s.marked k) = (reportSecond s).marked k := by
  unfold reportSecond
  simp only [State.marked_ite, ← sendReport_marked]
  rfl

@[simp] theorem tenthBlock_marked (k : Marks) (second : Bool) (b : TenthBlock) (s : State) :
    tenthBlock second b (s.marked k) = (tenthBlock second b s).marked k := by
  cases b <;> simp [tenthBlock]

@[simp] theorem tenthBlocks_marked (k : Marks) (second : Bool) (order : List TenthBlock) (s : State) :
    tenthBlocks second order (s.marked k) = (tenthBlocks second order s).marked k := by
  induction order generalizing s with
  | nil => rfl
  | cons b bs ih => rw [tenthBlocks_cons, tenthBlocks_cons, tenthBlock_marked, ih]

theorem countTenth_marked (k : Marks) (s : State) : countTenth (s.marked k) = (countTenth s).marked k := by
  unfold countTenth
  rw [State.marked_drum]
  cases s.drum.state with
  | decel =>
    dsimp only
    rw [State.marked_ite]
    rfl
  | dwell => rfl
  | ramp => rfl
  | turning => rfl
  | stopped => rfl

/-- A tenth starts the count of its milliseconds anew, and reads none of the four fields. -/
theorem runTenth_marked (k : Marks) (first : List TenthBlock) (s : State) :
    runTenth first (s.marked k) = (runTenth first s).marked { k with millis := 0 } := by
  have hbegin : beginTenth (s.marked k).dropChoice = (beginTenth s.dropChoice).marked { k with millis := 0 } :=
    countTenth_marked { k with millis := 0 } (tickTenth s.dropChoice)
  unfold runTenth
  rw [hbegin, tenthBlocks_marked, State.marked_secondNext, State.marked_choice]

/-! ### A gap expiry and a bad frame (02 R27; 01 R4, R7) -/

theorem raiseSilence_marked (k : Marks) (s : State) : raiseSilence (s.marked k) = (raiseSilence s).marked k := by
  simp [raiseSilence]

/-- A gap expiry starts the gap timer anew, and reads none of the four fields. -/
theorem gapExpiry_marked (k : Marks) (s : State) : gapExpiry (s.marked k) = (gapExpiry s).marked { k with gap := 0 } := by
  unfold gapExpiry
  rw [raiseSilence_marked]
  rfl

theorem badFrame_marked (k : Marks) (p : Port) (s : State) : badFrame p (s.marked k) = (badFrame p s).marked k := by
  simp [badFrame]

theorem gapBetweenBytes_marked (k : Marks) (p : Port) (s : State) :
    gapBetweenBytes p (s.marked k) = (gapBetweenBytes p s).marked k := by
  unfold gapBetweenBytes
  rw [State.marked_receiver, State.marked_ite, badFrame_marked]

end Sys2Proof.Machine

/-! # One millisecond with no command waiting (02 R24, R26, R27; 01 R4; 05 R78, R83; log entries 4 and 5) -/

namespace Sys2Proof.Machine

/-! ### What a tenth's blocks note beyond the acts -/

/-- Only what a block notes for itself at a tenth has moved: the keepalive window, the ring and the lowest level, the
second's extremes and the drum's two marks, the upstream block and the free values. -/
def MovesNotes (s t : State) : Prop :=
  t = { s with
        links := { s.links with keepalive := t.links.keepalive, controllerTx := t.links.controllerTx }
        moisture := { s.moisture with ring := t.moisture.ring, lowest := t.moisture.lowest }
        drum :=
          { s.drum with
            currentMin := t.drum.currentMin, currentMax := t.drum.currentMax, stallMark := t.drum.stallMark,
            overrunMark := t.drum.overrunMark }
        upstream := t.upstream
        aux := { s.aux with freeCount := t.aux.freeCount } }

theorem MovesNotes.trans {s t u : State} (h : MovesNotes s t) (k : MovesNotes t u) : MovesNotes s u := by
  unfold MovesNotes at *; rw [k, h]

theorem reportSecond_notes (s : State) : MovesNotes s (reportSecond s) := by
  have hset : ∀ u a, MovesNotes s ((s.setUpstream u).setAux { s.aux with freeCount := a }) := fun _ _ => rfl
  have hjoin : ∀ f t, MovesNotes t (joinQueue f t) := fun f t => by
    unfold MovesNotes
    rw [joinQueue_moves f t]
  unfold reportSecond
  split
  · exact rfl
  · split
    · exact rfl
    · exact (hset _ _).trans (hjoin _ _)

/-- What every act, every note, and the end of a DWELL span keep, a block's work at a tenth keeps. -/
theorem tenthBlock_lift {R : State → State → Prop} (hrefl : ∀ s, R s s) (htrans : ∀ {s t u}, R s t → R t u → R s u)
    (hact : ∀ {s t}, Act s t → R s t) (hnote : ∀ {s t}, MovesNotes s t → R s t)
    (hdwell : ∀ {s}, s.dwellDue = true → R s (endDwell s)) (second : Bool) (b : TenthBlock) (s : State) :
    R s (tenthBlock second b s) := by
  have harise : ∀ x t, R t (arise x t) := fun x t => (arise_acts x t).lift hrefl htrans hact
  have hwindow : ∀ k, R s (s.setKeepalive k) := fun _ => hnote rfl
  have hif : ∀ t, R s t → R s (if second then t else s) := fun t ht => by
    split
    · exact ht
    · exact hrefl s
  cases b with
  | keepalive =>
    unfold tenthBlock keepaliveTenth
    dsimp only
    split
    · exact htrans (hwindow _) (harise _ _)
    · split
      · exact hwindow _
      · exact hrefl s
  | drum =>
    unfold tenthBlock drumTenth
    dsimp only
    split
    · exact htrans (hnote (t := s.setDrum { s.drum with stallMark := true }) rfl) (harise _ _)
    · split
      · exact htrans (hnote (t := s.setDrum { s.drum with overrunMark := true }) rfl) (harise _ _)
      · split
        next hdue => exact hdwell hdue
        next => exact hrefl s
  | moisture => exact hif _ (hnote rfl)
  | walker => exact walkerTenth_lift hrefl htrans hact (fun _ => hnote rfl) second s
  | cycle => exact (cycleTenth_acts second s).lift hrefl htrans hact
  | report => exact hif _ (hnote (reportSecond_notes s))

/-! ### A drum at rest, or in a DWELL that has just begun (05 R78, R83) -/

/-- The drum is in a DWELL whose span has just begun. -/
def State.dwells (s : State) : Prop := s.drum.state = .dwell ∧ s.drum.dwell = some 0

/-- The drum is in RAMP at rest, under a RUN. -/
def State.restsToRun (s : State) : Prop := s.drum.state = .ramp ∧ s.atRest = true ∧ s.drum.winner.run? ≠ none

/-- No reaction of the drum waits, and a STOP would put it in DWELL, or it is there. -/
def State.poised (s : State) : Prop := s.aux.drumDeferred = false ∧ (s.restsToRun ∨ s.dwells)

theorem atRest_of_same {s t : State} (hpath : t.path = s.path) (htables : t.tables = s.tables)
    (hsetpoint : t.drum.setpoint = s.drum.setpoint) : t.atRest = s.atRest := by
  have hspeed : t.speed = s.speed := by rw [State.speed, State.tacho, hpath]; rfl
  have hparam : t.param .stopSpeed = s.param .stopSpeed := by rw [State.param, htables]; rfl
  rw [State.atRest, hsetpoint, hspeed, hparam]
  rfl

theorem dwells_of_drum {s t : State} (hstate : t.drum.state = s.drum.state) (hcount : t.drum.dwell = s.drum.dwell)
    (h : s.dwells) : t.dwells := ⟨hstate.trans h.1, hcount.trans h.2⟩

theorem enterDwell_dwells (s : State) : (enterDwell s).dwells := by simp [enterDwell, State.dwells]

theorem actOn_dwells (w : Demand) {s : State} (h : s.dwells) : (actOn w s).dwells := by
  obtain ⟨hstate, hcount⟩ := h
  unfold actOn
  rw [hstate]
  cases w with
  | walkerPause k => exact ⟨hstate, rfl⟩
  | _ => exact ⟨hstate, hcount⟩

/-- A drum at rest in RAMP goes on under a RUN in its direction, and else enters DWELL (05 R78). -/
theorem actOn_of_rest (w : Demand) {s : State} (hstate : s.drum.state = .ramp) (hrest : s.atRest = true) :
    (actOn w s).dwells ∨
    (w.run? ≠ none ∧ (actOn w s).drum.state = .ramp ∧ (actOn w s).atRest = true ∧
      (actOn w s).drum.winner = s.drum.winner) := by
  have hleave : leaveRamp s = enterDwell s := if_pos hrest
  unfold actOn
  rw [hstate]
  dsimp only
  split
  next d v hrun =>
    split
    · exact .inr ⟨by simp [hrun], hstate, hrest, rfl⟩
    · rw [hleave]
      exact .inl (enterDwell_dwells s)
  next =>
    rw [hleave]
    exact .inl (enterDwell_dwells s)

/-- The winner as a selection names it, before the drum meets it. -/
def State.named (s : State) : State :=
  (handWalker s).setDrum { (handWalker s).drum with winner := (handWalker s).selectDemand }

theorem reselect_eq (n : Bool) (s : State) :
    reselect n s =
      if s.named.drum.winner ≠ s.drum.winner ∨ (s.named.drum.winner.fromWalker ∧ (n ∨ !s.holds)) then
        meetWinner s.named.drum.winner s.named
      else s.named := rfl

theorem named_drum (s : State) : s.named.drum = { s.drum with winner := s.named.drum.winner } := by
  have hdrum : (handWalker s).drum = s.drum := by rw [handWalker_moves s]
  unfold State.named
  rw [State.setDrum_drum, hdrum]

theorem named_drumDeferred (s : State) : s.named.aux.drumDeferred = s.aux.drumDeferred := by
  show (handWalker s).aux.drumDeferred = s.aux.drumDeferred
  rw [handWalker_moves s]

theorem named_atRest (s : State) : s.named.atRest = s.atRest := by
  have hpath : s.named.path = s.path := by
    show (handWalker s).path = s.path
    rw [handWalker_moves s]
  have htables : s.named.tables = s.tables := by
    show (handWalker s).tables = s.tables
    rw [handWalker_moves s]
  exact atRest_of_same hpath htables (by rw [named_drum s])

theorem reselect_dwells (n : Bool) {s : State} (h : s.dwells) : (reselect n s).dwells := by
  have hnamed : s.named.dwells := by
    refine dwells_of_drum ?_ ?_ h <;> rw [named_drum s]
  rw [reselect_eq]
  split
  · unfold meetWinner
    split
    · exact hnamed
    · exact actOn_dwells _ hnamed
  · exact hnamed

theorem meetWinner_of_ready {s : State} (h : s.aux.drumDeferred = false) (w : Demand) : meetWinner w s = actOn w s :=
  if_neg (by rw [h]; exact Bool.false_ne_true)

theorem reselect_poised (n : Bool) {s : State} (h : s.poised) : (reselect n s).poised := by
  obtain ⟨hready, hdrum⟩ := h
  have hkept : (reselect n s).aux.drumDeferred = s.aux.drumDeferred := by rw [reselect_moves n s]
  refine ⟨hkept.trans hready, ?_⟩
  rcases hdrum with ⟨hstate, hrest, hrun⟩ | hdwells
  · have hnamedState : s.named.drum.state = .ramp := by rw [named_drum s]; exact hstate
    have hnamedRest : s.named.atRest = true := (named_atRest s).trans hrest
    rw [reselect_eq]
    split
    · rw [meetWinner_of_ready ((named_drumDeferred s).trans hready)]
      rcases actOn_of_rest s.named.drum.winner hnamedState hnamedRest with hdwell | ⟨hrun', hstate', hrest', hwinner⟩
      · exact .inr hdwell
      · exact .inl ⟨hstate', hrest', by rwa [hwinner]⟩
    next hsame =>
      have hwinner : s.named.drum.winner = s.drum.winner := Decidable.not_not.mp fun hne => hsame (.inl hne)
      exact .inl ⟨hnamedState, hnamedRest, by rwa [hwinner]⟩
  · exact .inr (reselect_dwells n hdwells)

/-- Under FIELD_SILENT the winner is STOP (05 R76). -/
theorem named_winner_of_silent {s : State} (h : s.silent = true) : s.named.drum.winner = .stop := by
  have hsilent : (handWalker s).silent = true := by
    rw [State.silent, State.present, handWalker_moves s]
    exact h
  show (handWalker s).selectDemand = .stop
  simp [State.selectDemand, State.stopDemand, hsilent]

/-- A selection under FIELD_SILENT puts a poised drum in DWELL (05 R78). -/
theorem reselect_dwells_of_silent (n : Bool) {s : State} (h : s.poised) (hsilent : s.silent = true) :
    (reselect n s).dwells := by
  obtain ⟨hready, hdrum⟩ := h
  rcases hdrum with ⟨hstate, hrest, hrun⟩ | hdwells
  · have hstop := named_winner_of_silent hsilent
    have hchange : s.named.drum.winner ≠ s.drum.winner := fun heq => by
      rw [hstop] at heq
      exact hrun (by rw [← heq]; rfl)
    rw [reselect_eq, if_pos (.inl hchange), meetWinner_of_ready ((named_drumDeferred s).trans hready)]
    rcases actOn_of_rest s.named.drum.winner (s := s.named) (by rw [named_drum s]; exact hstate)
      ((named_atRest s).trans hrest) with hdwell | ⟨hrun', -⟩
    · exact hdwell
    · rw [hstop] at hrun'
      exact absurd rfl hrun'
  · exact reselect_dwells n hdwells

theorem Act.dwells {s t : State} (h : Act s t) (hs : s.dwells) : t.dwells := by
  cases h with
  | force => exact dwells_of_drum (by simp) (by simp) hs
  | reselect n => exact reselect_dwells n hs
  | walk hwalk => exact dwells_of_drum (by rw [hwalk]) (by rw [hwalk]) hs
  | tell k a => exact dwells_of_drum (by simp) (by simp) hs
  | cycle c => exact hs
  | fault f => exact hs
  | estimate m hm => exact hs

/-- What leaves the drum, the readings and the parameters leaves a drum poised. -/
theorem poised_of_same {s t : State} (hpath : t.path = s.path) (htables : t.tables = s.tables)
    (hdrum : t.drum.state = s.drum.state ∧ t.drum.setpoint = s.drum.setpoint ∧ t.drum.winner = s.drum.winner ∧
      t.drum.dwell = s.drum.dwell)
    (hready : t.aux.drumDeferred = s.aux.drumDeferred) (h : s.poised) : t.poised := by
  obtain ⟨hstate, hsetpoint, hwinner, hcount⟩ := hdrum
  have hrest : t.atRest = s.atRest := atRest_of_same hpath htables hsetpoint
  obtain ⟨hs, hrests | hdwells⟩ := h
  · obtain ⟨kstate, krest, krun⟩ := hrests
    exact ⟨hready.trans hs, .inl ⟨hstate.trans kstate, hrest.trans krest, by rwa [hwinner]⟩⟩
  · exact ⟨hready.trans hs, .inr (dwells_of_drum hstate hcount hdwells)⟩

theorem Act.poised {s t : State} (h : Act s t) (hs : s.poised) : t.poised := by
  cases h with
  | force => exact poised_of_same (by simp) (by simp) (by simp) (by simp) hs
  | reselect n => exact reselect_poised n hs
  | walk hwalk =>
    exact poised_of_same (by rw [hwalk]) (by rw [hwalk])
      ⟨by rw [hwalk], by rw [hwalk], by rw [hwalk], by rw [hwalk]⟩ (by rw [hwalk]) hs
  | tell k a => exact poised_of_same (by simp) (by simp) (by simp) (by simp) hs
  | cycle c => exact hs
  | fault f => exact hs
  | estimate m hm => exact hs

/-! ### Through a tenth and a silence -/

/-- A DWELL that has just begun does not end while DWELL_TIME is above 0 (05 R83). -/
theorem dwellDue_of_dwells {s : State} (hspan : 0 < s.param .dwellTime) (h : s.dwells) : s.dwellDue = false := by
  have hlong : s.param .dwellTime ≤ s.dwellSpan := by
    unfold State.dwellSpan
    split
    · exact le_max_left _ _
    all_goals exact le_rfl
  simp only [State.dwellDue, h.2, Option.getD_some, Bool.and_eq_false_iff, decide_eq_false_iff_not]
  exact .inr (by omega)

/-- While DWELL_TIME is above 0 a property of the drum holds on, and DWELL_TIME stands. -/
def HoldsOn (P : State → Prop) (s t : State) : Prop :=
  t.param .dwellTime = s.param .dwellTime ∧ (0 < s.param .dwellTime → P s → P t)

/-- What every act and every note keep, and what rules out the end of a DWELL span, holds on through the blocks' tenth. -/
theorem tenthBlocks_holdsOn {P : State → Prop} (hact : ∀ {s t}, Act s t → P s → P t)
    (hnote : ∀ {s t}, MovesNotes s t → P s → P t)
    (hdwell : ∀ {s}, 0 < s.param .dwellTime → P s → s.dwellDue = false) (second : Bool) (order : List TenthBlock)
    (s : State) : HoldsOn P s (tenthBlocks second order s) := by
  have hrefl : ∀ s, HoldsOn P s s := fun _ => ⟨rfl, fun _ h => h⟩
  have htrans : ∀ {s t u}, HoldsOn P s t → HoldsOn P t u → HoldsOn P s u := fun h k =>
    ⟨k.1.trans h.1, fun hspan hs => k.2 (by rwa [h.1]) (h.2 hspan hs)⟩
  refine tenthBlocks_lift hrefl htrans (fun b _ t => ?_) s
  refine tenthBlock_lift hrefl htrans (fun h => ⟨h.frame.param _, fun _ => hact h⟩)
    (fun h => ⟨?_, fun _ => hnote h⟩) (fun {t} hdue => ⟨?_, fun hspan ht => ?_⟩) second b t
  · rw [State.param, h]; rfl
  · rw [State.param, endDwell_moves t]; rfl
  · rw [hdwell hspan ht] at hdue
    exact absurd hdue Bool.false_ne_true

theorem dwellDue_of_poised {s : State} (hspan : 0 < s.param .dwellTime) (h : s.poised) : s.dwellDue = false := by
  obtain ⟨-, ⟨hstate, -⟩ | hdwells⟩ := h
  · simp [State.dwellDue, hstate]
  · exact dwellDue_of_dwells hspan hdwells

theorem runUncountedTenth_dwells {s : State} (hspan : 0 < s.param .dwellTime) (h : s.dwells) :
    (runUncountedTenth s).dwells :=
  (tenthBlocks_holdsOn (P := State.dwells) Act.dwells
    (fun hnote hs => dwells_of_drum (by rw [hnote]) (by rw [hnote]) hs) dwellDue_of_dwells _ _ (tickTenth s.dropChoice)).2
    hspan h

theorem runTenth_poised {s : State} (hspan : 0 < s.param .dwellTime) (hready : s.aux.drumDeferred = false)
    (h : s.restsToRun) : (runTenth [] s).poised := by
  have hbegin : (beginTenth s.dropChoice).poised := by
    obtain ⟨hstate, hrest, hrun⟩ := h
    have hramp : countTenth (tickTenth s.dropChoice) = (tickTenth s.dropChoice).setDrum
        { s.drum with spinup := s.drum.spinup.map (· + 1) } := by
      unfold countTenth
      rw [show (tickTenth s.dropChoice).drum.state = .ramp from hstate]
      rfl
    rw [beginTenth, hramp]
    exact ⟨hready, .inl ⟨hstate, hrest, hrun⟩⟩
  refine (tenthBlocks_holdsOn (P := State.poised) Act.poised (fun hnote hs => ?_) dwellDue_of_poised _ _ _).2 ?_ hbegin
  · exact poised_of_same (by rw [hnote]) (by rw [hnote]) ⟨by rw [hnote], by rw [hnote], by rw [hnote], by rw [hnote]⟩
      (by rw [hnote]) hs
  · rw [beginTenth_param]
    exact hspan

/-- A new silence finds a poised drum, and leaves it in DWELL (02 R27; 05 R78, R91). -/
theorem gapExpiry_dwells {s : State} (h : s.poised) (hsilent : s.silent = false) : (gapExpiry s).dwells := by
  have harise : (arise .fieldSilent s).poised :=
    (arise_acts .fieldSilent s).lift (R := fun s t => s.poised → t.poised) (fun _ => id) (fun h k hs => k (h hs))
      Act.poised h
  have hpresent : (arise .fieldSilent s).silent = true :=
    (arise_present .fieldSilent .fieldSilent s).trans (by simp)
  have hdwells := reselect_dwells_of_silent false harise hpresent
  have hraise : raiseSilence s = reselect false (arise .fieldSilent s) := by
    unfold raiseSilence
    rw [hsilent, if_neg Bool.false_ne_true]
    dsimp only
    rw [if_neg (by rw [hdwells.1]; decide)]
  show (raiseSilence s).dwells
  rwa [hraise]

/-! ### What a tenth and a gap expiry leave of the sample path and the silence -/

theorem gapExpiry_path (s : State) :
    (gapExpiry s).path = { s.path with gapMillis := 0, gapSpan := 10 * s.param .gapSamples } := by
  have hmoves := raiseSilence_moves s
  show { (raiseSilence s).path with gapMillis := 0, gapSpan := 10 * (raiseSilence s).param .gapSamples } = _
  rw [hmoves.path, hmoves.param]

theorem gapExpiry_param (s : State) (p : Param) : (gapExpiry s).param p = s.param p := (raiseSilence_moves s).param p

theorem runTenth_path (s : State) : (runTenth [] s).path = s.pathAfterTenth := by
  rw [runTenth, tenthBlocks_moves]
  exact beginTenth_path s.dropChoice

theorem runUncountedTenth_path (s : State) : (runUncountedTenth s).path = s.pathAfterTenth := by
  rw [runUncountedTenth, tenthBlocks_moves]
  rfl

theorem runTenth_param (s : State) (p : Param) : (runTenth [] s).param p = s.param p :=
  (tenthBlocks_param _ _ _ p).trans (beginTenth_param s.dropChoice p)

/-- A tenth hands over KEEPALIVE, MOTOR_STALL and DRUM_OVERRUN alone, so a silence stands. -/
theorem tenthBlock_silent (second : Bool) (b : TenthBlock) (s : State) :
    (tenthBlock second b s).silent = s.silent := by
  have harise : ∀ x t, x ≠ .fieldSilent → (arise x t).silent = t.silent := fun x t hx => by
    rw [State.silent, arise_present, decide_eq_false hx, Bool.or_false]
    rfl
  by_cases hk : b = .keepalive
  · subst hk
    unfold tenthBlock keepaliveTenth
    dsimp only
    split
    · exact harise _ _ (by decide)
    · split <;> rfl
  · by_cases hd : b = .drum
    · subst hd
      unfold tenthBlock drumTenth
      dsimp only
      split
      · exact harise _ _ (by decide)
      · split
        · exact harise _ _ (by decide)
        · split
          · exact (endDwell_moves s).phase.present _
          · rfl
    · exact (tenthBlock_movesPhase hk hd second s).present _

theorem tenthBlocks_silent (second : Bool) (order : List TenthBlock) (s : State) :
    (tenthBlocks second order s).silent = s.silent :=
  tenthBlocks_lift (R := fun s t => t.silent = s.silent) (fun _ => rfl) (fun h k => k.trans h)
    (fun b _ t => tenthBlock_silent second b t) s

theorem runTenth_silent (s : State) : (runTenth [] s).silent = s.silent :=
  (tenthBlocks_silent _ _ _).trans (beginTenth_silent s.dropChoice)

theorem runUncountedTenth_silent (s : State) : (runUncountedTenth s).silent = s.silent := tenthBlocks_silent _ _ _

end Sys2Proof.Machine

/-! # A step with no command waiting (02 R24, R26, R27; 01 R4; log entry 4) -/

namespace Sys2Proof.Machine

/-! ### The two counts of a millisecond -/

/-- A millisecond that completes no tenth. -/
def State.tick (s : State) : State := s.setPath { s.path with millis := s.path.millis + 1 }

/-- A millisecond that completes no gap span. -/
def State.gapTick (s : State) : State := s.setPath { s.path with gapMillis := s.path.gapMillis + 1 }

theorem gapMillisecond_of_short {s : State} (h : s.path.gapMillis + 1 < s.path.gapSpan) : gapMillisecond s = s.gapTick :=
  if_neg (Nat.not_le.mpr h)

theorem gapMillisecond_of_due {s : State} (h : s.path.gapSpan ≤ s.path.gapMillis + 1) : gapMillisecond s = gapExpiry s :=
  if_pos h

theorem tenthMillisecond_of_short {b s : State} (h : s.path.millis + 1 < 100) : tenthMillisecond b s = s.tick :=
  if_neg (Nat.not_le.mpr h)

theorem tenthMillisecond_of_due {b s : State} (h : 100 ≤ s.path.millis + 1) (hdwell : dwellBegan b s = false) :
    tenthMillisecond b s = runTenth [] s := by
  rw [tenthMillisecond, if_pos h, hdwell]
  rfl

theorem tenthMillisecond_of_began {b s : State} (h : 100 ≤ s.path.millis + 1) (hdwell : dwellBegan b s = true) :
    tenthMillisecond b s = runUncountedTenth s := by
  rw [tenthMillisecond, if_pos h, hdwell]
  rfl

theorem dwellBegan_of_same {s t : State} (h : t.drum = s.drum) : dwellBegan s t = false := by
  unfold dwellBegan
  rw [h]
  by_cases hstate : s.drum.state = .dwell <;> simp [hstate]

theorem gapMillisecond_millis (s : State) : (gapMillisecond s).path.millis = s.path.millis := by
  unfold gapMillisecond
  split
  · rw [gapExpiry_path]
  · rfl

theorem step_of_idle {s : State} (h : s.pending = []) : step s = .next (millisecond s).refresh := by
  unfold step
  rw [h]
  rfl

/-! ### The inter-byte gaps (01 R4) -/

theorem gapBetweenBytes_of_hunt {p : Port} {s : State} (h : (s.receiver p).state = .hunt) : gapBetweenBytes p s = s :=
  if_pos h

theorem gapBetweenBytes_receiver (p q : Port) (s : State) :
    ((gapBetweenBytes p s).receiver q).state = if p = q then .hunt else (s.receiver q).state := by
  unfold gapBetweenBytes
  split
  next h =>
    by_cases hpq : p = q
    · rw [if_pos hpq, ← hpq, h]
    · rw [if_neg hpq]
  next =>
    rw [(badFrame_moves p s).receiver, State.portAfter_receiver]
    split <;> rfl

theorem gapBetweenBytes_path (p : Port) (s : State) : (gapBetweenBytes p s).path = s.path := by
  unfold gapBetweenBytes
  split
  · rfl
  · rw [(badFrame_moves p s).path, State.portAfter_path]

theorem portAfter_pending (s : State) (p : Port) (n : Nat) : (s.portAfter p n).pending = s.pending := by
  cases p <;> rfl

theorem gapBetweenBytes_pending (p : Port) (s : State) : (gapBetweenBytes p s).pending = s.pending := by
  unfold gapBetweenBytes
  split
  · rfl
  · rw [badFrame_moves p s]
    exact portAfter_pending s p _

theorem millisecond_of_hunt {s : State} (hfield : s.links.fieldRx.state = .hunt)
    (hcontroller : s.links.controllerRx.state = .hunt) :
    millisecond s =
      if s.choice.gapFirst then tenthMillisecond s (gapMillisecond s) else gapMillisecond (tenthMillisecond s s) := by
  unfold millisecond
  rw [gapBetweenBytes_of_hunt (p := .field) hfield, gapBetweenBytes_of_hunt (p := .controller) hcontroller]

/-! ### The flags that a command leaves do not reach the next (11 R185, R186) -/

/-- Working the flags out is writing two of the four fields that nothing reads. -/
theorem refresh_eq_marked (s : State) :
    s.refresh = s.marked ⟨s.path.gapMillis, s.path.millis, s.levelFlagOf, s.attnOf⟩ := rfl

/-- Of the four fields only the two counts outlast the end of a command. -/
theorem marked_refresh (k : Marks) (s : State) :
    (s.marked k).refresh = (s.setPath { s.path with gapMillis := k.gap, millis := k.millis }).refresh := rfl

theorem refresh_of_marked {s : State} {k : Marks} (hgap : k.gap = s.path.gapMillis) (hmillis : k.millis = s.path.millis) :
    (s.marked k).refresh = s.refresh := by
  rw [marked_refresh, hgap, hmillis]
  rfl

theorem tick_eq_marked (s : State) :
    s.tick = s.marked ⟨s.path.gapMillis, s.path.millis + 1, s.upstream.levelFlag, s.upstream.attn⟩ := rfl

theorem gapTick_eq_marked (s : State) :
    s.gapTick = s.marked ⟨s.path.gapMillis + 1, s.path.millis, s.upstream.levelFlag, s.upstream.attn⟩ := rfl

theorem gapBetweenBytes_refresh (p : Port) (s : State) :
    (gapBetweenBytes p s.refresh).refresh = (gapBetweenBytes p s).refresh := by
  rw [refresh_eq_marked s, gapBetweenBytes_marked]
  exact refresh_of_marked (by rw [gapBetweenBytes_path]) (by rw [gapBetweenBytes_path])

theorem gapMillisecond_refresh (s : State) : (gapMillisecond s.refresh).refresh = (gapMillisecond s).refresh := by
  by_cases h : s.path.gapMillis + 1 < s.path.gapSpan
  · rw [gapMillisecond_of_short h, gapMillisecond_of_short (s := s.refresh) h]
    rfl
  · have hdue := Nat.not_lt.mp h
    rw [gapMillisecond_of_due hdue, gapMillisecond_of_due (s := s.refresh) hdue, refresh_eq_marked s, gapExpiry_marked]
    exact refresh_of_marked (by rw [gapExpiry_path]) (by rw [gapExpiry_path])

/-- Short of a tenth the flags with which a millisecond begins do not matter. -/
theorem millisecond_refresh_of_short {s w : State} (hw : w = gapBetweenBytes .controller (gapBetweenBytes .field s))
    (h : s.path.millis + 1 < 100) : (millisecond s).refresh = (millisecond w.refresh).refresh := by
  have hmillis : w.path.millis = s.path.millis := by rw [hw, gapBetweenBytes_path, gapBetweenBytes_path]
  have hchoice : w.choice = s.choice := by
    have haux : ∀ p t, (gapBetweenBytes p t).choice = t.choice := fun p t => by
      unfold gapBetweenBytes
      split
      · rfl
      · unfold State.choice
        rw [badFrame_moves p t]
        cases p <;> rfl
    rw [hw, haux, haux]
  have hfield : (w.receiver .field).state = .hunt := by
    rw [hw, gapBetweenBytes_receiver, if_neg (by decide), gapBetweenBytes_receiver, if_pos rfl]
  have hcontroller : (w.receiver .controller).state = .hunt := by rw [hw, gapBetweenBytes_receiver, if_pos rfl]
  have hshort : ∀ b t, t.path.millis = s.path.millis → tenthMillisecond b t = t.tick := fun b t ht =>
    tenthMillisecond_of_short (by rw [ht]; exact h)
  have hleft : millisecond s =
      if s.choice.gapFirst then tenthMillisecond s (gapMillisecond w) else gapMillisecond (tenthMillisecond s w) := by
    rw [hw]
    rfl
  have hright := millisecond_of_hunt (s := w.refresh) hfield hcontroller
  rw [hleft, hright, show w.refresh.choice = s.choice from hchoice]
  cases s.choice.gapFirst with
  | true =>
    simp only [if_true]
    rw [hshort s _ ((gapMillisecond_millis w).trans hmillis),
      hshort w.refresh _ ((gapMillisecond_millis w.refresh).trans hmillis)]
    have hrefresh : ∀ t : State, t.tick.refresh = t.refresh.tick := fun _ => rfl
    rw [hrefresh, hrefresh, gapMillisecond_refresh]
  | false =>
    simp only [Bool.false_eq_true, if_false]
    rw [hshort s w hmillis, hshort w.refresh w.refresh hmillis]
    exact (gapMillisecond_refresh w.tick).symm

/-! ### Between frames -/

theorem millisecond_of_both_short {s : State} (hfield : s.links.fieldRx.state = .hunt)
    (hcontroller : s.links.controllerRx.state = .hunt) (hgap : s.path.gapMillis + 1 < s.path.gapSpan)
    (hmillis : s.path.millis + 1 < 100) :
    millisecond s =
      s.setPath { s.path with gapMillis := s.path.gapMillis + 1, millis := s.path.millis + 1 } := by
  rw [millisecond_of_hunt hfield hcontroller]
  cases s.choice.gapFirst with
  | true =>
    simp only [if_true]
    rw [gapMillisecond_of_short hgap, tenthMillisecond_of_short (s := s.gapTick) hmillis]
    rfl
  | false =>
    simp only [Bool.false_eq_true, if_false]
    rw [tenthMillisecond_of_short hmillis, gapMillisecond_of_short (s := s.tick) hgap]
    rfl

/-- The gap span alone completes: GAP_EXPIRY, with the tenth's millisecond on top (02 R26). -/
theorem millisecond_of_gap {s : State} (hfield : s.links.fieldRx.state = .hunt)
    (hcontroller : s.links.controllerRx.state = .hunt) (hgap : s.path.gapSpan ≤ s.path.gapMillis + 1)
    (hmillis : s.path.millis + 1 < 100) :
    (millisecond s).refresh =
      (gapExpiry s).refresh.setPath { (gapExpiry s).refresh.path with millis := s.path.millis + 1 } := by
  have hpath := gapExpiry_path s
  have hzero : (gapExpiry s).path.gapMillis = 0 := by rw [hpath]
  rw [millisecond_of_hunt hfield hcontroller]
  cases s.choice.gapFirst with
  | true =>
    simp only [if_true]
    rw [gapMillisecond_of_due hgap, tenthMillisecond_of_short (by rw [hpath]; exact hmillis), State.tick,
      show (gapExpiry s).path.millis = s.path.millis by rw [hpath]]
    rfl
  | false =>
    simp only [Bool.false_eq_true, if_false]
    rw [tenthMillisecond_of_short hmillis, gapMillisecond_of_due (s := s.tick) hgap, tick_eq_marked, gapExpiry_marked,
      marked_refresh, ← hzero]
    rfl

/-- The tenth alone completes: TENTH, with the gap timer's millisecond on top (02 R24). -/
theorem millisecond_of_tenth {s : State} (hfield : s.links.fieldRx.state = .hunt)
    (hcontroller : s.links.controllerRx.state = .hunt) (hgap : s.path.gapMillis + 1 < s.path.gapSpan)
    (hmillis : 100 ≤ s.path.millis + 1) :
    (millisecond s).refresh =
      (runTenth [] s).refresh.setPath { (runTenth [] s).refresh.path with gapMillis := s.path.gapMillis + 1 } := by
  have hpath := runTenth_path s
  have hzero : (runTenth [] s).path.millis = 0 := by rw [hpath]; rfl
  rw [millisecond_of_hunt hfield hcontroller]
  cases s.choice.gapFirst with
  | true =>
    simp only [if_true]
    rw [gapMillisecond_of_short hgap, tenthMillisecond_of_due (b := s) (s := s.gapTick) hmillis (dwellBegan_of_same rfl),
      gapTick_eq_marked, runTenth_marked, marked_refresh, ← hzero]
    rfl
  | false =>
    simp only [Bool.false_eq_true, if_false]
    rw [tenthMillisecond_of_due hmillis (dwellBegan_of_same rfl), gapMillisecond_of_short (by rw [hpath]; exact hgap),
      State.gapTick, show (runTenth [] s).path.gapMillis = s.path.gapMillis by rw [hpath]; rfl]
    rfl

/-- The sample path after a millisecond that completes both spans. -/
def State.pathAfterBoth (s : State) : SamplePath :=
  { s.path with timeBase := s.path.timeBase + 1, millis := 0, gapMillis := 0, gapSpan := 10 * s.param .gapSamples }

/-- Both spans complete, the gap first: the tenth is not counted for a DWELL that the silence begins (05 R83). -/
theorem gapThenTenth {s : State} (hmillis : 100 ≤ s.path.millis + 1) :
    (tenthMillisecond s (gapExpiry s)).silent = true ∧
    (tenthMillisecond s (gapExpiry s)).path = s.pathAfterBoth ∧
    (0 < s.param .dwellTime → s.aux.drumDeferred = false → s.restsToRun → s.silent = false →
      (tenthMillisecond s (gapExpiry s)).dwells) := by
  have hpath := gapExpiry_path s
  have hsilent : (gapExpiry s).silent = true := raiseSilence_silent s
  have hdue : 100 ≤ (gapExpiry s).path.millis + 1 := by rw [hpath]; exact hmillis
  have hafter : (gapExpiry s).pathAfterTenth = s.pathAfterBoth := by
    rw [State.pathAfterTenth, hpath]
    rfl
  cases hbegan : dwellBegan s (gapExpiry s) with
  | true =>
    rw [tenthMillisecond_of_began hdue hbegan]
    refine ⟨(runUncountedTenth_silent _).trans hsilent, (runUncountedTenth_path _).trans hafter,
      fun hspan hready hrest hnew => ?_⟩
    exact runUncountedTenth_dwells (by rw [gapExpiry_param]; exact hspan) (gapExpiry_dwells ⟨hready, .inl hrest⟩ hnew)
  | false =>
    rw [tenthMillisecond_of_due hdue hbegan]
    refine ⟨(runTenth_silent _).trans hsilent, (runTenth_path _).trans hafter, fun _ hready hrest hnew => ?_⟩
    obtain ⟨hdwell, -⟩ := gapExpiry_dwells ⟨hready, .inl hrest⟩ hnew
    simp [dwellBegan, hrest.1, hdwell] at hbegan

/-- Both spans complete, the tenth first: the silence finds the drum at rest still, or in DWELL already. -/
theorem tenthThenGap {s : State} (hgap : s.path.gapSpan ≤ s.path.gapMillis + 1) :
    (gapMillisecond (runTenth [] s)).silent = true ∧
    (gapMillisecond (runTenth [] s)).path = s.pathAfterBoth ∧
    (0 < s.param .dwellTime → s.aux.drumDeferred = false → s.restsToRun → s.silent = false →
      (gapMillisecond (runTenth [] s)).dwells) := by
  have hpath := runTenth_path s
  rw [gapMillisecond_of_due (by rw [hpath]; exact hgap)]
  refine ⟨raiseSilence_silent _, ?_, fun hspan hready hrest hnew => ?_⟩
  · rw [gapExpiry_path, hpath, runTenth_param]
    rfl
  · exact gapExpiry_dwells (runTenth_poised hspan hready hrest) ((runTenth_silent s).trans hnew)

theorem millisecond_of_both {s : State} (hfield : s.links.fieldRx.state = .hunt)
    (hcontroller : s.links.controllerRx.state = .hunt) (hgap : s.path.gapSpan ≤ s.path.gapMillis + 1)
    (hmillis : 100 ≤ s.path.millis + 1) :
    (millisecond s).silent = true ∧ (millisecond s).path = s.pathAfterBoth ∧
    (0 < s.param .dwellTime → s.aux.drumDeferred = false → s.restsToRun → s.silent = false →
      (millisecond s).dwells) := by
  rw [millisecond_of_hunt hfield hcontroller]
  cases s.choice.gapFirst with
  | true =>
    simp only [if_true]
    rw [gapMillisecond_of_due hgap]
    exact gapThenTenth hmillis
  | false =>
    simp only [Bool.false_eq_true, if_false]
    rw [tenthMillisecond_of_due hmillis (dwellBegan_of_same rfl)]
    exact tenthThenGap hgap

/-- The demand law has a RAMP run as its winner asks (05 R75). -/
theorem restsToRun_of_laws {s : State} (hlaw : s.demandLaw) (hstate : s.drum.state = .ramp) (hrest : s.atRest = true) :
    s.restsToRun := by
  obtain ⟨-, hrun⟩ := hlaw
  rw [hstate] at hrun
  exact ⟨hstate, hrest, by simp [show s.drum.winner.run? = _ from hrun]⟩

/-- Settles O2: between frames by which of the two spans the millisecond completes, and else after the receivers' gaps. -/
theorem idleStepIsOneMillisecond : Obligations.IdleStepIsOneMillisecond := by
  intro s hpending
  have hstep := step_of_idle hpending
  refine ⟨fun hfield hcontroller => ⟨fun hgap hmillis => ?_, fun hgap hmillis => ?_, fun hgap hmillis => ?_,
    fun hgap hmillis => ?_⟩, ?_⟩
  · rw [hstep, millisecond_of_both_short hfield hcontroller hgap hmillis]
  · exact ⟨_, exec_gapExpiry s, by rw [hstep, millisecond_of_gap hfield hcontroller hgap hmillis]⟩
  · exact ⟨_, exec_tenth s, by rw [hstep, millisecond_of_tenth hfield hcontroller hgap hmillis]⟩
  · obtain ⟨hsilent, hpath, hdwells⟩ := millisecond_of_both hfield hcontroller hgap hmillis
    refine ⟨_, hstep, hsilent, hpath, fun hparam hdrum hdemand hnew hstate hrest => ?_⟩
    obtain ⟨-, -, hready, -⟩ := hdrum
    exact hdwells (Nat.lt_of_lt_of_le (by decide) (hparam.1 .dwellTime).1) hready
      (restsToRun_of_laws hdemand hstate hrest) hnew
  · have hsettled := gapBetweenBytes_refresh .controller (gapBetweenBytes .field s)
    refine ⟨_, _, exec_interByteGapExpiry .field s, exec_interByteGapExpiry .controller _, ?_⟩
    rw [hsettled]
    refine ⟨?_, ?_, fun hmillis => ?_⟩
    · exact (gapBetweenBytes_receiver .controller .field (gapBetweenBytes .field s)).trans
        ((if_neg (by decide)).trans ((gapBetweenBytes_receiver .field .field s).trans (if_pos rfl)))
    · exact (gapBetweenBytes_receiver .controller .controller (gapBetweenBytes .field s)).trans (if_pos rfl)
    · have hidle : (gapBetweenBytes .controller (gapBetweenBytes .field s)).refresh.pending = [] := by
        show (gapBetweenBytes .controller (gapBetweenBytes .field s)).pending = []
        rw [gapBetweenBytes_pending, gapBetweenBytes_pending, hpending]
      rw [hstep, step_of_idle hidle, millisecond_refresh_of_short rfl hmillis]

end Sys2Proof.Machine

/-! # The commanded level between SAMPLEs (04 R56, R64; 10 R171)

No frame but an accepted SAMPLE, and no line or timer, raises the commanded level: each request and each link event is a
chain of acts and of writes that leave the level. -/

namespace Sys2Proof.Machine

/-! ### Writes that leave the level -/

theorem setTables_lowers (s : State) (b : Tables) : Lowers s (s.setTables b) := .of_heater rfl rfl rfl

theorem setFaults_lowers (s : State) (b : Faults) : Lowers s (s.setFaults b) := .of_heater rfl rfl rfl

theorem setLinks_lowers (s : State) (b : Links) : Lowers s (s.setLinks b) := .of_heater rfl rfl rfl

theorem setUpstream_lowers (s : State) (b : Upstream) : Lowers s (s.setUpstream b) := .of_heater rfl rfl rfl

theorem setDrum_lowers (s : State) (b : Drum) : Lowers s (s.setDrum b) := .of_heater rfl rfl rfl

theorem setParam_lowers (s : State) (p : Param) (v : Nat) : Lowers s (s.setParam p v) := .of_heater rfl rfl rfl

theorem setKeepalive_lowers (s : State) (k : Keepalive) : Lowers s (s.setKeepalive k) := .of_heater rfl rfl rfl

theorem setReceiver_lowers (s : State) (p : Port) (r : Receiver) : Lowers s (s.setReceiver p r) := by
  cases p <;> exact .of_heater rfl rfl rfl

theorem setBadCount_lowers (s : State) (p : Port) (n : Nat) : Lowers s (s.setBadCount p n) := by
  cases p <;> exact .of_heater rfl rfl rfl

theorem setMoisture_lowers (s : State) {m : Moisture} (h : m.lowest = s.moisture.lowest) : Lowers s (s.setMoisture m) :=
  .of_same rfl rfl rfl rfl h

theorem arise_lowers (x : Source) (s : State) : Lowers s (arise x s) := (arise_acts x s).lowers

theorem goAway_lowers (x : Source) (s : State) : Lowers s (goAway x s) := (goAway_acts x s).lowers

theorem workOutAction_lowers (s : State) : Lowers s (workOutAction s) := (workOutAction_acts s).lowers

theorem moveEvents_lowers (s : State) : Lowers s (moveEvents s) := setUpstream_lowers s _

theorem startTransmission_lowers (s : State) : Lowers s (startTransmission s) := (startTransmission_moves s).lowers

/-! ### The link level and the keepalive window (01 R2, R7, R10 to R12) -/

theorem badFrame_lowers (p : Port) (s : State) : Lowers s (badFrame p s) := by
  have hcount : ∀ n, Lowers s ((toHunt p s).setBadCount p n) := fun n =>
    (setReceiver_lowers s p _).trans (setBadCount_lowers _ p n)
  unfold badFrame
  dsimp only
  split
  · exact (hcount _).trans (arise_lowers _ _)
  · exact hcount _

theorem goodFrame_lowers (p : Port) (s : State) : Lowers s (goodFrame p s) := by
  have hcount : ∀ n, Lowers s ((toHunt p s).setBadCount p n) := fun n =>
    (setReceiver_lowers s p _).trans (setBadCount_lowers _ p n)
  unfold goodFrame
  dsimp only
  split
  · exact (hcount _).trans (goAway_lowers _ _)
  · exact hcount _

theorem gapBetweenBytes_lowers (p : Port) (s : State) : Lowers s (gapBetweenBytes p s) := by
  unfold gapBetweenBytes
  split
  · exact .refl s
  · exact badFrame_lowers p s

theorem applyLinkLimit_lowers (p : Port) (s : State) : Lowers s (applyLinkLimit p s) := by
  unfold applyLinkLimit
  dsimp only
  split
  · exact (setBadCount_lowers s p _).trans (arise_lowers _ _)
  · exact setBadCount_lowers s p _

theorem restartWindow_lowers (s : State) : Lowers s (restartWindow s) := by
  unfold restartWindow
  split
  · exact (setKeepalive_lowers s _).trans (goAway_lowers _ _)
  · exact setKeepalive_lowers s _

theorem keepaliveArrives_lowers (s : State) : Lowers s (keepaliveArrives s) := by
  unfold keepaliveArrives
  split
  · exact .refl s
  · split
    · exact (setKeepalive_lowers s _).trans (arise_lowers _ _)
    · exact restartWindow_lowers s

theorem frameRestarts_lowers (s : State) : Lowers s (frameRestarts s) := by
  unfold frameRestarts
  split
  · exact .refl s
  · exact restartWindow_lowers s

theorem keepaliveWritten_lowers (s : State) : Lowers s (keepaliveWritten s) :=
  (setKeepalive_lowers s _).trans (goAway_lowers _ _)

/-! ### Table writes (10 R170 to R175) -/

theorem applyShortLimit_lowers (s : State) : Lowers s (applyShortLimit s) := by
  have hset : ∀ n, Lowers s (s.setMoisture { s.moisture with allShort := n }) := fun _ => setMoisture_lowers s rfl
  unfold applyShortLimit
  dsimp only
  split
  · exact (hset _).trans (arise_lowers _ _)
  · exact hset _

/-- A parameter that acts at once may lower the level, and raises it never (10 R171; 04 R64). -/
theorem paramWritten_lowers (p : Param) (s : State) : Lowers s (paramWritten p s) := by
  cases p with
  | shortLimit => exact applyShortLimit_lowers s
  | airflowSpeed => exact forceReduction_lowers s
  | coolSpeed => exact reselect_lowers false s
  | linkErrLimit => exact (applyLinkLimit_lowers _ s).trans (applyLinkLimit_lowers _ _)
  | keepaliveUpper => exact keepaliveWritten_lowers s
  | keepaliveLower => exact keepaliveWritten_lowers s
  | copyDecimation => exact setUpstream_lowers s _
  | reportInterval => exact setUpstream_lowers s _
  | _ => exact .refl s

theorem admitParam_lowers (p : Param) (v : Nat) (s : State) : Lowers s (admitParam p v s).1 := by
  have hstored : ∀ n, Lowers s (paramWritten p (s.setParam p n)) := fun n =>
    (setParam_lowers s p n).trans (paramWritten_lowers p _)
  have hapart : ∀ n q m, Lowers s (paramWritten p ((s.setParam p n).setParam q m)) := fun n q m =>
    ((setParam_lowers s p n).trans (setParam_lowers _ q m)).trans (paramWritten_lowers p _)
  by_cases hu : p = .keepaliveUpper
  · subst hu
    unfold admitParam
    dsimp only
    split
    · exact hapart _ _ _
    · exact hstored _
  · by_cases hl : p = .keepaliveLower
    · subst hl
      unfold admitParam
      dsimp only
      split <;> exact hstored _
    · rw [admitParam_of_free hu hl]
      exact hstored _

theorem admitActions_lowers (i : Nat) (d : List Byte) (s : State) : Lowers s (admitActions i d s).1 := by
  have hstore : ∀ x a, Lowers s (storeAction x a s) := fun x a => by
    unfold storeAction
    split
    · exact .refl s
    · exact (setFaults_lowers s _).trans (workOutAction_lowers _)
  unfold admitActions
  split
  · exact hstore _ _
  all_goals exact .refl s

theorem admitWrite_lowers (tab : TableId) (i : Nat) (d : List Byte) (s : State) : Lowers s (admitWrite tab i d s).1 := by
  cases tab with
  | program =>
    unfold admitWrite admitProgram
    dsimp only
    split
    · exact .refl s
    · exact setTables_lowers s _
    · exact setTables_lowers s _
  | pattern =>
    unfold admitWrite admitPattern
    dsimp only
    split
    · exact .refl s
    · exact setTables_lowers s _
    · exact setTables_lowers s _
  | curve => exact setTables_lowers s _
  | limits => exact setFaults_lowers s _
  | actions => exact admitActions_lowers i d s
  | config =>
    unfold admitWrite admitConfig
    dsimp only
    split
    · exact .refl s
    · exact admitParam_lowers _ _ s

theorem requestWrite_lowers (p : List Byte) (s : State) : Lowers s (requestWrite p s).1 := by
  obtain ⟨r, hr⟩ | ⟨tab, -, -, hw⟩ := requestWrite_cases p s
  · rw [hr]; exact .refl s
  · rw [hw]; exact admitWrite_lowers tab _ _ s

/-! ### The requests of the cycle controller (07, 08) -/

theorem startValues_lowers (slot : Nat) (anticrease : Bool) (s : State) : Lowers s (startValues slot anticrease s) := by
  have hvalues : ∀ c m, m.lowest = s.moisture.lowest →
      Lowers s (((s.setCycle c).setMoisture m).setHeater { s.heater with wanted := .l0 }) :=
    fun _ _ hm => .of_same rfl rfl rfl rfl hm
  exact (hvalues { s.cycle with slot := slot, anticrease := anticrease, notDry := false, drySeen := false }
    { s.moisture with w16 := 16000, streak := 0, allShort := 0, hits := 0 } rfl).trans (goAway_lowers _ _)

theorem startFirst_lowers (s : State) : Lowers s (startFirst s) := by
  unfold startFirst
  split
  · exact (completeCycle_acts s).lowers
  · exact ((setCycle_acts s _).trans (beginPhase_acts _ _ _)).lowers

theorem requestStart_lowers (slot anticrease : Byte) (s : State) : Lowers s (requestStart slot anticrease s).1 := by
  unfold requestStart
  split
  · exact .refl s
  · exact (startValues_lowers _ _ s).trans (startFirst_lowers _)

theorem requestPause_lowers (s : State) : Lowers s (requestPause s).1 := by
  unfold requestPause
  split
  · exact (suspend_acts _ s).lowers
  · exact .refl s

theorem resumeCycle_lowers (s : State) : Lowers s (resumeCycle s) := by
  have hset : ∀ n, Lowers s (s.setMoisture { s.moisture with streak := n, ring := [] }) := fun _ =>
    setMoisture_lowers s rfl
  exact (hset _).trans ((cycleTo_acts _ _).trans (raiseEvent_acts _ _ _)).lowers

theorem requestResume_lowers (s : State) : Lowers s (requestResume s).1 := by
  unfold requestResume
  split
  · exact .refl s
  · split
    · exact .refl s
    · split
      · exact .refl s
      · exact resumeCycle_lowers s

theorem abortCycle_lowers (s : State) : Lowers s (abortCycle s) := by
  unfold abortCycle
  split <;> exact ((cycleTo_acts _ s).trans (raiseEvent_acts _ _ _)).lowers

theorem requestAbort_lowers (s : State) : Lowers s (requestAbort s).1 := by
  unfold requestAbort
  split
  · exact abortCycle_lowers s
  · exact abortCycle_lowers s
  · exact (endCooldown_acts s).lowers
  · exact .refl s
  · exact .refl s

/-! ### The other requests (09, 10) -/

theorem clearRecord_lowers (x : Source) (s : State) : Lowers s (clearRecord x s) :=
  (setFaults_lowers s _).trans ((raiseEvent_acts _ _ _).trans (workOutAction_acts _)).lowers

theorem clearMotorStall_lowers (s : State) : Lowers s (clearMotorStall s) := by
  have hmark : Lowers s
      (if s.drum.state = .ramp then s.setDrum { s.drum with spinup := some 0, stallMark := false } else s) := by
    split
    · exact setDrum_lowers s _
    · exact .refl s
  have hclear : ∀ t, Lowers s t → Lowers s
      (if (t.setPresent .motorStall false).counts .motorStall then
        clearRecord .motorStall (t.setPresent .motorStall false)
      else t.setPresent .motorStall false) := fun t ht => by
    split
    · exact (ht.trans (setFaults_lowers t _)).trans (clearRecord_lowers _ _)
    · exact ht.trans (setFaults_lowers t _)
  exact hclear _ hmark

theorem clearSource_lowers (x : Source) (s : State) : Lowers s (clearSource x s) := by
  unfold clearSource
  split
  · exact clearMotorStall_lowers s
  · split
    · exact clearRecord_lowers x s
    · exact .refl s

theorem clearSources_lowers (scope : List Source) (s : State) : Lowers s (clearSources scope s) := by
  have hfold : ∀ t, Lowers t (scope.foldl (fun t x => clearSource x t) t) := by
    induction scope with
    | nil => exact .refl
    | cons x xs ih => exact fun t => (clearSource_lowers x t).trans (ih _)
  unfold clearSources leaveHalted
  split
  · exact (hfold s).trans (cycleTo_acts _ _).lowers
  · exact hfold s

theorem requestFaultClear_lowers (b : Byte) (s : State) : Lowers s (requestFaultClear b s).1 := by
  unfold requestFaultClear
  split
  · dsimp only
    exact clearSources_lowers _ s
  · split
    · exact clearSources_lowers _ s
    · exact .refl s

theorem requestTrim_lowers (step : Byte) (s : State) : Lowers s (requestTrim step s).1 := by
  unfold requestTrim
  dsimp only
  split
  · split
    · exact setParam_lowers s _ _
    · exact .refl s
  · split
    · split
      · exact setParam_lowers s _ _
      · exact .refl s
    · exact .refl s

theorem requestUnlock_lowers (s : State) : Lowers s (requestUnlock s).1 := by
  unfold requestUnlock
  split
  · exact setTables_lowers s _
  · exact .refl s

/-! ### A taken request, and the handler (10 R168, R169) -/

/-- No request raises the commanded level. -/
theorem takeRequest_lowers (f : Frame) (s : State) : Lowers s (takeRequest f s).1 := by
  unfold takeRequest
  split
  · exact .refl s
  · split
    · exact .refl s
    · unfold actRequest
      split
      · exact requestWrite_lowers _ s
      · rw [requestRead_state]; exact .refl s
      · exact requestStart_lowers _ _ s
      · exact requestPause_lowers s
      · exact requestResume_lowers s
      · exact requestAbort_lowers s
      · exact requestFaultClear_lowers _ s
      · exact setFaults_lowers s _
      · exact requestTrim_lowers _ s
      · exact setTables_lowers s _
      · exact requestUnlock_lowers s
      · exact (setUpstream_lowers s _).trans (moveEvents_lowers _)
      · exact .refl s

theorem handleRequest_lowers (f : Frame) (s : State) : Lowers s (handleRequest f s) :=
  (((setTables_lowers s _).trans (takeRequest_lowers f _)).trans (joinQueue_moves _ _).lowers).trans
    (setTables_lowers _ _)

theorem serveQueue_lowers (n : Nat) (s : State) : Lowers s (serveQueue n s) := by
  induction n generalizing s with
  | zero => exact .refl s
  | succ n ih =>
    unfold serveQueue
    split
    · exact .refl s
    · split
      · exact ((setLinks_lowers s _).trans (handleRequest_lowers _ _)).trans (ih _)
      · exact .refl s

theorem serve_lowers (s : State) : Lowers s (serve s) := serveQueue_lowers _ s

theorem controllerFrame_lowers (f : Frame) (s : State) : Lowers s (controllerFrame f s) := by
  unfold controllerFrame requestArrives
  split
  · exact badFrame_lowers _ s
  · split
    · exact (goodFrame_lowers _ s).trans (keepaliveArrives_lowers _)
    · split
      · exact (((goodFrame_lowers _ s).trans (frameRestarts_lowers _)).trans (setLinks_lowers _ _)).trans
          (serve_lowers _)
      · exact badFrame_lowers _ s

/-! ### The timers (02 R24, R27) -/

theorem gapExpiry_lowers (s : State) : Lowers s (gapExpiry s) := by
  have hraise : Lowers s (raiseSilence s) := by
    have hselect := (arise_lowers .fieldSilent s).trans (reselect_lowers false _)
    unfold raiseSilence
    dsimp only
    split
    · exact .refl s
    · split
      · exact hselect.trans (setDrum_lowers _ _)
      · exact hselect
  have hgap : ∀ t : State, Lowers t ((gapDrive t).setPath
      { (gapDrive t).path with gapMillis := 0, gapSpan := 10 * (gapDrive t).param .gapSamples }) := fun _ =>
    .of_same rfl rfl rfl rfl rfl
  exact hraise.trans (hgap _)

/-- A tenth moves the count, and from there on raises nothing. -/
theorem runTenth_lowers (first : List TenthBlock) (s : State) :
    Lowers (beginTenth s.dropChoice) (runTenth first s) := tenthBlocks_lowers _ _ _

theorem beginTenth_dropChoice_heater (s : State) : (beginTenth s.dropChoice).heater = s.heater :=
  beginTenth_heater s.dropChoice

end Sys2Proof.Machine

/-! # Every command but an accepted SAMPLE raises nothing (02 R23; 04 R56, R64) -/

namespace Sys2Proof.Machine

/-! ### The stager's turn on a SAMPLE (04 R67) -/

/-- Work off the stager's turn: the level does not rise, and the wanted level and the last step stand. -/
structure OffStage (s t : State) : Prop where
  lowers : Lowers s t
  wanted : t.heater.wanted = s.heater.wanted
  lastUp : t.heater.lastUp = s.heater.lastUp

theorem OffStage.refl (s : State) : OffStage s s := ⟨.refl s, rfl, rfl⟩

theorem OffStage.trans {s t u : State} (h : OffStage s t) (k : OffStage t u) : OffStage s u :=
  ⟨h.lowers.trans k.lowers, k.wanted.trans h.wanted, k.lastUp.trans h.lastUp⟩

theorem OffStage.of_heater {s t : State} (hpath : t.path.timeBase = s.path.timeBase) (hheater : t.heater = s.heater)
    (hmoisture : t.moisture.lowest = s.moisture.lowest) : OffStage s t :=
  ⟨.of_same hpath (by rw [hheater]) (by rw [hheater]) (by rw [hheater]) hmoisture, by rw [hheater], by rw [hheater]⟩

theorem Acts.offStage {s t : State} (h : Acts s t) : OffStage s t := ⟨h.lowers, h.frame.wanted, h.frame.lastUp⟩

theorem setDrum_offStage (s : State) (d : Drum) : OffStage s (s.setDrum d) := .of_heater rfl rfl rfl

theorem setAux_offStage (s : State) (a : Aux) : OffStage s (s.setAux a) := .of_heater rfl rfl rfl

theorem stepContacts_offStage (s : State) : OffStage s (stepContacts s) := by
  unfold stepContacts
  split
  · exact .refl s
  · exact ⟨.of_same rfl rfl rfl rfl rfl, rfl, rfl⟩

theorem contactsSample_offStage (s : State) : OffStage s (contactsSample s) :=
  (stepContacts_offStage s).trans ((handCondition_acts _ _ _).trans (handCondition_acts _ _ _)).offStage

theorem MovesDrum.offStage {s t : State} (h : MovesDrum s t) (hlowers : Lowers s t) : OffStage s t :=
  ⟨hlowers, by rw [h], by rw [h]⟩

theorem reactDrum_offStage (s : State) : OffStage s (reactDrum s) := by
  have hfold : ∀ (l : List Demand) (t : State), OffStage t (l.foldl (fun t w => actOn w t) t) := by
    intro l
    induction l with
    | nil => exact .refl
    | cons w ws ih => exact fun t => ((actOn_moves w t).offStage (actOn_lowers w t)).trans (ih _)
  exact (setAux_offStage s _).trans (hfold _ _)

theorem drumEndTest_offStage (s : State) : OffStage s (drumEndTest s) := by
  have hturning : OffStage s (enterTurning s) := by
    have hset : ∀ d w, OffStage s ((s.setDrum d).setWalker w) := fun _ _ => .of_heater rfl rfl rfl
    exact (hset _ _).trans ((forceReduction_acts _).trans (goAway_acts _ _)).offStage
  have hdwell : OffStage s (enterDwell s) :=
    (enterDwell_moves s).offStage (forceReduction_setDrum_lowers s _)
  unfold drumEndTest
  split
  · split
    · exact hturning
    · exact .refl s
  · split
    · exact hdwell.trans (goAway_acts _ _).offStage
    · exact .refl s
  · exact .refl s
  · exact .refl s
  · exact .refl s

theorem stepSetpoint_offStage (s : State) : OffStage s (stepSetpoint s) := by
  unfold stepSetpoint
  split
  · exact setDrum_offStage s _
  · exact setDrum_offStage s _
  · exact .refl s
  · exact .refl s
  · exact .refl s

theorem drumSample_offStage (late : Bool) (s : State) : OffStage s (drumSample late s) := by
  have hnote : ∀ c n, OffStage s (noteCurrent c (s.setDrum { s.drum with ocRun := n })) := fun _ _ =>
    .of_heater rfl rfl rfl
  have hhand : ∀ h t, OffStage t (handOvercurrent h t) := fun h t => by
    unfold handOvercurrent
    split
    · exact .refl t
    · exact (handCondition_acts _ _ t).offStage
  have hsteps : ∀ t, OffStage t (drumEndTest (stepSetpoint (reactDrum t))) := fun t =>
    ((reactDrum_offStage t).trans (stepSetpoint_offStage _)).trans (drumEndTest_offStage _)
  unfold drumSample
  dsimp only
  cases late
  · exact ((hnote _ _).trans (hhand _ _)).trans (hsteps _)
  · exact ((hnote _ _).trans (hsteps _)).trans (hhand _ _)

theorem sampleBlock_offStage {b : SampleBlock} (hb : b ≠ .heater) (s0 : State) (opening late : Bool) (s : State) :
    OffStage s (sampleBlock s0 opening late b s) := by
  cases b with
  | limits => exact (limitsSample_acts s).offStage
  | moisture => exact (moistureSample_acts s0 s).offStage
  | contacts => exact contactsSample_offStage s
  | heater => exact absurd rfl hb
  | drum => exact drumSample_offStage late s
  | cycle => exact (cycleSample_acts opening s).offStage

theorem sampleWork_offStage {order : List SampleBlock} (hb : .heater ∉ order) (s0 : State) (opening late : Bool)
    (s : State) : OffStage s (sampleWork s0 opening late order s) := by
  induction order generalizing s with
  | nil => exact .refl s
  | cons b bs ih =>
    have hne : b ≠ .heater := fun e => hb (by simp [e])
    exact (sampleBlock_offStage hne s0 opening late s).trans (ih (fun hmem => hb (List.mem_cons_of_mem b hmem)) _)

theorem SampleBlock.mem_all (b : SampleBlock) : b ∈ SampleBlock.all := by cases b <;> decide

/-- In the order of a SAMPLE the stager has one turn. -/
theorem sampleOrder_split (named : List SampleBlock) :
    ∃ first rest, fillOrder SampleBlock.all named = first ++ .heater :: rest := by
  obtain ⟨first, rest, heq⟩ :=
    List.append_of_mem ((mem_fillOrder .heater SampleBlock.all named).mpr (.inr (SampleBlock.mem_all _)))
  exact ⟨first, rest, heq⟩

theorem sampleOrder_disjoint {named first rest : List SampleBlock}
    (h : fillOrder SampleBlock.all named = first ++ .heater :: rest) :
    .heater ∉ first ∧ .heater ∉ rest ∧ first.Nodup ∧ rest.Nodup ∧ List.Disjoint first rest := by
  have hnodup := nodup_fillOrder nodup_sampleBlocks named
  rw [h, List.nodup_append, List.nodup_cons] at hnodup
  obtain ⟨hfirst, ⟨hrest, hnodupRest⟩, hdisjoint⟩ := hnodup
  exact ⟨fun hmem => hdisjoint _ hmem _ List.mem_cons_self rfl, hrest, hfirst, hnodupRest,
    fun b hb hb' => hdisjoint b hb b (List.mem_cons_of_mem _ hb') rfl⟩

theorem accepting_offStage (s : State) (p : List Byte) : OffStage s (s.accepting p) := by
  have hgood : OffStage s (goodFrame .field s).dropChoice := by
    have hport : ∀ n, OffStage s (s.portAfter .field n) := fun _ => .of_heater rfl rfl rfl
    have hdrop : ∀ t : State, OffStage t t.dropChoice := fun _ => .of_heater rfl rfl rfl
    rw [goodFrame_eq]
    split
    · exact ((hport _).trans (goAway_acts _ _).offStage).trans (hdrop _)
    · exact (hport _).trans (hdrop _)
  have hdecode : ∀ t a, OffStage t ((decodeSample p t).setAux a) := fun _ _ => .of_heater rfl rfl rfl
  exact hgood.trans ((hdecode _ _).trans (goAway_acts _ _).offStage)

theorem answer_offStage (s : State) (p : List Byte) : OffStage s (handOnCopy p (answerDrive s)).refresh := by
  have hdrive : OffStage s (answerDrive s) := ⟨.of_same rfl rfl rfl rfl rfl, rfl, rfl⟩
  have hcopy := (handOnCopy_moves p (answerDrive s)).trans (refresh_moves _)
  exact hdrive.trans (.of_heater (by rw [hcopy]) (by rw [hcopy]) (by rw [hcopy]))

/-- The state after the work of an order of blocks on an accepted SAMPLE (02 R22). -/
def State.workedBy (s : State) (p : List Byte) (order : List SampleBlock) : State :=
  sampleWork (s.accepting p) (s.doorOpening p) s.choice.overcurrentLate order (reselect false (s.accepting p))

theorem worked_split {s : State} {first rest : List SampleBlock}
    (h : fillOrder SampleBlock.all s.choice.sample = first ++ .heater :: rest) (p : List Byte) :
    s.worked p =
      sampleWork (s.accepting p) (s.doorOpening p) s.choice.overcurrentLate rest (heaterSample (s.workedBy p first)) := by
  rw [State.worked, h, sampleWork_append]
  rfl

theorem workedBy_offStage {first : List SampleBlock} (h : .heater ∉ first) (s : State) (p : List Byte) :
    OffStage s (s.workedBy p first) :=
  ((accepting_offStage s p).trans (reselect_acts _ _).offStage).trans (sampleWork_offStage h _ _ _ _)

theorem answered_offStage {s : State} {first rest : List SampleBlock}
    (h : fillOrder SampleBlock.all s.choice.sample = first ++ .heater :: rest) (p : List Byte) :
    OffStage (heaterSample (s.workedBy p first)) (handOnCopy p (answerDrive (s.worked p))).refresh := by
  obtain ⟨-, hrest, -⟩ := sampleOrder_disjoint h
  rw [worked_split h]
  exact (sampleWork_offStage hrest _ _ _ _).trans (answer_offStage _ p)

/-! ### The rows of the table -/

/-- From a state with the same heater nothing is raised; the time base may have moved before. -/
def RaisesNothing (s t : State) : Prop := ∃ u, u.heater = s.heater ∧ Lowers u t

theorem Lowers.raisesNothing {s t : State} (h : Lowers s t) : RaisesNothing s t := ⟨s, rfl, h⟩

theorem RaisesNothing.refresh {s t : State} (h : RaisesNothing s t) : RaisesNothing s t.refresh := by
  obtain ⟨u, hheater, hlowers⟩ := h
  exact ⟨u, hheater, hlowers.trans (refresh_moves t).lowers⟩

theorem runTenth_raisesNothing (first : List TenthBlock) (s : State) : RaisesNothing s (runTenth first s) :=
  ⟨_, beginTenth_dropChoice_heater s, runTenth_lowers first s⟩

theorem dueTenth_raisesNothing (due : Bool) (b : TenthBlock) (s : State) : RaisesNothing s (dueTenth due b s) := by
  unfold dueTenth
  split
  · exact runTenth_raisesNothing _ s
  · exact (Lowers.refl s).raisesNothing

/-- A frame on the field port raises nothing, but for a SAMPLE that is accepted (01 R5; 02 R15). -/
theorem fieldFrame_raises (f : Frame) (s : State) :
    RaisesNothing s (fieldFrame f s) ∨
      (f.kind = 0x21 ∧ s.accepts f.payload ∧ fieldFrame f s = handOnCopy f.payload (answerDrive (s.worked f.payload))) := by
  obtain ⟨kind, p⟩ := f
  have hbad := (badFrame_lowers .field s).raisesNothing
  have hgood := (goodFrame_lowers .field s).raisesNothing
  by_cases hk : kind = 0x21
  · subst hk
    cases hok : samplePayloadOk p with
    | false =>
      rw [fieldFrame_badSample hok]
      exact .inl hbad
    | true =>
      by_cases hlast : s.path.lastSeq = some (byteAt p 0)
      · rw [fieldFrame_sample hok, takeSample_duplicate (by rw [goodFrame_path]; exact hlast)]
        exact .inl hgood
      · exact .inr ⟨rfl, ⟨hok, hlast⟩, fieldFrame_of_accepts ⟨hok, hlast⟩⟩
  · have hnat : kind.toNat ≠ 0x21 := fun e => hk (BitVec.eq_of_toNat_eq e)
    unfold fieldFrame
    rw [if_neg hnat]
    split
    · exact .inl hbad
    · exact .inl hgood

/-- A line or transmitter event tests the queues, and raises nothing. -/
theorem serve_raisesNothing (s : State) (b : Links) : RaisesNothing s (serve (startTransmission (s.setLinks b))) :=
  ((setLinks_lowers s b).trans ((startTransmission_lowers _).trans (serve_lowers _))).raisesNothing

theorem controllerFrame_raisesNothing (f : Frame) (s : State) : RaisesNothing s (controllerFrame f s) :=
  (controllerFrame_lowers f s).raisesNothing

theorem paramArrives_raisesNothing (p : Param) (v : Half) (s : State) : RaisesNothing s (paramArrives p v s) := by
  unfold paramArrives writeArrives
  exact controllerFrame_raisesNothing _ s

/-- Every command but RESET raises nothing, or is a frame on the field port. -/
theorem exec_cases {c : Instr} (hc : ∀ high, c ≠ .reset high) (s : State) :
    ∃ t, exec c s = .next t.refresh ∧
      (RaisesNothing s t ∨ ∃ f : Frame, t = fieldFrame f s ∧ (f.kind = 0x21 → bringsSample c)) := by
  have hsame := (Lowers.refl s).raisesNothing
  cases c with
  | reset high => exact absurd rfl (hc high)
  | sample p => exact ⟨_, rfl, .inr ⟨_, rfl, fun _ => trivial⟩⟩
  | fieldOtherFrame kind p => exact ⟨_, rfl, .inr ⟨⟨kind, p⟩, rfl, fun h => h⟩⟩
  | sampleCopy p =>
    refine ⟨_, rfl, ?_⟩
    split
    · exact .inr ⟨_, rfl, fun _ => trivial⟩
    · exact .inl hsame
  | byteArrival port b parity stop =>
    refine ⟨_, rfl, ?_⟩
    unfold byteArrives
    split
    · exact .inl (setReceiver_lowers s port _).raisesNothing
    next f _ =>
      cases port with
      | field => exact .inr ⟨f, rfl, fun _ => trivial⟩
      | controller => exact .inl (controllerFrame_raisesNothing f s)
    · exact .inl (badFrame_lowers port s).raisesNothing
  | badFrame port => exact ⟨_, rfl, .inl (badFrame_lowers port s).raisesNothing⟩
  | interByteGapExpiry port => exact ⟨_, rfl, .inl (gapBetweenBytes_lowers port s).raisesNothing⟩
  | gapExpiry => exact ⟨_, rfl, .inl (gapExpiry_lowers s).raisesNothing⟩
  | tenth => exact ⟨_, rfl, .inl (runTenth_raisesNothing [] s)⟩
  | secondExpiry =>
    refine ⟨_, rfl, .inl ?_⟩
    split
    · exact runTenth_raisesNothing [] s
    · exact hsame
  | lateBreach => exact ⟨_, rfl, .inl (dueTenth_raisesNothing _ _ s)⟩
  | dwellSpanEnd => exact ⟨_, rfl, .inl (dueTenth_raisesNothing _ _ s)⟩
  | motorStall => exact ⟨_, rfl, .inl (dueTenth_raisesNothing _ _ s)⟩
  | drumOverrun => exact ⟨_, rfl, .inl (dueTenth_raisesNothing _ _ s)⟩
  | segmentEnd => exact ⟨_, rfl, .inl (dueTenth_raisesNothing _ _ s)⟩
  | earlyEnd => exact ⟨_, rfl, .inl (dueTenth_raisesNothing _ _ s)⟩
  | tangle => exact ⟨_, rfl, .inl (dueTenth_raisesNothing _ _ s)⟩
  | report => exact ⟨_, rfl, .inl (dueTenth_raisesNothing _ _ s)⟩
  | timeout => exact ⟨_, rfl, .inl (dueTenth_raisesNothing _ _ s)⟩
  | duration => exact ⟨_, rfl, .inl (dueTenth_raisesNothing _ _ s)⟩
  | cooled => exact ⟨_, rfl, .inl (dueTenth_raisesNothing _ _ s)⟩
  | cooldownLimitReached => exact ⟨_, rfl, .inl (dueTenth_raisesNothing _ _ s)⟩
  | readyRise => exact ⟨_, rfl, .inl (serve_raisesNothing s _)⟩
  | controllerTxEnd => exact ⟨_, rfl, .inl (serve_raisesNothing s _)⟩
  | readyFall => exact ⟨_, rfl, .inl (setLinks_lowers s _).raisesNothing⟩
  | driveTxEnd => exact ⟨_, rfl, .inl (setLinks_lowers s _).raisesNothing⟩
  | serviceChange high => exact ⟨_, rfl, .inl (setLinks_lowers s _).raisesNothing⟩
  | electrodeBurstWrite v => exact ⟨_, rfl, .inl (paramArrives_raisesNothing _ v s)⟩
  | electrodeTrimWrite v => exact ⟨_, rfl, .inl (paramArrives_raisesNothing _ v s)⟩
  | shortLimitWrite v => exact ⟨_, rfl, .inl (paramArrives_raisesNothing _ v s)⟩
  | linkErrLimitWrite v => exact ⟨_, rfl, .inl (paramArrives_raisesNothing _ v s)⟩
  | keepaliveUpperWrite v => exact ⟨_, rfl, .inl (paramArrives_raisesNothing _ v s)⟩
  | keepaliveLowerWrite v => exact ⟨_, rfl, .inl (paramArrives_raisesNothing _ v s)⟩
  | gapSamplesWrite v => exact ⟨_, rfl, .inl (paramArrives_raisesNothing _ v s)⟩
  | airflowSpeedWrite v => exact ⟨_, rfl, .inl (paramArrives_raisesNothing _ v s)⟩
  | coolSpeedWrite v => exact ⟨_, rfl, .inl (paramArrives_raisesNothing _ v s)⟩
  | copyDecimationWrite v => exact ⟨_, rfl, .inl (paramArrives_raisesNothing _ v s)⟩
  | reportIntervalWrite v => exact ⟨_, rfl, .inl (paramArrives_raisesNothing _ v s)⟩
  | upstreamLevelWrite v => exact ⟨_, rfl, .inl (paramArrives_raisesNothing _ v s)⟩
  | attnMaskWrite v => exact ⟨_, rfl, .inl (paramArrives_raisesNothing _ v s)⟩
  | protectCountWrite v => exact ⟨_, rfl, .inl (paramArrives_raisesNothing _ v s)⟩
  | protectSideWrite v => exact ⟨_, rfl, .inl (paramArrives_raisesNothing _ v s)⟩
  | _ => exact ⟨_, rfl, .inl (controllerFrame_raisesNothing _ s)⟩

/-- Every command but RESET raises nothing, or brings a SAMPLE that is accepted. -/
theorem exec_raises {c : Instr} {s t : State} (hc : ∀ high, c ≠ .reset high) (h : exec c s = .next t) :
    RaisesNothing s t ∨
      (bringsSample c ∧ ∃ p, s.accepts p ∧ t = (handOnCopy p (answerDrive (s.worked p))).refresh) := by
  obtain ⟨u, hexec, hcase⟩ := exec_cases hc s
  have htu : t = u.refresh := by
    rw [hexec] at h
    exact (Host.Outcome.next.inj h).symm
  subst htu
  rcases hcase with hraise | ⟨f, rfl, hbrings⟩
  · exact .inl hraise.refresh
  · rcases fieldFrame_raises f s with hraise | ⟨hkind, haccepts, heq⟩
    · exact .inl hraise.refresh
    · exact .inr ⟨hbrings hkind, f.payload, haccepts, by rw [heq]⟩

end Sys2Proof.Machine

/-! # The permitted level, and the three changes of the commanded level (04 R56, R59 to R67) -/

namespace Sys2Proof.Machine

/-! ### Levels as codes -/

theorem Level.h1_iff (l : Level) : l.h1 = true ↔ l ≠ .l0 := by cases l <;> decide

theorem Level.h2_iff (l : Level) : l.h2 = true ↔ l = .l2 := by cases l <;> decide

theorem Level.h1_eq_iff (a b : Level) : a.h1 = b.h1 ↔ (a = .l0 ↔ b = .l0) := by
  rw [Bool.eq_iff_iff, Level.h1_iff, Level.h1_iff, not_iff_not]

theorem Level.h2_eq_iff (a b : Level) : a.h2 = b.h2 ↔ (a = .l2 ↔ b = .l2) := by
  rw [Bool.eq_iff_iff, Level.h2_iff, Level.h2_iff]

theorem Level.code_le_two (l : Level) : l.code ≤ 2 := by cases l <;> decide

theorem Level.eq_l0_iff (l : Level) : l = .l0 ↔ l.code = 0 := by cases l <;> decide

theorem Level.eq_l2_iff (l : Level) : l = .l2 ↔ l.code = 2 := by cases l <;> decide

theorem Level.oneLower_code (l : Level) : l.oneLower.code = l.code - 1 := by cases l <;> rfl

theorem Level.oneHigher_code {l : Level} (h : l.code < 2) : l.oneHigher.code = l.code + 1 := by
  cases l with
  | l0 => rfl
  | l1 => rfl
  | l2 => exact absurd h (by decide)

/-! ### The permitted level (04 R59 to R63) -/

theorem cyclePermission_code (s : State) :
    s.cyclePermission.code =
      if s.cycle.state = .active ∧ (s.cycle.record.kind = .heatToDry ∨ s.cycle.record.kind = .heatTimed) then 2
      else 0 := by
  have hheats : s.cycle.record.kind.heats = true ↔
      s.cycle.record.kind = .heatToDry ∨ s.cycle.record.kind = .heatTimed := by
    cases s.cycle.record.kind <;> decide
  simp only [State.cyclePermission, hheats]
  split <;> rfl

theorem phaseCap_code (s : State) :
    s.phaseCap.code = if s.walker.persist = true then s.cycle.record.cap.code - 1 else s.cycle.record.cap.code := by
  unfold State.phaseCap
  split
  · exact Level.oneLower_code _
  · rfl

theorem airflow_code (s : State) :
    s.airflow.code =
      if s.drum.state = .turning ∨
          (s.drum.state = .ramp ∧ s.param .airflowSpeed ≤ s.tacho.natAbs ∧ s.aux.airflowWaits = false) then 2
      else 0 := by
  unfold State.airflow
  cases hstate : s.drum.state with
  | turning => simp [Level.code]
  | ramp =>
    by_cases h : s.param .airflowSpeed ≤ s.tacho.natAbs ∧ s.aux.airflowWaits = false
    · simp [State.speed, h, Level.code]
    · simp [State.speed, h, Level.code]
  | stopped => simp [Level.code]
  | decel => simp [Level.code]
  | dwell => simp [Level.code]

theorem permitted_code (s : State) :
    s.permitted.code =
      min (min s.cyclePermission.code s.phaseCap.code) (min s.faults.effective.cap.code s.airflow.code) := by
  simp only [State.permitted, Level.lower_code]

/-! ### A change of the commanded level stamps what it switches (04 R56) -/

theorem switchStamp_h1 (was is : Level) (now : Tick) (old : Option Tick) :
    switchStamp was.h1 is.h1 now old = if was = .l0 ↔ is = .l0 then old else some now := by
  unfold switchStamp
  simp only [Level.h1_eq_iff]

theorem switchStamp_h2 (was is : Level) (now : Tick) (old : Option Tick) :
    switchStamp was.h2 is.h2 now old = if was = .l2 ↔ is = .l2 then old else some now := by
  unfold switchStamp
  simp only [Level.h2_eq_iff]

/-- The heater with a commanded level, each stage stamped that it switches. -/
def Heater.switched (l : Level) (now : Tick) (h : Heater) : Heater :=
  { h with
    commanded := l
    h1Switch := if h.commanded = .l0 ↔ l = .l0 then h.h1Switch else some now
    h2Switch := if h.commanded = .l2 ↔ l = .l2 then h.h2Switch else some now }

theorem setCommanded_heater (l : Level) (s : State) :
    (setCommanded l s).heater = s.heater.switched l s.path.timeBase := by
  show { s.heater with
    commanded := l
    h1Switch := switchStamp s.heater.commanded.h1 l.h1 s.now s.heater.h1Switch
    h2Switch := switchStamp s.heater.commanded.h2 l.h2 s.now s.heater.h2Switch } = _
  rw [switchStamp_h1, switchStamp_h2]
  rfl

/-- The forced reduction, when it is due (04 R64). -/
theorem forceReduction_heater (s : State) :
    (forceReduction s).heater =
      if s.permitted.code < s.heater.commanded.code then s.heater.switched s.permitted s.path.timeBase
      else s.heater := by
  unfold forceReduction
  split
  · exact setCommanded_heater _ s
  · rfl

theorem beq_or_iff {a b : Bool} {p : Prop} {c : Bool} (h : (a = b) ↔ p) : ((a == b) || c) = true ↔ (¬p → c = true) := by
  rw [Bool.or_eq_true, beq_iff_eq, h]
  exact or_iff_not_imp_left

/-- The stages that a change switches have stood for RELAY_HOLD (04 R65, R66). -/
theorem holdsDone_iff (s : State) (l : Level) :
    s.holdsDone l = true ↔
      (¬(s.heater.commanded = .l0 ↔ l = .l0) →
        stampLasted s.path.timeBase s.heater.h1Switch (s.param .relayHold) = true) ∧
      (¬(s.heater.commanded = .l2 ↔ l = .l2) →
        stampLasted s.path.timeBase s.heater.h2Switch (s.param .relayHold) = true) := by
  rw [State.holdsDone, Bool.and_eq_true, beq_or_iff (Level.h1_eq_iff _ _), beq_or_iff (Level.h2_eq_iff _ _)]
  rfl

theorem reductionDue_iff (s : State) :
    s.reductionDue = true ↔
      s.targetLevel.code < s.heater.commanded.code ∧ s.heater.commanded.code ≤ s.permitted.code ∧
      s.holdsDone s.targetLevel = true := by
  simp only [State.reductionDue, Bool.and_eq_true, decide_eq_true_eq, and_assoc]

theorem upwardDue_iff (s : State) :
    s.upwardDue = true ↔
      s.heater.commanded.code < s.targetLevel.code ∧
      stampLasted s.path.timeBase s.heater.lastUp (10 * s.param .stageInterval) = true ∧
      s.holdsDone s.heater.commanded.oneHigher = true := by
  simp only [State.upwardDue, Bool.and_eq_true, decide_eq_true_eq, and_assoc]
  rfl

/-- The upward step (04 R66). -/
def stepUp (s : State) : State :=
  (setCommanded s.heater.commanded.oneHigher s).setHeater
    { (setCommanded s.heater.commanded.oneHigher s).heater with lastUp := some s.now }

theorem stageStep_of_reduction {s : State} (h : s.reductionDue = true) :
    stageStep s = setCommanded s.targetLevel s := if_pos h

theorem stageStep_of_upward {s : State} (h : s.upwardDue = true) : stageStep s = stepUp s := by
  have hno : ¬s.reductionDue = true := fun hred => by
    have hlt := ((upwardDue_iff s).mp h).1
    have hgt := ((reductionDue_iff s).mp hred).1
    omega
  rw [stageStep, if_neg hno, if_pos h]
  rfl

theorem stageStep_of_neither {s : State} (hred : ¬s.reductionDue = true) (hup : ¬s.upwardDue = true) :
    stageStep s = s := by
  rw [stageStep, if_neg hred, if_neg hup]

/-- A voluntary reduction (04 R65): the hold of the first stage counts when the target is L0, that of the second when the
level is L2. -/
theorem stageStep_below {s : State} (hlt : s.targetLevel.code < s.heater.commanded.code)
    (hle : s.heater.commanded.code ≤ s.permitted.code) :
    (stageStep s).heater =
      if (s.targetLevel = .l0 → stampLasted s.path.timeBase s.heater.h1Switch (s.param .relayHold) = true) ∧
          (s.heater.commanded = .l2 → stampLasted s.path.timeBase s.heater.h2Switch (s.param .relayHold) = true) then
        s.heater.switched s.targetLevel s.path.timeBase
      else s.heater := by
  have htwo := Level.code_le_two s.heater.commanded
  have h1 : ¬(s.heater.commanded = .l0 ↔ s.targetLevel = .l0) ↔ s.targetLevel = .l0 := by
    simp only [Level.eq_l0_iff]
    omega
  have h2 : ¬(s.heater.commanded = .l2 ↔ s.targetLevel = .l2) ↔ s.heater.commanded = .l2 := by
    simp only [Level.eq_l2_iff]
    omega
  have hholds := holdsDone_iff s s.targetLevel
  rw [h1, h2] at hholds
  have hup : ¬s.upwardDue = true := fun h => by
    have hgt := ((upwardDue_iff s).mp h).1
    omega
  split
  next hlasted =>
    rw [stageStep_of_reduction ((reductionDue_iff s).mpr ⟨hlt, hle, hholds.mpr hlasted⟩), setCommanded_heater]
  next hshort =>
    rw [stageStep_of_neither (fun h => hshort (hholds.mp ((reductionDue_iff s).mp h).2.2)) hup]

theorem stageStep_of_target {s : State} (h : s.targetLevel = s.heater.commanded) : stageStep s = s := by
  refine stageStep_of_neither (fun hred => ?_) (fun hup => ?_)
  · have hlt := ((reductionDue_iff s).mp hred).1
    rw [h] at hlt
    omega
  · have hlt := ((upwardDue_iff s).mp hup).1
    rw [h] at hlt
    omega

/-- The stage that an upward step switches: the first from L0, the second from L1 (04 R56). -/
theorem holdsDone_oneHigher_iff {s : State} (h : s.heater.commanded.code < 2) :
    s.holdsDone s.heater.commanded.oneHigher = true ↔
      (s.heater.commanded = .l0 → stampLasted s.path.timeBase s.heater.h1Switch (s.param .relayHold) = true) ∧
      (s.heater.commanded = .l1 → stampLasted s.path.timeBase s.heater.h2Switch (s.param .relayHold) = true) := by
  rw [holdsDone_iff]
  cases hlevel : s.heater.commanded with
  | l0 => simp [Level.oneHigher]
  | l1 => simp [Level.oneHigher]
  | l2 => rw [hlevel] at h; exact absurd h (by decide)

theorem stepUp_heater {s : State} (h : s.heater.commanded.code < 2) :
    (stepUp s).heater =
      { s.heater with
        commanded := if s.heater.commanded = .l0 then .l1 else .l2
        h1Switch := if s.heater.commanded = .l0 then some s.path.timeBase else s.heater.h1Switch
        h2Switch := if s.heater.commanded = .l1 then some s.path.timeBase else s.heater.h2Switch
        lastUp := some s.path.timeBase } := by
  show { (setCommanded s.heater.commanded.oneHigher s).heater with lastUp := some s.now } = _
  rw [setCommanded_heater]
  cases hlevel : s.heater.commanded with
  | l0 => simp [Heater.switched, hlevel, Level.oneHigher, State.now]
  | l1 => simp [Heater.switched, hlevel, Level.oneHigher, State.now]
  | l2 => rw [hlevel] at h; exact absurd h (by decide)

/-- An upward step (04 R66). -/
theorem stageStep_above {s : State} (hlt : s.heater.commanded.code < s.targetLevel.code) :
    (stageStep s).heater =
      if stampLasted s.path.timeBase s.heater.lastUp (10 * s.param .stageInterval) = true ∧
          (s.heater.commanded = .l0 → stampLasted s.path.timeBase s.heater.h1Switch (s.param .relayHold) = true) ∧
          (s.heater.commanded = .l1 → stampLasted s.path.timeBase s.heater.h2Switch (s.param .relayHold) = true) then
        { s.heater with
          commanded := if s.heater.commanded = .l0 then .l1 else .l2
          h1Switch := if s.heater.commanded = .l0 then some s.path.timeBase else s.heater.h1Switch
          h2Switch := if s.heater.commanded = .l1 then some s.path.timeBase else s.heater.h2Switch
          lastUp := some s.path.timeBase }
      else s.heater := by
  have htwo : s.heater.commanded.code < 2 := by
    have := Level.code_le_two s.targetLevel
    omega
  have hdue := upwardDue_iff s
  rw [holdsDone_oneHigher_iff htwo, and_iff_right hlt] at hdue
  split
  next h => rw [stageStep_of_upward (hdue.mpr h), stepUp_heater htwo]
  next h =>
    refine congrArg State.heater (stageStep_of_neither (fun hred => ?_) (fun hup => h (hdue.mp hup)))
    have hgt := ((reductionDue_iff s).mp hred).1
    omega

/-! ### The stager's turn (04 R56, R67) -/

theorem stageStep_stamps (s : State) : Stamps s (stageStep s) := by
  unfold stageStep
  split
  · exact setCommanded_stamps _ s
  · split
    · have hup : Stamps (setCommanded s.heater.commanded.oneHigher s) (stepUp s) :=
        ⟨rfl, .refl _ _ _, .refl _ _ _⟩
      exact (setCommanded_stamps _ s).trans hup
    · exact .refl s

theorem regulate_eq (s : State) :
    regulate s = s.setHeater { s.heater with wanted := (regulate s).heater.wanted } := by
  unfold regulate
  split
  · split <;> rfl
  · rfl

theorem regulate_lowers (s : State) : Lowers s (regulate s) := by
  rw [regulate_eq]
  exact .of_same rfl rfl rfl rfl rfl

theorem heaterSample_stamps (s : State) : Stamps s (heaterSample s) :=
  ((regulate_lowers s).trans (forceReduction_lowers _)).stamps.trans (stageStep_stamps _)

/-- Where the stager raises the level, by what it stood at before its step, and after which waits (04 R66). -/
theorem heaterSample_rises {u t : State} (ht : OffStage (heaterSample u) t)
    (hrise : u.heater.commanded.code < t.heater.commanded.code) :
    t.heater.commanded.code = u.heater.commanded.code + 1 ∧ t.heater.commanded.code ≤ t.heater.wanted.code ∧
    t.heater.lastUp = some u.path.timeBase ∧
    stampLasted u.path.timeBase u.heater.lastUp (10 * u.param .stageInterval) = true ∧
    (u.heater.commanded = .l0 → stampLasted u.path.timeBase u.heater.h1Switch (u.param .relayHold) = true) ∧
    (u.heater.commanded = .l1 → stampLasted u.path.timeBase u.heater.h2Switch (u.param .relayHold) = true) := by
  have hforced : Lowers u (forceReduction (regulate u)) := (regulate_lowers u).trans (forceReduction_lowers _)
  have hlastUp : (forceReduction (regulate u)).heater.lastUp = u.heater.lastUp :=
    (forceReduction_acts _).frame.lastUp.trans (by rw [regulate_eq u]; rfl)
  have hparam : ∀ p, (forceReduction (regulate u)).param p = u.param p := fun p => by
    rw [State.param, forceReduction_tables, regulate_eq u]
    rfl
  have hnow : (forceReduction (regulate u)).path.timeBase = u.path.timeBase := hforced.stamps.now
  revert hforced hlastUp hparam hnow
  rw [heaterSample] at ht
  revert ht
  generalize forceReduction (regulate u) = w
  intro ht hforced hlastUp hparam hnow
  have hfalls := hforced.falls
  have hafter := ht.lowers.falls
  by_cases hup : w.upwardDue = true
  · rw [stageStep_of_upward hup] at ht hafter
    obtain ⟨hlt, hlasted, hholds⟩ := (upwardDue_iff w).mp hup
    have htwo : w.heater.commanded.code < 2 := by
      have := Level.code_le_two w.targetLevel
      omega
    have hcode : (stepUp w).heater.commanded.code = w.heater.commanded.code + 1 := Level.oneHigher_code htwo
    have hwanted : t.heater.wanted = w.heater.wanted := ht.wanted
    have hlevel : w.heater.commanded = u.heater.commanded := Level.code_inj (by omega)
    obtain ⟨h1, h2⟩ := hforced.same hlevel
    rw [holdsDone_oneHigher_iff htwo, hlevel, h1, h2, hnow, hparam] at hholds
    rw [hlastUp, hnow, hparam] at hlasted
    have htarget := w.targetLevel_code
    refine ⟨by omega, ?_, ht.lastUp.trans (congrArg some hnow), hlasted, hholds⟩
    rw [hwanted]
    omega
  · have hkeeps : (stageStep w).heater.commanded.code ≤ w.heater.commanded.code := by
      by_cases hred : w.reductionDue = true
      · rw [stageStep_of_reduction hred]
        exact ((reductionDue_iff w).mp hred).1.le
      · rw [stageStep_of_neither hred hup]
    omega

end Sys2Proof.Machine

/-! # When the commanded level rises, and what a change stamps (04 R56, R64 to R67; log entry 21) -/

namespace Sys2Proof.Machine

/-! ### A rise (02 R23; 04 R66) -/

theorem RaisesNothing.falls {s t : State} (h : RaisesNothing s t) :
    t.heater.commanded.code ≤ s.heater.commanded.code := by
  obtain ⟨u, hheater, hlowers⟩ := h
  rw [← hheater]
  exact hlowers.falls

theorem exec_reset_commanded {high : Bool} {s t : State} (h : exec (.reset high) s = .next t) :
    t.heater.commanded = .l0 := by
  have hexec : exec (.reset high) s = .next (startTransmission (resetFrom high s)).refresh := rfl
  rw [hexec] at h
  have hmoves := (startTransmission_moves (resetFrom high s)).trans (refresh_moves _)
  rw [← Host.Outcome.next.inj h, hmoves]
  rfl

/-- The waits of an upward step, read before the SAMPLE that brings it. -/
theorem accepted_rises {s : State} {p : List Byte}
    (hrise : s.heater.commanded.code < (handOnCopy p (answerDrive (s.worked p))).refresh.heater.commanded.code) :
    (handOnCopy p (answerDrive (s.worked p))).refresh.heater.commanded.code = s.heater.commanded.code + 1 ∧
    (handOnCopy p (answerDrive (s.worked p))).refresh.heater.commanded.code ≤
      (handOnCopy p (answerDrive (s.worked p))).refresh.heater.wanted.code ∧
    (handOnCopy p (answerDrive (s.worked p))).refresh.heater.lastUp = some s.path.timeBase ∧
    stampLasted s.path.timeBase s.heater.lastUp (10 * s.param .stageInterval) = true ∧
    (s.heater.commanded = .l0 → stampLasted s.path.timeBase s.heater.h1Switch (s.param .relayHold) = true) ∧
    (s.heater.commanded = .l1 → stampLasted s.path.timeBase s.heater.h2Switch (s.param .relayHold) = true) := by
  obtain ⟨first, rest, horder⟩ := sampleOrder_split s.choice.sample
  obtain ⟨hfirst, -⟩ := sampleOrder_disjoint horder
  have hbefore := workedBy_offStage hfirst s p
  have hafter := answered_offStage horder p
  have hparam : ∀ q, (s.workedBy p first).param q = s.param q := fun q => by
    have hwork : MovesBlocks (s.accepting p) (s.workedBy p first) :=
      sampleBlocks_moves first s.choice.overcurrentLate (s.doorOpening p) (s.accepting p)
    have htables : (s.workedBy p first).tables = s.tables := by rw [hwork, ← accepting_tables s p]
    rw [State.param, htables]
    rfl
  have hnow := hbefore.lowers.stamps.now
  have hfalls := hbefore.lowers.falls
  obtain ⟨hstep, hwanted, hlastUp, hlasted, h1, h2⟩ := heaterSample_rises hafter (by omega)
  have hlevel : (s.workedBy p first).heater.commanded = s.heater.commanded := Level.code_inj (by omega)
  obtain ⟨hs1, hs2⟩ := hbefore.lowers.same hlevel
  rw [hnow, hbefore.lastUp, hparam] at hlasted
  rw [hlevel, hs1, hnow, hparam] at h1
  rw [hlevel, hs2, hnow, hparam] at h2
  exact ⟨by omega, hwanted, hlastUp.trans (congrArg some hnow), hlasted, h1, h2⟩

/-! ### Every change is stamped (04 R56) -/

theorem exec_stamps {c : Instr} {s t : State} (hc : ∀ high, c ≠ .reset high) (h : exec c s = .next t) :
    ∃ u, u.heater = s.heater ∧ Stamps u t := by
  rcases exec_raises hc h with ⟨u, hheater, hlowers⟩ | ⟨-, p, -, rfl⟩
  · exact ⟨u, hheater, hlowers.stamps⟩
  · obtain ⟨first, rest, horder⟩ := sampleOrder_split s.choice.sample
    obtain ⟨hfirst, -⟩ := sampleOrder_disjoint horder
    exact ⟨s, rfl, ((workedBy_offStage hfirst s p).lowers.stamps.trans (heaterSample_stamps _)).trans
      (answered_offStage horder p).lowers.stamps⟩

/-- What `Stamps` says, by levels and at the count that the command leaves. -/
theorem Stamps.switches {s t u : State} (hheater : u.heater = s.heater) (h : Stamps u t) :
    (¬(s.heater.commanded = .l0 ↔ t.heater.commanded = .l0) → t.heater.h1Switch = some t.path.timeBase) ∧
    (¬(s.heater.commanded = .l2 ↔ t.heater.commanded = .l2) → t.heater.h2Switch = some t.path.timeBase) ∧
    (t.heater.h1Switch = s.heater.h1Switch ∨ t.heater.h1Switch = some t.path.timeBase) ∧
    (t.heater.h2Switch = s.heater.h2Switch ∨ t.heater.h2Switch = some t.path.timeBase) := by
  obtain ⟨hnow, ⟨h1, k1⟩, ⟨h2, k2⟩⟩ := h
  rw [hheater] at h1 k1 h2 k2
  rw [hnow]
  exact ⟨fun hne => h1 (mt (Level.h1_eq_iff _ _).mp hne), fun hne => h2 (mt (Level.h2_eq_iff _ _).mp hne), k1, k2⟩

/-! ### A RAMP that was too slow (04 R62, R67; log entry 21) -/

/-- The drum gives no airflow, whatever its tacho is at this SAMPLE. -/
def State.airless (s : State) : Prop := s.drum.state ≠ .turning ∧ (s.drum.state = .ramp → s.aux.airflowWaits = true)

theorem permitted_of_airless {s : State} (h : s.airless) : s.permitted = .l0 := by
  obtain ⟨hturning, hramp⟩ := h
  have hair : s.airflow.code = 0 := by
    rw [airflow_code, if_neg]
    rintro (h | ⟨h, -, hwaits⟩)
    · exact hturning h
    · rw [hramp h] at hwaits
      exact Bool.false_ne_true hwaits.symm
  rw [Level.eq_l0_iff, permitted_code, hair]
  omega

/-- The stager forces the level to L0 where there is no airflow, and steps no higher at that SAMPLE (04 R64, R66). -/
theorem heaterSample_of_airless {s : State} (h : s.airless) : (heaterSample s).heater.commanded = .l0 := by
  have hregulated : (regulate s).permitted = .l0 := by
    rw [regulate_eq]
    exact permitted_of_airless h
  have hforced : (forceReduction (regulate s)).heater.commanded = .l0 := by
    rw [forceReduction_heater, hregulated]
    split
    · rfl
    next hno => rw [Level.eq_l0_iff]; exact Nat.le_zero.mp (Nat.not_lt.mp hno)
  have hpermitted : (forceReduction (regulate s)).permitted = .l0 := by
    refine permitted_of_airless ?_
    have hdrum : (forceReduction (regulate s)).drum = s.drum := by rw [forceReduction_drum, regulate_eq]; rfl
    have haux : (forceReduction (regulate s)).aux = s.aux := by rw [forceReduction_aux, regulate_eq]; rfl
    unfold State.airless
    rw [hdrum, haux]
    exact h
  have htarget : (forceReduction (regulate s)).targetLevel = (forceReduction (regulate s)).heater.commanded := by
    rw [hforced, Level.eq_l0_iff, State.targetLevel_code, hpermitted]
    exact Nat.min_zero _
  rw [heaterSample, stageStep_of_target htarget, hforced]

theorem actOn_notTurning (w : Demand) {s : State} (h : s.drum.state ≠ .turning) : (actOn w s).drum.state ≠ .turning := by
  have hleave : (leaveRamp s).drum.state ≠ .turning := by
    unfold leaveRamp
    split <;> simp [enterDwell, enterDecel]
  unfold actOn
  split
  · split
    · exact h
    · simp [enterRamp]
    · simp [enterRamp]
    · simp [enterDwell]
  · split
    · split
      · exact h
      · exact hleave
    · exact hleave
  next hstate => exact absurd hstate h
  · exact h
  · split <;> exact h

theorem reselect_notTurning (n : Bool) {s : State} (h : s.drum.state ≠ .turning) :
    (reselect n s).drum.state ≠ .turning := by
  have hnamed : s.named.drum.state ≠ .turning := by rwa [named_drum s]
  rw [reselect_eq]
  split
  · unfold meetWinner
    split
    · exact hnamed
    · exact actOn_notTurning _ hnamed
  · exact hnamed

theorem Act.notTurning {s t : State} (h : Act s t) (hs : s.drum.state ≠ .turning) : t.drum.state ≠ .turning := by
  cases h with
  | force => rwa [forceReduction_drum]
  | reselect n => exact reselect_notTurning n hs
  | walk hwalk => rwa [hwalk]
  | tell k a => rwa [raiseEvent_drum]
  | cycle c => exact hs
  | fault f => exact hs
  | estimate m hm => exact hs

theorem Acts.notTurning {s t : State} (h : Acts s t) (hs : s.drum.state ≠ .turning) : t.drum.state ≠ .turning :=
  h.lift (R := fun s t => s.drum.state ≠ .turning → t.drum.state ≠ .turning) (fun _ => id)
    (fun h k hs => k (h hs)) Act.notTurning hs

/-- While the drum's reaction waits, its state and the airflow of a slow RAMP wait with it (05 R85; 04 R67). -/
def KeepsWaiting (s t : State) : Prop :=
  s.aux.drumDeferred = true →
    t.aux.drumDeferred = true ∧ t.drum.state = s.drum.state ∧ t.aux.airflowWaits = s.aux.airflowWaits

theorem KeepsWaiting.refl (s : State) : KeepsWaiting s s := fun h => ⟨h, rfl, rfl⟩

theorem KeepsWaiting.trans {s t u : State} (h : KeepsWaiting s t) (k : KeepsWaiting t u) : KeepsWaiting s u := by
  intro hs
  obtain ⟨ht, hstate, hwaits⟩ := h hs
  obtain ⟨hu, kstate, kwaits⟩ := k ht
  exact ⟨hu, kstate.trans hstate, kwaits.trans hwaits⟩

theorem Acts.keepsWaiting {s t : State} (h : Acts s t) : KeepsWaiting s t := fun hs =>
  ⟨h.frame.drumDeferred.trans hs, h.drum_of_deferred hs, h.frame.airflowWaits⟩

theorem sampleBlock_keepsWaiting {b : SampleBlock} (hd : b ≠ .drum) (hh : b ≠ .heater) (s0 : State)
    (opening late : Bool) (s : State) : KeepsWaiting s (sampleBlock s0 opening late b s) := by
  cases b with
  | limits => exact (limitsSample_acts s).keepsWaiting
  | moisture => exact (moistureSample_acts s0 s).keepsWaiting
  | contacts =>
    have hstep : KeepsWaiting s (stepContacts s) := by
      unfold stepContacts
      split
      · exact .refl s
      · exact fun h => ⟨h, rfl, rfl⟩
    exact hstep.trans ((handCondition_acts _ _ _).trans (handCondition_acts _ _ _)).keepsWaiting
  | heater => exact absurd rfl hh
  | drum => exact absurd rfl hd
  | cycle => exact (cycleSample_acts opening s).keepsWaiting

theorem sampleWork_keepsWaiting {order : List SampleBlock} (hd : .drum ∉ order) (hh : .heater ∉ order) (s0 : State)
    (opening late : Bool) (s : State) : KeepsWaiting s (sampleWork s0 opening late order s) := by
  induction order generalizing s with
  | nil => exact .refl s
  | cons b bs ih =>
    have hbd : b ≠ .drum := fun e => hd (by simp [e])
    have hbh : b ≠ .heater := fun e => hh (by simp [e])
    exact (sampleBlock_keepsWaiting hbd hbh s0 opening late s).trans
      (ih (fun hmem => hd (List.mem_cons_of_mem b hmem)) (fun hmem => hh (List.mem_cons_of_mem b hmem)) _)

/-- A good frame does not bring a RAMP into TURNING, and leaves a RAMP that was too slow too slow. -/
theorem goodFrame_slowRamp {s : State} (hstate : s.drum.state = .ramp) (hslow : s.speed < s.param .airflowSpeed) :
    (goodFrame .field s).drum.state ≠ .turning ∧
    ((goodFrame .field s).drum.state = .ramp → (goodFrame .field s).slowRamp = true) := by
  have hport : ∀ n, (s.portAfter .field n).drum.state ≠ .turning := fun n => by
    rw [show (s.portAfter .field n).drum = s.drum from rfl, hstate]
    decide
  have hspeed : (goodFrame .field s).speed = s.speed := by rw [State.speed, State.tacho, goodFrame_path]; rfl
  refine ⟨?_, fun hramp => ?_⟩
  · rw [goodFrame_eq]
    split
    · exact (goAway_acts _ _).notTurning (hport _)
    · exact hport _
  · rw [State.slowRamp, hramp, hspeed, goodFrame_param, decide_eq_true hslow]
    rfl

/-- From the acceptance on there is no airflow, until the drum reacts. -/
theorem accepting_airless {s : State} (hstate : s.drum.state = .ramp) (hslow : s.speed < s.param .airflowSpeed)
    (p : List Byte) : (s.accepting p).airless ∧ (s.accepting p).aux.drumDeferred = true := by
  obtain ⟨hturning, hramp⟩ := goodFrame_slowRamp hstate hslow
  obtain ⟨hdeferred, hsame, hwaits⟩ := (goAway_acts .fieldSilent
    ((decodeSample p (goodFrame .field s).dropChoice).setAux
      { (decodeSample p (goodFrame .field s).dropChoice).aux with
        drumDeferred := true, deferred := [], airflowWaits := (goodFrame .field s).dropChoice.slowRamp })).keepsWaiting rfl
  have hdrum : (s.accepting p).drum.state = (goodFrame .field s).drum.state := hsame
  have haux : (s.accepting p).aux.airflowWaits = (goodFrame .field s).slowRamp := hwaits
  exact ⟨⟨by rwa [hdrum], fun h => haux.trans (hramp (hdrum.symm.trans h))⟩, hdeferred⟩

/-- The stager's turn comes before the drum's, so it finds no airflow (04 R67). -/
theorem slowRamp_commanded {s : State} {first rest : List SampleBlock} (hstate : s.drum.state = .ramp)
    (hslow : s.speed < s.param .airflowSpeed)
    (horder : fillOrder SampleBlock.all s.choice.sample = first ++ .heater :: rest) (hdrum : .drum ∈ rest) (p : List Byte) :
    (heaterSample (s.workedBy p first)).heater.commanded = .l0 := by
  obtain ⟨hfirst, -, -, -, hdisjoint⟩ := sampleOrder_disjoint horder
  have hbefore : .drum ∉ first := fun hmem => hdisjoint hmem hdrum
  obtain ⟨⟨hturning, hramp⟩, hdeferred⟩ := accepting_airless hstate hslow p
  have hwork : KeepsWaiting (s.accepting p) (s.workedBy p first) :=
    (reselect_acts false _).keepsWaiting.trans (sampleWork_keepsWaiting hbefore hfirst _ _ _ _)
  obtain ⟨-, hsame, hwaits⟩ := hwork hdeferred
  exact heaterSample_of_airless ⟨by rwa [hsame], fun h => hwaits.trans (hramp (hsame.symm.trans h))⟩

theorem slowRamp_falls {s t : State} {p : List Byte} {first rest : List SampleBlock} (hstate : s.drum.state = .ramp)
    (hslow : s.speed < s.param .airflowSpeed)
    (horder : fillOrder SampleBlock.all s.choice.sample = first ++ .heater :: rest) (hdrum : .drum ∈ rest)
    (h : exec (.sample p) s = .next t) : t.heater.commanded.code ≤ s.heater.commanded.code := by
  rcases fieldFrame_raises ⟨0x21, p⟩ s with hraise | ⟨-, haccepts, -⟩
  · rw [exec_sample] at h
    rw [← Host.Outcome.next.inj h]
    exact hraise.refresh.falls
  · rw [exec_sample_of_accepts haccepts] at h
    rw [← Host.Outcome.next.inj h]
    have hfalls := (answered_offStage horder p).lowers.falls
    rw [slowRamp_commanded hstate hslow horder hdrum p] at hfalls
    exact hfalls.trans (Nat.zero_le _)

end Sys2Proof.Machine

/-! # A SAMPLE on which no record changes (09 R157, R158; 02 R22)

An arising or a going that acts changes the record of its source, and each source is handed over once on a SAMPLE. So where
no record has changed at the end, no block has handed over anything. -/

namespace Sys2Proof.Machine

/-! ### Handings that do nothing -/

/-- The record of a source is ACTIVE exactly while its condition is present (09 R157). -/
def State.lawful (s : State) (x : Source) : Prop := s.present x = true ↔ (s.record x).state = .active

theorem arise_still {x : Source} {s : State} (hlaw : s.lawful x) (h : (arise x s).record x = s.record x) :
    arise x s = s := by
  cases hpresent : s.present x with
  | true => rw [arise, if_pos hpresent]
  | false =>
    rw [arise_record, if_pos ⟨rfl, hpresent⟩] at h
    have hactive := hlaw.mpr (by rw [← h])
    rw [hpresent] at hactive
    exact absurd hactive Bool.false_ne_true

theorem goAway_still {x : Source} {s : State} (hlaw : s.lawful x) (h : (goAway x s).record x = s.record x) :
    goAway x s = s := by
  cases hpresent : s.present x with
  | false => exact goAway_of_absent hpresent
  | true =>
    have hactive := hlaw.mp hpresent
    rw [goAway_record, if_pos ⟨rfl, hpresent, hactive⟩] at h
    have hstate := congrArg FaultRecord.state h
    rw [hactive] at hstate
    dsimp only at hstate
    split at hstate <;> exact absurd hstate (by decide)

/-- An operation hands over the conditions of some sources, and is nothing where their records stand. -/
structure HandsStill (xs : List Source) (f : State → State) : Prop where
  hands : ∀ s, Hands xs s (f s)
  still : ∀ s, (∀ x ∈ xs, s.lawful x) → (∀ x ∈ xs, (f s).record x = s.record x) → f s = s

theorem HandsStill.id (xs : List Source) : HandsStill xs fun s => s := ⟨.refl xs, fun _ _ _ => rfl⟩

theorem HandsStill.seq {xs ys : List Source} {f g : State → State} (hf : HandsStill xs f) (hg : HandsStill ys g)
    (hdisjoint : ∀ x ∈ xs, x ∉ ys) : HandsStill (xs ++ ys) fun s => g (f s) where
  hands s := ((hf.hands s).mono (List.subset_append_left xs ys)).trans ((hg.hands _).mono (List.subset_append_right xs ys))
  still s hlaw h := by
    have hfirst : f s = s := by
      refine hf.still s (fun x hx => hlaw x (List.mem_append_left ys hx)) fun x hx => ?_
      rw [← (hg.hands (f s)).record x (hdisjoint x hx)]
      exact h x (List.mem_append_left ys hx)
    rw [hfirst] at h ⊢
    exact hg.still s (fun x hx => hlaw x (List.mem_append_right xs hx)) fun x hx => h x (List.mem_append_right xs hx)

theorem arise_handsStill (x : Source) : HandsStill [x] (arise x) :=
  ⟨fun s => arise_hands (List.mem_singleton_self x) s, fun _ hlaw h =>
    arise_still (hlaw x (List.mem_singleton_self x)) (h x (List.mem_singleton_self x))⟩

theorem goAway_handsStill (x : Source) : HandsStill [x] (goAway x) :=
  ⟨fun s => goAway_hands (List.mem_singleton_self x) s, fun _ hlaw h =>
    goAway_still (hlaw x (List.mem_singleton_self x)) (h x (List.mem_singleton_self x))⟩

theorem handCondition_handsStill (x : Source) (b : Bool) : HandsStill [x] (handCondition x b) := by
  cases b with
  | true => exact arise_handsStill x
  | false => exact goAway_handsStill x

theorem thresholdCheck_handsStill (x : Source) (l : LimitEntry) (t : Temperature) :
    HandsStill [x] (thresholdCheck x l t) := by
  refine ⟨fun s => thresholdCheck_hands (List.mem_singleton_self x) l t s, fun s hlaw h => ?_⟩
  revert h
  unfold thresholdCheck
  split
  · split
    · split
      · exact (goAway_handsStill x).still s hlaw
      · exact fun _ => rfl
    · split
      · exact (arise_handsStill x).still s hlaw
      · exact fun _ => rfl
  · exact fun _ => rfl

/-! ### The blocks' handings (02 R22) -/

/-- The checks of one SAMPLE, its readings and its limits given (09 R155). -/
def limitsChecks (r : Readings) (f : FieldFlags) (exhaust inlet : LimitEntry) (s : State) : State :=
  handCondition .fuseOpen (!f.fuseIntact) (handCondition .inletSensor (!r.inlet.valid)
    (handCondition .exhaustSensor (!r.exhaust.valid)
      (thresholdCheck .inletHigh inlet r.inlet (thresholdCheck .exhaustHigh exhaust r.exhaust s))))

theorem limitsChecks_handsStill (r : Readings) (f : FieldFlags) (exhaust inlet : LimitEntry) :
    HandsStill SampleBlock.limits.sources (limitsChecks r f exhaust inlet) :=
  ((((thresholdCheck_handsStill .exhaustHigh exhaust r.exhaust).seq (thresholdCheck_handsStill .inletHigh inlet r.inlet)
    (by decide)).seq (handCondition_handsStill .exhaustSensor _) (by decide)).seq
    (handCondition_handsStill .inletSensor _) (by decide)).seq (handCondition_handsStill .fuseOpen _) (by decide)

theorem limitsSample_still {s : State} (hlaw : ∀ x ∈ SampleBlock.limits.sources, s.lawful x)
    (h : ∀ x ∈ SampleBlock.limits.sources, (limitsSample s).record x = s.record x) : limitsSample s = s := by
  revert h
  unfold limitsSample
  split
  next r f _ _ => exact (limitsChecks_handsStill r f (s.limitAt 0) (s.limitAt 1)).still s hlaw
  all_goals exact fun _ => rfl

theorem contactsSample_still {s : State} (hlaw : ∀ x ∈ SampleBlock.contacts.sources, s.lawful x)
    (h : ∀ x ∈ SampleBlock.contacts.sources, (contactsSample s).record x = s.record x) :
    contactsSample s = stepContacts s := by
  have hstep := stepContacts_hands s []
  have hhandings := (handCondition_handsStill .heaterNoclose (stepContacts s).noCloseFlagged).seq
    (handCondition_handsStill .heaterWeld (stepContacts s).weldFlagged) (by decide)
  refine hhandings.still (stepContacts s) (fun x hx => ?_) fun x hx => ?_
  · unfold State.lawful
    rw [hstep.present x (List.not_mem_nil), hstep.record x (List.not_mem_nil)]
    exact hlaw x hx
  · rw [hstep.record x (List.not_mem_nil)]
    exact h x hx

theorem handOvercurrent_still {h : Option Bool} {s : State} (hlaw : s.lawful .overcurrent)
    (hrecord : (handOvercurrent h s).record .overcurrent = s.record .overcurrent) : handOvercurrent h s = s := by
  cases h with
  | none => rfl
  | some b =>
    exact (handCondition_handsStill .overcurrent b).still s (fun x hx => by rwa [List.mem_singleton.mp hx])
      fun x hx => by rwa [List.mem_singleton.mp hx]

/-! ### What the blocks move where no record changes -/

/-- Only what the blocks note for themselves has moved: the estimator's values but the lowest level, the contact runs, the
overcurrent run and the second's extremes, and the marks of the drum's reaction. -/
def MovesSteady (s t : State) : Prop :=
  t = { s with
        moisture := { t.moisture with lowest := s.moisture.lowest }
        heater := { s.heater with h1 := t.heater.h1, h2 := t.heater.h2 }
        drum :=
          { s.drum with ocRun := t.drum.ocRun, currentMin := t.drum.currentMin, currentMax := t.drum.currentMax }
        aux := { s.aux with drumDeferred := t.aux.drumDeferred, airflowWaits := t.aux.airflowWaits } }

theorem MovesSteady.refl (s : State) : MovesSteady s s := rfl

theorem MovesSteady.trans {s t u : State} (h : MovesSteady s t) (k : MovesSteady t u) : MovesSteady s u := by
  unfold MovesSteady at *; rw [k, h]

theorem stepContacts_steady (s : State) : MovesSteady s (stepContacts s) := by
  unfold stepContacts
  split
  · exact .refl s
  · exact rfl

theorem setMoisture_steady (s : State) {m : Moisture} (h : m.lowest = s.moisture.lowest) :
    MovesSteady s (s.setMoisture m) := by
  unfold MovesSteady
  rw [State.setMoisture_moisture, ← h]
  rfl

/-- In TURNING with no reaction waiting the drum's steps on a SAMPLE are its marks alone (05 R85). -/
theorem drumSteps_of_turning {s : State} (hturning : s.drum.state = .turning) (hdeferred : s.aux.deferred = []) :
    drumEndTest (stepSetpoint (reactDrum s)) = s.setAux { s.aux with drumDeferred := false, airflowWaits := false } := by
  have hreact : reactDrum s = s.setAux { s.aux with drumDeferred := false, airflowWaits := false } := by
    unfold reactDrum
    rw [hdeferred, List.foldl_nil, ← hdeferred]
  have hstep : stepSetpoint (reactDrum s) = reactDrum s := by
    have hstate : (reactDrum s).drum.state = .turning := by rw [hreact]; exact hturning
    unfold stepSetpoint
    rw [hstate]
  have hend : drumEndTest (reactDrum s) = reactDrum s := by
    have hstate : (reactDrum s).drum.state = .turning := by rw [hreact]; exact hturning
    unfold drumEndTest
    rw [hstate]
  rw [hstep, hend, hreact]

/-- The drum's steps hand over MOTOR_STALL and DRUM_OVERRUN alone (05 R87, R88). -/
theorem drumSteps_hands (s : State) :
    Hands [.motorStall, .drumOverrun] s (drumEndTest (stepSetpoint (reactDrum s))) := by
  have hturning : ∀ t, Hands [.motorStall, .drumOverrun] t (enterTurning t) := fun t => by
    have hset := (setDrum_hands t { t.drum with state := .turning, turningEntry := some t.now, spinup := none }
      [.motorStall, .drumOverrun]).trans ((setWalker_movesPhase _ { t.walker with score := 0 }).hands _)
    exact (hset.trans ((forceReduction_moves _).drum.hands _)).trans (goAway_hands (by decide) _)
  have hend : ∀ t, Hands [.motorStall, .drumOverrun] t (drumEndTest t) := fun t => by
    unfold drumEndTest
    split
    · split
      · exact hturning t
      · exact .refl _ t
    · split
      · exact ((enterDwell_moves t).hands _).trans (goAway_hands (by decide) _)
      · exact .refl _ t
    all_goals exact .refl _ t
  exact ((reactDrum_hands s _).trans ((stepSetpoint_moves _).hands _)).trans (hend _)

/-- The hand-over of OVERCURRENT and the drum's steps, in either order (05 R85, R89). -/
def drumWork (late : Bool) (h : Option Bool) (s : State) : State :=
  if late then handOvercurrent h (drumEndTest (stepSetpoint (reactDrum s)))
  else drumEndTest (stepSetpoint (reactDrum (handOvercurrent h s)))

/-- The overcurrent run and hand-over of a SAMPLE (05 R89). -/
def State.overcurrentStep (s : State) : Nat × Option Bool :=
  overcurrentNext (s.present .overcurrent) (s.limitAt 2) s.drum.ocRun ((s.path.readings.map Readings.current).getD 0)

/-- The state with the motor current of a SAMPLE noted (05 R89, R90). -/
def State.currentNoted (s : State) : State :=
  noteCurrent ((s.path.readings.map Readings.current).getD 0) (s.setDrum { s.drum with ocRun := s.overcurrentStep.1 })

theorem drumSample_eq (late : Bool) (s : State) :
    drumSample late s = drumWork late s.overcurrentStep.2 s.currentNoted := by cases late <;> rfl

theorem drumWork_steady {late : Bool} {h : Option Bool} {s : State} (hturning : s.drum.state = .turning)
    (hdeferred : s.aux.deferred = []) (hlaw : s.lawful .overcurrent)
    (hrecord : (drumWork late h s).record .overcurrent = s.record .overcurrent) :
    drumWork late h s = s.setAux { s.aux with drumDeferred := false, airflowWaits := false } := by
  revert hrecord
  cases late with
  | true =>
    show (handOvercurrent h (drumEndTest (stepSetpoint (reactDrum s)))).record .overcurrent = _ →
      handOvercurrent h (drumEndTest (stepSetpoint (reactDrum s))) = _
    rw [drumSteps_of_turning hturning hdeferred]
    exact fun hrecord => handOvercurrent_still hlaw hrecord
  | false =>
    show (drumEndTest (stepSetpoint (reactDrum (handOvercurrent h s)))).record .overcurrent = _ →
      drumEndTest (stepSetpoint (reactDrum (handOvercurrent h s))) = _
    rw [(drumSteps_hands (handOvercurrent h s)).record .overcurrent (by decide)]
    intro hrecord
    rw [handOvercurrent_still hlaw hrecord, drumSteps_of_turning hturning hdeferred]

theorem drumSample_steady {late : Bool} {s : State} (hturning : s.drum.state = .turning)
    (hdeferred : s.aux.deferred = []) (hlaw : s.lawful .overcurrent)
    (h : (drumSample late s).record .overcurrent = s.record .overcurrent) : MovesSteady s (drumSample late s) := by
  have hnote : MovesSteady s s.currentNoted := rfl
  rw [drumSample_eq] at h ⊢
  rw [drumWork_steady (s := s.currentNoted) hturning hdeferred hlaw h]
  exact hnote.trans rfl

/-- A frame that is not all-short has a contact that is not short. -/
theorem exists_of_not_allShort {es : List Nat} (h : ¬allShortFrame es = true) : ∃ e ∈ es, e ≠ 4095 := by
  by_contra hall
  simp only [not_exists, not_and, not_not] at hall
  refine h (decide_eq_true ?_)
  rw [shortsOf, List.filter_eq_self.mpr fun e he => decide_eq_true (hall e he)]

/-- Without DRY the estimator's work moves its own values, where ELECTRODE_SHORT's record stands (03 R37 to R43). -/
theorem moistureSample_steady {s0 s : State} (hdry : ¬s0.signalsDry) (hlaw : s.lawful .electrodeShort)
    (h : (moistureSample s0 s).record .electrodeShort = s.record .electrodeShort) :
    MovesSteady s (moistureSample s0 s) := by
  have hset : ∀ m : Moisture, m.lowest = s.moisture.lowest → MovesSteady s (s.setMoisture m) := fun _ hm =>
    setMoisture_steady s hm
  have harise : ∀ m : Moisture, m.lowest = s.moisture.lowest →
      (arise .electrodeShort (s.setMoisture m)).record .electrodeShort = s.record .electrodeShort →
      MovesSteady s (arise .electrodeShort (s.setMoisture m)) := fun m hm h => by
    rw [arise_still (s := s.setMoisture m) hlaw h]
    exact hset m hm
  have hgoAway : ∀ m : Moisture, m.lowest = s.moisture.lowest →
      (goAway .electrodeShort (s.setMoisture m)).record .electrodeShort = s.record .electrodeShort →
      MovesSteady s (goAway .electrodeShort (s.setMoisture m)) := fun m hm h => by
    rw [goAway_still (s := s.setMoisture m) hlaw h]
    exact hset m hm
  revert h
  unfold moistureSample
  split
  next hestimates =>
    split
    next =>
      unfold allShortWork
      dsimp only
      split
      · exact harise _ rfl
      · exact fun _ => hset _ rfl
    next hmixed =>
      have hno : s0.dryDue = false := by
        simp only [State.estimates, Bool.and_eq_true, decide_eq_true_eq, Bool.not_eq_true'] at hestimates
        obtain ⟨⟨hactive, hturning⟩, hpass⟩ := hestimates
        rw [← Bool.not_eq_true]
        intro hdue
        simp only [State.dryDue, Bool.and_eq_true, decide_eq_true_eq] at hdue
        exact hdry ⟨hactive, hturning, hpass, hdue.1, exists_of_not_allShort hmixed, hdue.2⟩
      unfold contactWork
      rw [hno]
      exact hgoAway _ rfl
  next => exact fun _ => .refl s

/-- A block's work in TURNING, with the door closed and no DRY, where the records of its sources stand. -/
theorem sampleBlock_steady {b : SampleBlock} (hb : b ≠ .heater) {s0 s : State} {late : Bool} (hdry : ¬s0.signalsDry)
    (hturning : s.drum.state = .turning) (hdeferred : s.aux.deferred = []) (hlaw : ∀ x ∈ b.sources, s.lawful x)
    (h : ∀ x ∈ b.sources, (sampleBlock s0 false late b s).record x = s.record x) :
    MovesSteady s (sampleBlock s0 false late b s) := by
  cases b with
  | limits =>
    have hstill : sampleBlock s0 false late .limits s = s := limitsSample_still hlaw h
    rw [hstill]
    exact .refl s
  | moisture => exact moistureSample_steady hdry (hlaw _ (by decide)) (h _ (by decide))
  | contacts =>
    have hstill : sampleBlock s0 false late .contacts s = stepContacts s := contactsSample_still hlaw h
    rw [hstill]
    exact stepContacts_steady s
  | heater => exact absurd rfl hb
  | drum => exact drumSample_steady hturning hdeferred (hlaw _ (by decide)) (h _ (by decide))
  | cycle => exact .refl s

/-! ### The work of an order of blocks -/

theorem SampleBlock.sources_disjoint {b c : SampleBlock} (h : b ≠ c) : ∀ x ∈ b.sources, x ∉ c.sources := by
  revert h
  cases b <;> cases c <;> decide

theorem sampleWork_cons (s0 : State) (opening late : Bool) (b : SampleBlock) (rest : List SampleBlock) (s : State) :
    sampleWork s0 opening late (b :: rest) s =
      sampleWork s0 opening late rest (sampleBlock s0 opening late b s) := rfl

/-- The blocks of an order leave the records of another block's sources. -/
theorem sampleWork_record {b : SampleBlock} {order : List SampleBlock} (hb : b ∉ order) {x : Source} (hx : x ∈ b.sources)
    (s0 : State) (opening late : Bool) (s : State) : (sampleWork s0 opening late order s).record x = s.record x := by
  induction order generalizing s with
  | nil => rfl
  | cons c cs ih =>
    have hne : b ≠ c := fun e => hb (by simp [e])
    rw [sampleWork_cons, ih (fun hmem => hb (List.mem_cons_of_mem c hmem)),
      (sampleBlock_hands s0 opening late c s).record x (SampleBlock.sources_disjoint hne x hx)]

theorem sampleWork_steady {order : List SampleBlock} {s0 s : State} {late : Bool} (hnodup : order.Nodup)
    (hheater : .heater ∉ order) (hdry : ¬s0.signalsDry) (hturning : s.drum.state = .turning)
    (hdeferred : s.aux.deferred = []) (hlaw : ∀ x, s.lawful x)
    (h : ∀ b ∈ order, ∀ x ∈ b.sources, (sampleWork s0 false late order s).record x = s.record x) :
    MovesSteady s (sampleWork s0 false late order s) := by
  induction order generalizing s with
  | nil => exact .refl s
  | cons b bs ih =>
    obtain ⟨hb, hbs⟩ := List.nodup_cons.mp hnodup
    have hne : b ≠ .heater := fun e => hheater (by simp [e])
    have hrest : .heater ∉ bs := fun hmem => hheater (List.mem_cons_of_mem b hmem)
    have hblock : MovesSteady s (sampleBlock s0 false late b s) := by
      refine sampleBlock_steady hne hdry hturning hdeferred (fun x _ => hlaw x) fun x hx => ?_
      rw [← sampleWork_record hb hx s0 false late]
      exact h b List.mem_cons_self x hx
    have hfaults : (sampleBlock s0 false late b s).faults = s.faults := by rw [hblock]
    rw [sampleWork_cons] at h ⊢
    refine hblock.trans (ih hbs hrest ?_ ?_ ?_ ?_)
    · rw [hblock]; exact hturning
    · rw [hblock]; exact hdeferred
    · intro x
      unfold State.lawful State.present State.record
      rw [hfaults]
      exact hlaw x
    · intro c hc x hx
      rw [h c (List.mem_cons_of_mem b hc) x hx, State.record, State.record, hfaults]

end Sys2Proof.Machine

/-! # The stager's work with a SAMPLE's own readings (04 R57, R63 to R67) -/

namespace Sys2Proof.Machine

/-! ### What the stager reads -/

/-- The heaters agree but for the contact runs. -/
def Heater.alike (h k : Heater) : Prop := k = { h with h1 := k.h1, h2 := k.h2 }

theorem Heater.alike_switched {h k : Heater} (hk : h.alike k) (l : Level) (now : Tick) :
    (h.switched l now).alike (k.switched l now) := by
  unfold Heater.alike at *
  rw [hk]
  rfl

/-- Two states between which the stager sees no difference. -/
structure SameStage (s t : State) : Prop where
  now       : t.path.timeBase = s.path.timeBase
  param     : ∀ p, t.param p = s.param p
  cycle     : t.cycle = s.cycle
  persist   : t.walker.persist = s.walker.persist
  exhaust   : t.exhaust? = s.exhaust?
  permitted : t.permitted = s.permitted
  heater    : s.heater.alike t.heater

namespace SameStage

variable {s t : State}

theorem wanted (h : SameStage s t) : t.heater.wanted = s.heater.wanted := by rw [h.heater]
theorem commanded (h : SameStage s t) : t.heater.commanded = s.heater.commanded := by rw [h.heater]
theorem h1Switch (h : SameStage s t) : t.heater.h1Switch = s.heater.h1Switch := by rw [h.heater]
theorem h2Switch (h : SameStage s t) : t.heater.h2Switch = s.heater.h2Switch := by rw [h.heater]
theorem lastUp (h : SameStage s t) : t.heater.lastUp = s.heater.lastUp := by rw [h.heater]

/-- Writes of the heater that agree are seen alike. -/
theorem setHeater (h : SameStage s t) {g k : Heater} (hgk : g.alike k) : SameStage (s.setHeater g) (t.setHeater k) :=
  ⟨h.now, h.param, h.cycle, h.persist, h.exhaust, h.permitted, hgk⟩

theorem regulate (h : SameStage s t) : SameStage (regulate s) (regulate t) := by
  have hwanted : (Machine.regulate t).heater.wanted = (Machine.regulate s).heater.wanted := by
    unfold Machine.regulate
    rw [h.cycle, h.exhaust]
    split
    · cases s.exhaust? with
      | none => exact h.wanted
      | some x =>
        have hcap : t.phaseCap = s.phaseCap := by rw [State.phaseCap, h.persist, h.cycle]; rfl
        show zoneLevel _ _ _ _ _ = zoneLevel _ _ _ _ _
        rw [h.param, hcap, h.wanted]
    · exact h.wanted
  have hheater := h.heater
  rw [regulate_eq s, regulate_eq t, hwanted]
  refine h.setHeater ?_
  unfold Heater.alike at *
  rw [hheater]

theorem forceReduction (h : SameStage s t) : SameStage (forceReduction s) (forceReduction t) := by
  have hpermitted : ∀ u : State, (Machine.forceReduction u).permitted = u.permitted := fun u => by
    unfold Machine.forceReduction
    split <;> rfl
  have hexhaust : ∀ u : State, (Machine.forceReduction u).exhaust? = u.exhaust? := fun u => by
    unfold Machine.forceReduction
    split <;> rfl
  have hparam : ∀ (u : State) p, (Machine.forceReduction u).param p = u.param p := fun u p => by
    rw [State.param, forceReduction_tables]; rfl
  refine ⟨?_, fun p => ?_, ?_, ?_, ?_, ?_, ?_⟩
  · rw [forceReduction_path, forceReduction_path, h.now]
  · rw [hparam, hparam, h.param]
  · rw [forceReduction_cycle, forceReduction_cycle, h.cycle]
  · rw [forceReduction_walker, forceReduction_walker, h.persist]
  · rw [hexhaust, hexhaust, h.exhaust]
  · rw [hpermitted, hpermitted, h.permitted]
  · rw [forceReduction_heater, forceReduction_heater, h.permitted, h.commanded, h.now]
    split
    · exact Heater.alike_switched h.heater _ _
    · exact h.heater

theorem targetLevel (h : SameStage s t) : t.targetLevel = s.targetLevel := by
  rw [State.targetLevel, h.wanted, h.permitted]
  rfl

theorem holdsDone (h : SameStage s t) (l : Level) : t.holdsDone l = s.holdsDone l := by
  have hnow : t.now = s.now := h.now
  simp only [State.holdsDone, h.commanded, h.h1Switch, h.h2Switch, h.param, hnow]

theorem stageStep_heater (h : SameStage s t) : (stageStep s).heater.alike (stageStep t).heater := by
  have hnow : t.now = s.now := h.now
  have hred : t.reductionDue = s.reductionDue := by
    simp only [State.reductionDue, h.targetLevel, h.commanded, h.permitted, h.holdsDone]
  have hup : t.upwardDue = s.upwardDue := by
    simp only [State.upwardDue, h.targetLevel, h.commanded, h.lastUp, h.param, h.holdsDone, hnow]
  by_cases hr : s.reductionDue = true
  · rw [stageStep_of_reduction hr, stageStep_of_reduction (hred.trans hr), setCommanded_heater, setCommanded_heater,
      h.targetLevel, h.now]
    exact Heater.alike_switched h.heater _ _
  · by_cases hu : s.upwardDue = true
    · rw [stageStep_of_upward hu, stageStep_of_upward (hup.trans hu)]
      have hswitched := Heater.alike_switched h.heater s.heater.commanded.oneHigher s.path.timeBase
      show Heater.alike { (setCommanded s.heater.commanded.oneHigher s).heater with lastUp := some s.now }
        { (setCommanded t.heater.commanded.oneHigher t).heater with lastUp := some t.now }
      rw [setCommanded_heater, setCommanded_heater, h.commanded, h.now, hnow]
      unfold Heater.alike at hswitched ⊢
      rw [hswitched]
    · rw [stageStep_of_neither hr hu, stageStep_of_neither (by rwa [hred]) (by rwa [hup])]
      exact h.heater

theorem heaterSample_heater (h : SameStage s t) : (heaterSample s).heater.alike (heaterSample t).heater :=
  h.regulate.forceReduction.stageStep_heater

end SameStage

/-! ### A SAMPLE that finds the drum TURNING and changes no record -/

/-- While the winner stands as the law has it, a selection is nothing (05 R76 to R78). -/
theorem reselect_of_selected {s : State} (hwinner : s.drum.winner = s.selectDemand) (hrun : s.drum.winner.run? ≠ none) :
    reselect false s = s := by
  have hturn : s.holds = s.walkerTurn := by
    unfold State.holds State.walkerTurn
    rw [hwinner] at hrun ⊢
    unfold State.selectDemand at hrun ⊢
    by_cases hstop : s.stopDemand = true
    · simp [hstop, Demand.fromWalker]
    · by_cases hover : s.overrides = true
      · simp [hstop, hover, Demand.fromWalker]
      · rw [if_neg hstop, if_neg hover] at hrun ⊢
        simp only [Bool.not_eq_true] at hstop hover
        rw [hstop, hover]
        unfold State.segmentDemand PatternEntry.demand at hrun ⊢
        split at hrun
        · exact absurd rfl hrun
        next =>
          split at hrun
          · exact absurd rfl hrun
          next => simp [Demand.fromWalker]
          next => simp [Demand.fromWalker]
          next => exact absurd rfl hrun
  have hhand : handWalker s = s := by
    unfold handWalker
    rw [← hturn]
    cases s.holds <;> rfl
  have hnamed : s.named = s := by
    unfold State.named
    rw [hhand, ← hwinner]
    rfl
  rw [reselect_eq, hnamed, if_neg]
  rintro (hne | ⟨hfrom, hnot⟩)
  · exact hne rfl
  · have hholds : s.holds = true := hfrom
    simp [hholds] at hnot

/-- What a TURNING drum says of the demands (05 R75 to R77). -/
theorem turning_demands {s : State} (hlaw : s.demandLaw) (hturning : s.drum.state = .turning) :
    s.drum.winner = s.selectDemand ∧ s.drum.winner.run? ≠ none ∧ s.path.door ≠ .isOpen ∧ s.silent = false := by
  obtain ⟨hwinner, hrun⟩ := hlaw
  rw [hturning] at hrun
  have hsome : s.drum.winner.run? ≠ none := by simp [show s.drum.winner.run? = _ from hrun]
  have hstop : s.stopDemand = false := by
    rw [← Bool.not_eq_true]
    intro hstop
    rw [hwinner, State.selectDemand, if_pos hstop] at hsome
    exact hsome rfl
  simp only [State.stopDemand, Bool.or_eq_false_iff, decide_eq_false_iff_not] at hstop
  exact ⟨hwinner, hsome, hstop.1.1.1, hstop.1.1.2⟩

/-- The SAMPLE finds the drum TURNING, leaves the door closed and brings no DRY, and no record has changed once the blocks
have worked on it. -/
structure State.undisturbed (s : State) (p : List Byte) : Prop where
  closed  : (byteAt p 1).getLsbD 0 = true
  turning : s.drum.state = .turning
  demand  : s.demandLaw
  lawful  : ∀ x, s.lawful x
  noDry   : ¬(s.accepting p).signalsDry
  records : (s.worked p).faults.records = s.faults.records

theorem sampleWork_record_of_unhanded {x : Source} (hx : ∀ b : SampleBlock, x ∉ b.sources) (s0 : State)
    (opening late : Bool) (order : List SampleBlock) (s : State) :
    (sampleWork s0 opening late order s).record x = s.record x := by
  induction order generalizing s with
  | nil => rfl
  | cons b bs ih =>
    rw [sampleWork_cons, ih]
    exact (sampleBlock_hands s0 opening late b s).record x (hx b)

namespace State.undisturbed

variable {s : State} {p : List Byte}

theorem worked_record (h : s.undisturbed p) (x : Source) : (s.worked p).record x = s.record x := by
  rw [State.record, h.records]
  rfl

/-- FIELD_LINK does not go at the good frame: its record would tell. -/
theorem goodFrame_eq (h : s.undisturbed p) : goodFrame .field s = s.portAfter .field (s.badCount .field - 1) := by
  have hunhanded : ∀ b : SampleBlock, Source.fieldLink ∉ b.sources := fun b => by cases b <;> decide
  have haccepting : (s.accepting p).record .fieldLink = (goodFrame .field s).record .fieldLink :=
    (goAway_hands (x := .fieldSilent) (List.mem_singleton_self _) _).record .fieldLink (by decide)
  have hrecord : (goodFrame .field s).record .fieldLink = s.record .fieldLink := by
    rw [← haccepting, ← h.worked_record .fieldLink, State.worked, sampleWork_record_of_unhanded hunhanded]
    exact ((reselect_movesPhase false _).record_eq _).symm
  revert hrecord
  rw [Machine.goodFrame_eq]
  split
  · exact fun hrecord => goAway_still (s := s.portAfter .field _) (h.lawful .fieldLink) hrecord
  · exact fun _ => rfl

/-- The acceptance moves the path, the field port and the marks of a SAMPLE's work alone. -/
theorem accepting_eq (h : s.undisturbed p) :
    s.accepting p =
      { s with links := (s.accepting p).links, path := s.decodedPath p, aux := (s.accepting p).aux } ∧
    (s.accepting p).aux.deferred = [] := by
  obtain ⟨-, -, -, hsilent⟩ := turning_demands h.demand h.turning
  have hbegin : s.accepting p =
      ((decodeSample p (goodFrame .field s).dropChoice).setAux
        { (decodeSample p (goodFrame .field s).dropChoice).aux with
          drumDeferred := true, deferred := [], airflowWaits := (goodFrame .field s).dropChoice.slowRamp }) := by
    refine goAway_of_absent ?_
    show (goodFrame .field s).present .fieldSilent = false
    rw [h.goodFrame_eq]
    exact hsilent
  have hpath := accepting_path s p
  refine ⟨?_, by rw [hbegin]; rfl⟩
  rw [← hpath, hbegin, h.goodFrame_eq]
  rfl

theorem door_closed (h : s.undisturbed p) : (s.accepting p).path.door = .isClosed := by
  rw [accepting_path, decodedPath_eq]
  exact if_pos h.closed

theorem doorOpening (h : s.undisturbed p) : s.doorOpening p = false := by
  have hflag : (decodeFlags p).doorClosed = true := h.closed
  rw [State.doorOpening, hflag]
  exact Bool.and_false _

/-- The winner stands through the acceptance, so the selection before the blocks' work is nothing. -/
theorem reselect_eq (h : s.undisturbed p) : reselect false (s.accepting p) = s.accepting p := by
  obtain ⟨hwinner, hrun, hdoor, -⟩ := turning_demands h.demand h.turning
  have hframe := h.accepting_eq.1
  have hdrum : (s.accepting p).drum = s.drum := by rw [hframe]
  have hstop : (s.accepting p).stopDemand = s.stopDemand := by
    have hopen : decide ((s.accepting p).path.door = .isOpen) = decide (s.path.door = .isOpen) := by
      rw [h.door_closed, decide_eq_false hdoor]
      rfl
    have hsilent : (s.accepting p).silent = s.silent := by rw [State.silent, State.present, hframe]; rfl
    have hoverrides : (s.accepting p).overrides = s.overrides := by rw [State.overrides, hframe]; rfl
    rw [State.stopDemand, hopen, hsilent, hoverrides, hframe]
    rfl
  have hselect : (s.accepting p).selectDemand = s.selectDemand := by
    rw [State.selectDemand, hstop, hframe]
    rfl
  exact reselect_of_selected (by rw [hdrum, hselect, hwinner]) (by rwa [hdrum])

/-- What is lawful of the faults is lawful of every state with the same faults. -/
theorem lawful_of_faults (h : s.undisturbed p) {u : State} (hfaults : u.faults = s.faults) (x : Source) : u.lawful x := by
  unfold State.lawful State.present State.record
  rw [hfaults]
  exact h.lawful x

end State.undisturbed

/-- Only the heater and the lowest level may move. -/
def MovesHeater (s t : State) : Prop :=
  t = { s with heater := t.heater, moisture := { s.moisture with lowest := t.moisture.lowest } }

theorem heaterSample_movesHeater (s : State) : MovesHeater s (heaterSample s) := by
  have htrans : ∀ {s t u}, MovesHeater s t → MovesHeater t u → MovesHeater s u := by
    intro s t u h k
    unfold MovesHeater at *
    rw [k, h]
  have hregulate : MovesHeater s (regulate s) := by rw [regulate_eq]; exact rfl
  have hforce : ∀ t, MovesHeater t (forceReduction t) := fun t => by
    unfold forceReduction
    split <;> exact rfl
  have hstep : ∀ t, MovesHeater t (stageStep t) := fun t => by
    unfold stageStep
    split
    · exact rfl
    · split <;> exact rfl
  exact htrans (htrans hregulate (hforce _)) (hstep _)

section Turns

variable {s : State} {p : List Byte} {first rest : List SampleBlock}

/-- The blocks before the stager's turn note what is theirs alone. -/
theorem workedBy_steady (h : s.undisturbed p)
    (horder : fillOrder SampleBlock.all s.choice.sample = first ++ .heater :: rest) :
    MovesSteady (s.accepting p) (s.workedBy p first) := by
  obtain ⟨hfirst, -, hnodup, -, hdisjoint⟩ := sampleOrder_disjoint horder
  obtain ⟨hframe, hdeferred⟩ := h.accepting_eq
  have hfaults : (s.accepting p).faults = s.faults := by rw [hframe]
  have hdrum : (s.accepting p).drum = s.drum := by rw [hframe]
  have hwork : s.workedBy p first = sampleWork (s.accepting p) false s.choice.overcurrentLate first (s.accepting p) := by
    rw [State.workedBy, h.doorOpening, h.reselect_eq]
  rw [hwork]
  refine sampleWork_steady hnodup hfirst h.noDry (by rw [hdrum]; exact h.turning) hdeferred (h.lawful_of_faults hfaults)
    fun b hb x hx => ?_
  have hlater : (s.worked p).record x = (s.workedBy p first).record x := by
    rw [worked_split horder, sampleWork_record (fun hmem => hdisjoint hb hmem) hx]
    exact (heaterSample_hands _ []).record x (List.not_mem_nil)
  rw [← hwork, ← hlater, h.worked_record, State.record, State.record, hfaults]

/-- The blocks after the stager's turn note what is theirs alone. -/
theorem worked_steady (h : s.undisturbed p)
    (horder : fillOrder SampleBlock.all s.choice.sample = first ++ .heater :: rest) :
    MovesSteady (heaterSample (s.workedBy p first)) (s.worked p) := by
  obtain ⟨-, hrest, -, hnodup, -⟩ := sampleOrder_disjoint horder
  obtain ⟨hframe, hdeferred⟩ := h.accepting_eq
  have hbefore := workedBy_steady h horder
  have hturn := heaterSample_movesHeater (s.workedBy p first)
  have hfaults : (heaterSample (s.workedBy p first)).faults = s.faults := by
    have haccepting : (s.accepting p).faults = s.faults := by rw [hframe]
    rw [hturn, hbefore, ← haccepting]
  have hdrum : (heaterSample (s.workedBy p first)).drum.state = .turning := by
    have haccepting : (s.accepting p).drum = s.drum := by rw [hframe]
    rw [hturn, hbefore]
    show (s.accepting p).drum.state = .turning
    rw [haccepting]
    exact h.turning
  have haux : (heaterSample (s.workedBy p first)).aux.deferred = [] := by
    rw [hturn, hbefore]
    exact hdeferred
  have hwork : s.worked p = sampleWork (s.accepting p) false s.choice.overcurrentLate rest
      (heaterSample (s.workedBy p first)) := by
    rw [worked_split horder, h.doorOpening]
  rw [hwork]
  refine sampleWork_steady hnodup hrest h.noDry hdrum haux (h.lawful_of_faults hfaults) fun b hb x hx => ?_
  rw [← hwork, h.worked_record, State.record, State.record, hfaults]

/-- At its turn the stager sees the state before the SAMPLE with the SAMPLE's readings. -/
theorem workedBy_sameStage (h : s.undisturbed p)
    (horder : fillOrder SampleBlock.all s.choice.sample = first ++ .heater :: rest) :
    SameStage (s.setPath (s.decodedPath p)) (s.workedBy p first) := by
  obtain ⟨hframe, -⟩ := h.accepting_eq
  have hsteady := workedBy_steady h horder
  have hpath : (s.workedBy p first).path = s.decodedPath p := by rw [hsteady, ← accepting_path s p]
  have htables : (s.workedBy p first).tables = s.tables := by rw [hsteady, hframe]
  have hcycle : (s.workedBy p first).cycle = s.cycle := by rw [hsteady, hframe]
  have hwalker : (s.workedBy p first).walker = s.walker := by rw [hsteady, hframe]
  have hfaults : (s.workedBy p first).faults = s.faults := by rw [hsteady, hframe]
  have hdrum : (s.workedBy p first).drum.state = .turning := by rw [hsteady, hframe]; exact h.turning
  have hparam : ∀ q, (s.workedBy p first).param q = s.param q := fun q => by rw [State.param, htables]; rfl
  refine ⟨by rw [hpath]; rfl, hparam, hcycle, by rw [hwalker]; rfl, ?_, ?_, ?_⟩
  · rw [State.exhaust?, State.silent, State.present, hpath, hfaults]
    rfl
  · have hair : (s.workedBy p first).airflow = .l2 := by rw [State.airflow, hdrum]
    have hair' : (s.setPath (s.decodedPath p)).airflow = .l2 := by
      rw [State.airflow, show (s.setPath (s.decodedPath p)).drum.state = .turning from h.turning]
    rw [State.permitted, State.permitted, hair, hair', State.cyclePermission, State.phaseCap, hcycle, hwalker, hfaults]
    rfl
  · unfold Heater.alike
    have hheater : (s.accepting p).heater = s.heater := by rw [hframe]
    rw [hsteady, hheater]
    rfl

/-- The heater that an undisturbed SAMPLE leaves is the stager's work with the SAMPLE's readings (04 R67; 01 R8). -/
theorem undisturbed_heater (h : s.undisturbed p) {t : State}
    (ht : t.heater = (answerDrive (s.worked p)).heater) :
    t.heater =
      { (heaterSample (s.setPath (s.decodedPath p))).heater with
        h1 := t.heater.h1
        h2 := t.heater.h2
        refH1 := decide (t.heater.commanded ≠ .l0)
        refH2 := decide (t.heater.commanded = .l2) } := by
  obtain ⟨first, rest, horder⟩ := sampleOrder_split s.choice.sample
  have hstage := (workedBy_sameStage h horder).heaterSample_heater
  have hsteady := worked_steady h horder
  have hheater : (s.worked p).heater =
      { (heaterSample (s.workedBy p first)).heater with
        h1 := (s.worked p).heater.h1, h2 := (s.worked p).heater.h2 } := by rw [hsteady]
  have h1 : ∀ l : Level, l.h1 = decide (l ≠ .l0) := fun l => by cases l <;> rfl
  have h2 : ∀ l : Level, l.h2 = decide (l = .l2) := fun l => by cases l <;> rfl
  unfold Heater.alike at hstage
  rw [ht, answerDrive_heater, h1, h2]
  dsimp only
  rw [hheater, hstage]

end Turns

end Sys2Proof.Machine

/-! # The permitted level and the changes of the commanded level, as one statement (04) -/

namespace Sys2Proof.Machine

theorem permittedLevel_code (s : State) :
    s.permitted.code =
      min (min (if s.cycle.state = .active ∧ (s.cycle.record.kind = .heatToDry ∨ s.cycle.record.kind = .heatTimed)
            then 2 else 0)
          (if s.walker.persist = true then s.cycle.record.cap.code - 1 else s.cycle.record.cap.code))
        (min s.faults.effective.cap.code
          (if s.drum.state = .turning ∨
              (s.drum.state = .ramp ∧ s.param .airflowSpeed ≤ s.tacho.natAbs ∧ s.aux.airflowWaits = false)
            then 2 else 0)) := by
  rw [permitted_code, cyclePermission_code, phaseCap_code, airflow_code]

/-- The level rises at an accepted SAMPLE alone, after the waits of an upward step (02 R23; 04 R66). -/
theorem exec_rises {c : Instr} {s t : State} (h : exec c s = .next t)
    (hrise : s.heater.commanded.code < t.heater.commanded.code) :
    bringsSample c ∧ t.heater.commanded.code = s.heater.commanded.code + 1 ∧
      t.heater.commanded.code ≤ t.heater.wanted.code ∧ t.heater.lastUp = some s.path.timeBase ∧
      stampLasted s.path.timeBase s.heater.lastUp (10 * s.param .stageInterval) = true ∧
      (s.heater.commanded = .l0 → stampLasted s.path.timeBase s.heater.h1Switch (s.param .relayHold) = true) ∧
      (s.heater.commanded = .l1 → stampLasted s.path.timeBase s.heater.h2Switch (s.param .relayHold) = true) := by
  have hc : ∀ high, c ≠ .reset high := by
    rintro high rfl
    rw [exec_reset_commanded h] at hrise
    exact absurd hrise (Nat.not_lt_zero _)
  rcases exec_raises hc h with hraise | ⟨hbrings, p, -, rfl⟩
  · have hfalls := hraise.falls
    omega
  · exact ⟨hbrings, accepted_rises hrise⟩

/-- A SAMPLE is undisturbed whose command leaves the records as they were. -/
theorem undisturbed_of_exec {s t : State} {p : List Byte} (haccepts : s.accepts p)
    (hclosed : (byteAt p 1).getLsbD 0 = true) (hturning : s.drum.state = .turning) (hdemand : s.demandLaw)
    (hrecord : s.recordLaw) (hdry : ¬(s.accepting p).signalsDry) (h : exec (.sample p) s = .next t)
    (hkept : t.faults.records = s.faults.records) :
    s.undisturbed p ∧ t.heater = (answerDrive (s.worked p)).heater ∧ t.path = s.decodedPath p := by
  rw [exec_sample_of_accepts haccepts] at h
  have hmoves := answer_moves s p
  rw [Host.Outcome.next.inj h] at hmoves
  have hfaults : t.faults = (s.worked p).faults := by rw [hmoves]; rfl
  refine ⟨⟨hclosed, hturning, hdemand, fun x => (hrecord x).1, hdry, by rw [← hfaults]; exact hkept⟩, by rw [hmoves], ?_⟩
  rw [hmoves.record.path]
  exact worked_path s p

/-- Settles O37: the level's three changes are equations of the stager's operations; a command raises the level only at
the stager's turn on a SAMPLE, and each change on the way stamps what it switches. -/
theorem commandedLevelMovesAndStampsItsStages : Obligations.CommandedLevelMovesAndStampsItsStages := by
  refine ⟨fun s => ⟨?_, s.targetLevel_code⟩, fun c s t _ h hrise => exec_rises h hrise, ?_, fun s => stageStep_above,
    fun s => rfl, ?_, fun s t p first rest hstate hslow horder hdrum h => slowRamp_falls hstate hslow horder hdrum h,
    fun now start n => ⟨rfl, decide_eq_true_iff⟩, ?_⟩
  · refine (permittedLevel_code s).trans ?_
    cases s.faults.effective <;> rfl
  · rintro s l h rfl
    refine ⟨?_, ?_, ?_⟩
    · rintro rfl
      exact forceReduction_heater s
    · rintro rfl hlt hle
      exact stageStep_below hlt hle
    · rintro rfl htarget
      exact stageStep_of_target htarget
  · intro s t p haccepts hclosed hturning hdemand _ hrecord hdry h hkept
    obtain ⟨hundisturbed, hheater, hpath⟩ :=
      undisturbed_of_exec haccepts hclosed hturning hdemand hrecord hdry h hkept
    rw [hpath]
    exact undisturbed_heater hundisturbed hheater
  · intro c s t hc h
    obtain ⟨u, hheater, hstamps⟩ := exec_stamps hc h
    exact hstamps.switches hheater

end Sys2Proof.Machine

/-! # The curve map and the filter (03 R36, R40) -/

namespace Sys2Proof.Machine

/-! ### Division truncated toward zero (00, Arithmetic) -/

/-- A quotient by a divisor of at least 1, truncated toward zero: on the dividend's side of 0, no farther from it, and 0
where the dividend is shorter than the divisor. -/
theorem tdiv_between (x : Int) {k : Nat} (hk : 1 ≤ k) :
    (0 ≤ x → 0 ≤ x.tdiv k ∧ x.tdiv k ≤ x) ∧ (x ≤ 0 → x ≤ x.tdiv k ∧ x.tdiv k ≤ 0) ∧
    (x.tdiv k = 0 ↔ x.natAbs < k) := by
  have habs : (x.tdiv k).natAbs = x.natAbs / k := Int.natAbs_tdiv x k
  have hle : x.natAbs / k ≤ x.natAbs := Nat.div_le_self _ _
  refine ⟨fun hx => ?_, fun hx => ?_, ?_⟩
  · have hsign : 0 ≤ x.tdiv k := Int.tdiv_nonneg hx (Int.natCast_nonneg k)
    omega
  · have hsign : 0 ≤ (-x).tdiv k := Int.tdiv_nonneg (by omega) (Int.natCast_nonneg k)
    rw [Int.neg_tdiv] at hsign
    omega
  · rw [← Int.natAbs_eq_zero, habs, Nat.div_eq_zero_iff]
    omega

/-! ### The curve map (03 R36) -/

/-- The way into a segment, from its lower point: along the segment and, short of its end, less than the whole of it. -/
theorem tdiv_segment (d : Int) {f : Nat} (hf : f ≤ 511) :
    ((d * (f : Int)).tdiv 512).natAbs ≤ d.natAbs ∧
    (d ≠ 0 → ((d * (f : Int)).tdiv 512).natAbs < d.natAbs) ∧
    (0 ≤ d → 0 ≤ (d * (f : Int)).tdiv 512) ∧ (d ≤ 0 → (d * (f : Int)).tdiv 512 ≤ 0) := by
  have habs : ((d * (f : Int)).tdiv 512).natAbs = d.natAbs * f / 512 := by
    rw [Int.natAbs_tdiv, Int.natAbs_mul]
    rfl
  have hway : d.natAbs * f ≤ d.natAbs * 511 := Nat.mul_le_mul_left _ hf
  have ⟨hpositive, hnegative, _⟩ := tdiv_between (d * (f : Int)) (k := 512) (by decide)
  refine ⟨by omega, fun hd => by omega, fun hd => ?_, fun hd => ?_⟩
  · exact (hpositive (mul_nonneg hd (Int.natCast_nonneg f))).1
  · exact (hnegative (mul_nonpos_of_nonpos_of_nonneg hd (Int.natCast_nonneg f))).2

theorem curveMap_eq {m : Nat → Nat} {e k f : Nat} (hk : k = e / 512) (hf : f = e - 512 * k) :
    (curveMap m e : Int) = (m k : Int) + (((m (k + 1) : Int) - (m k : Int)) * (f : Int)).tdiv 512 := by
  have hrest : f = e % 512 := by omega
  obtain ⟨hle, -, hup, hdown⟩ := tdiv_segment ((m (k + 1) : Int) - (m k : Int)) (f := f) (by omega)
  rw [curveMap, ← hk, ← hrest, Int.toNat_of_nonneg]
  rcases le_total (m k) (m (k + 1)) with h | h
  · have hpos := hup (by omega)
    omega
  · have hneg := hdown (by omega)
    omega

/-- A point beyond the segment of a reading does not move its moisture. -/
theorem curveMap_congr {m m' : Nat → Nat} {e : Nat} (hlow : m' (e / 512) = m (e / 512))
    (hhigh : m' (e / 512 + 1) = m (e / 512 + 1)) : curveMap m' e = curveMap m e := by
  rw [curveMap, curveMap, hlow, hhigh]

/-- Settles O32: the way into the segment is the truncated part of its rise, which is shorter than the segment. -/
theorem curveMapInterpolatesWithinItsSegment : Obligations.CurveMapInterpolatesWithinItsSegment := by
  intro m e k f hm he hk hf
  have hmap := curveMap_eq (m := m) hk hf
  obtain ⟨hle, hlt, hup, hdown⟩ := tdiv_segment ((m (k + 1) : Int) - (m k : Int)) (f := f) (by omega)
  have hlow := hm k
  have hhigh := hm (k + 1)
  generalize hway : (((m (k + 1) : Int) - (m k : Int)) * (f : Int)).tdiv 512 = way at hmap hle hlt hup hdown ⊢
  refine ⟨by omega, by omega, by omega, hmap, hle, fun hne => hlt (by omega), by omega, by omega, ?_, by omega,
    by omega, fun h => by omega, fun m' hsame hlast => ?_⟩
  · constructor <;> intro h <;> omega
  · exact curveMap_congr (hsame _ (by omega)) (hsame _ (by omega))

/-! ### The filter (03 R40) -/

/-- Settles O33: W16 takes the truncated part of its distance, which stays between where it is and where it is drawn. -/
theorem filterMovesTowardTheFrameMoisture : Obligations.FilterMovesTowardTheFrameMoisture := by
  refine ⟨fun s => ⟨_, rfl, rfl⟩, fun w mf k hw hmf hk _ => ?_⟩
  obtain ⟨hup, hdown, hzero⟩ := tdiv_between (16 * (mf : Int) - (w : Int)) hk
  have hone : k = 1 → (16 * (mf : Int) - (w : Int)).tdiv (k : Int) = 16 * (mf : Int) - (w : Int) := by
    rintro rfl
    exact Int.tdiv_one _
  have hside : 0 ≤ (16 * (mf : Int) - (w : Int)).tdiv (k : Int) * (16 * (mf : Int) - (w : Int)) := by
    rcases le_total 0 (16 * (mf : Int) - (w : Int)) with h | h
    · exact mul_nonneg (hup h).1 h
    · exact mul_nonneg_of_nonpos_of_nonpos (hdown h).2 h
  have hfilter : (filterW16 w mf k : Int) = (w : Int) + (16 * (mf : Int) - (w : Int)).tdiv (k : Int) := by
    rw [filterW16, clampInt_eq (by decide)]
    omega
  generalize hmove : (16 * (mf : Int) - (w : Int)).tdiv (k : Int) = move at hup hdown hzero hone hside hfilter ⊢
  exact ⟨hfilter, by omega, by omega, by omega, by omega, fun h => by have := hone h; omega, hside, by omega⟩

end Sys2Proof.Machine

/-! # TRIM_STEP, LIMIT_LOCK, LIMIT_UNLOCK and UPSTREAM_FLUSH (03 R51; 10 R176, R179; 11 R182) -/

namespace Sys2Proof.Machine

/-! ### The step of the trim (03 R51) -/

theorem requestTrim_up {step : Byte} (h : step.toNat = 1) (s : State) :
    requestTrim step s =
      if s.param .electrodeTrim < 15 then
        (s.setParam .electrodeTrim (s.param .electrodeTrim + 1), ⟨.ok, [byteOf (s.param .electrodeTrim + 1)]⟩)
      else (s, ⟨.clamped, [byteOf (s.param .electrodeTrim)]⟩) := if_pos h

theorem requestTrim_down {step : Byte} (h : step.toNat = 0) (s : State) :
    requestTrim step s =
      if 0 < s.param .electrodeTrim then
        (s.setParam .electrodeTrim (s.param .electrodeTrim - 1), ⟨.ok, [byteOf (s.param .electrodeTrim - 1)]⟩)
      else (s, ⟨.clamped, [byteOf (s.param .electrodeTrim)]⟩) := by
  rw [requestTrim, if_neg (by omega), if_pos h]

theorem requestTrim_other {step : Byte} (h : 1 < step.toNat) (s : State) : requestTrim step s = (s, .plain .range) := by
  rw [requestTrim, if_neg (by omega), if_neg (by omega)]

/-! ### The SERVICE line (10 R176) -/

theorem requestUnlock_high {s : State} (h : s.links.service = true) :
    requestUnlock s = (s.setTables { s.tables with lock := false }, .plain .ok) := if_pos h

theorem requestUnlock_low {s : State} (h : s.links.service = false) : requestUnlock s = (s, .plain .locked) :=
  if_neg (by rw [h]; exact Bool.false_ne_true)

/-! ### The four requests, answered by a quiet part -/

section Answers

variable {s u : State} {r : Reply}

/-- A step of the trim is answered as `requestTrim` says. -/
theorem exec_trimStep {b : Byte} (hquiet : s.quiet)
    (htrim : ∀ o, requestTrim b (s.heard.setProgress o) = (u.setProgress o, r)) (hu : u.tables.inProgress = none) :
    exec (.trimStep [b]) s = .next (answered 0x4A r u) :=
  done_controllerFrame_of_quiet (f := ⟨0x4A, [b]⟩) hquiet (by decide : 1 ≤ 32) (by simp) (htrim _) hu

theorem exec_limitLock (hquiet : s.quiet) :
    exec (.limitLock []) s =
      .next (answered 0x4B (.plain .ok) (s.heard.setTables { s.tables with lock := true })) :=
  done_controllerFrame_of_quiet (f := ⟨0x4B, []⟩) hquiet (by decide) (by simp) rfl (heard_inProgress hquiet)

/-- LIMIT_UNLOCK is answered as `requestUnlock` says, which reads the SERVICE line. -/
theorem exec_limitUnlock (hquiet : s.quiet)
    (hunlock : ∀ o, requestUnlock (s.heard.setProgress o) = (u.setProgress o, r)) (hu : u.tables.inProgress = none) :
    exec (.limitUnlock []) s = .next (answered 0x4C r u) :=
  done_controllerFrame_of_quiet (f := ⟨0x4C, []⟩) hquiet (by decide) (by simp) (hunlock _) hu

theorem exec_upstreamFlush (hquiet : s.quiet) :
    exec (.upstreamFlush []) s =
      .next (answered 0x4D (.plain .ok)
        (moveEvents (s.heard.setUpstream
          { s.upstream with queue := s.upstream.queue.filter fun f => !f.displaceable }))) :=
  done_controllerFrame_of_quiet (f := ⟨0x4D, []⟩) hquiet (by decide) (by simp) rfl
    (show s.tables.inProgress = none from heard_inProgress hquiet)

end Answers

/-- Settles O54: each request moves what its own rule names, and a quiet part answers from there. -/
theorem trimLockAndFlushActAlone : Obligations.TrimLockAndFlushActAlone := by
  rintro s trim hquiet rfl
  have hfree := heard_inProgress hquiet
  refine ⟨fun h => ?_, fun h => ?_, fun h => ?_, fun h => ?_, fun b hb => ?_, exec_limitLock hquiet, fun h => ?_,
    fun h => ?_, exec_upstreamFlush hquiet⟩
  · exact exec_trimStep hquiet (fun o => (requestTrim_up rfl _).trans (if_pos h)) hfree
  · exact exec_trimStep hquiet (fun o => (requestTrim_up rfl _).trans (if_neg (Nat.not_lt.mpr h))) hfree
  · exact exec_trimStep hquiet (fun o => (requestTrim_down rfl _).trans (if_pos h)) hfree
  · exact exec_trimStep hquiet (fun o => (requestTrim_down rfl _).trans (if_neg (by simp [h]))) hfree
  · exact exec_trimStep hquiet (fun o => requestTrim_other hb _) hfree
  · exact exec_limitUnlock hquiet (fun o => requestUnlock_high h) hfree
  · exact exec_limitUnlock hquiet (fun o => requestUnlock_low h) hfree

end Sys2Proof.Machine

/-! # The CONFIG writes that act at once on counters, level, drum, copies and reports (03 R39; 01 R7; 04 R62, R64; 05 R76;
11 R184) -/

namespace Sys2Proof.Machine

/-! ### A parameter that is not held apart from another, written to a quiet part (10 R171, R174) -/

theorem clampNat_eq {lo hi : Nat} (h : lo ≤ hi) (v : Nat) : clampNat lo hi v = max lo (min hi v) := by
  rw [clampNat]
  split_ifs <;> omega

/-- The state in which a quiet part's write of a parameter acts: its frame heard and in progress, the value stored. -/
def State.storing (s : State) (p : Param) (v : Half) (c : Nat) : State :=
  (s.heard.setProgress (some (paramFrame p v))).setParam p c

section Storing

variable {s u : State} {p : Param} {v : Half} {c : Nat}

theorem storing_param_same : (s.storing p v c).param p = c := by
  rw [State.storing, State.param_setParam, if_pos rfl]

theorem storing_param_other {q : Param} (h : p ≠ q) : (s.storing p v c).param q = s.param q := by
  rw [State.storing, State.param_setParam, if_neg h]
  rfl

theorem storing_talks : Talks s (s.storing p v c) := .of_same rfl rfl rfl

theorem storing_tables (hquiet : s.quiet) (hu : u.tables = (s.storing p v c).tables) :
    (u.setProgress none).tables = (s.setParam p c).tables := by
  have hfree : s.tables.inProgress = none := heard_inProgress hquiet
  show { u.tables with inProgress := none } = { s.tables with params := s.tables.params.set p.row.index c }
  rw [hu, ← hfree]
  rfl

/-- The write is answered from the state that storing the value and acting on it have made. -/
theorem done_paramFrame_of_free (hquiet : s.quiet) (hapart : p ≠ .keepaliveUpper ∧ p ≠ .keepaliveLower)
    (hopen : p.row.safety = false ∨ s.isProtected = false) (hc : c = storedParam p v.toNat) :
    done (controllerFrame (paramFrame p v) s) =
      .next (answered 0x41 (.plain (if c = v.toNat then .ok else .clamped))
        ((paramWritten p (s.storing p v c)).setProgress none)) := by
  obtain ⟨hserves, hlink, hkeep⟩ := hquiet
  refine done_controllerFrame_of_serves hserves (paramFrame_length_le p v) (paramFrame_not_keepalive p v) ?_
  rw [heardFrame_of_absent hlink hkeep]
  refine (takeRequest_paramFrame (s := s.heard.setProgress (some (paramFrame p v))) hopen v).trans ?_
  rw [admitParam_of_free hapart.1 hapart.2, ← hc, ofChanged_ne]
  rfl

/-- The RESPONSE finds room, since what a write tells leaves room for it (10 R168; 11 R182). -/
theorem replied_answered {r : Reply} (hquiet : s.quiet) (hu : Talks s u) :
    replied 0x41 r (answered 0x41 r (u.setProgress none)) := by
  obtain ⟨⟨-, -, hroom, hlen⟩, -, -⟩ := hquiet
  have hu := hu.room (s.upstream.hasRoom_iff.mpr ⟨hroom, hlen⟩)
  exact replied_of_room (s := u.setProgress none) (u.upstream.hasRoom_iff.mp hu).1

/-- A write that moves the estimator, and for the rest what a record change moves, keeps the frame of a request. -/
theorem answered_requestFrame {m : Moisture} (r : Reply) (hu : MovesRecord ((s.storing p v c).setMoisture m) u) :
    s.requestFrame (answered 0x41 r (u.setProgress none)) := by
  have hmoves := answered_moves 0x41 r (u.setProgress none)
  have hheater : (answered 0x41 r (u.setProgress none)).heater = u.heater := by rw [hmoves]; rfl
  have hlinks : u.links = { s.heard.links with controllerTx := u.links.controllerTx } := hu.links
  refine ⟨hmoves.record.path.trans hu.path, ?_, ?_, ?_, ?_, ?_, ?_, ?_⟩
  · rw [hmoves]
    show u.faults.limits = s.faults.limits
    rw [hu]
    rfl
  · have hanswer : (answered 0x41 r (u.setProgress none)).links =
        { u.links with controllerTx := (answered 0x41 r (u.setProgress none)).links.controllerTx } := hmoves.record.links
    rw [hlinks] at hanswer
    exact hanswer
  all_goals rw [hheater, hu]; rfl

theorem answered_tables {m : Moisture} (r : Reply) (hquiet : s.quiet)
    (hu : MovesRecord ((s.storing p v c).setMoisture m) u) :
    (answered 0x41 r (u.setProgress none)).tables = (s.setParam p c).tables :=
  (answered_moves 0x41 r (u.setProgress none)).record.tables.trans (storing_tables hquiet hu.tables)

theorem answered_present (r : Reply) (x : Source) :
    (answered 0x41 r (u.setProgress none)).present x = u.present x :=
  (answered_moves 0x41 r (u.setProgress none)).present x

end Storing

/-! ### SHORT_LIMIT on the all-short count (03 R39) -/

theorem applyShortLimit_moves (s : State) :
    MovesRecord (s.setMoisture { s.moisture with allShort := min s.moisture.allShort (s.param .shortLimit) })
      (applyShortLimit s) := by
  unfold applyShortLimit
  dsimp only
  split
  · exact arise_moves _ _
  · exact .refl _

theorem applyShortLimit_allShort (s : State) :
    (applyShortLimit s).moisture.allShort = min s.moisture.allShort (s.param .shortLimit) := by
  rw [applyShortLimit_moves s]
  rfl

theorem applyShortLimit_present (s : State) :
    (applyShortLimit s).present .electrodeShort =
      (s.present .electrodeShort || decide (s.param .shortLimit ≤ s.moisture.allShort)) := by
  unfold applyShortLimit
  dsimp only
  split
  next h => simp [show s.param .shortLimit ≤ s.moisture.allShort by omega]
  next h => simp [show ¬s.param .shortLimit ≤ s.moisture.allShort by omega]

/-! ### LINK_ERR_LIMIT on the bad-frame counters (01 R7) -/

theorem applyLinkLimit_present (p : Port) (x : Source) (s : State) :
    (applyLinkLimit p s).present x =
      (s.present x || decide (Port.source p = x ∧ s.param .linkErrLimit ≤ s.badCount p)) := by
  unfold applyLinkLimit
  dsimp only
  split
  next h => simp [show s.param .linkErrLimit ≤ s.badCount p by omega]
  next h => simp [show ¬s.param .linkErrLimit ≤ s.badCount p by omega]

theorem applyLinkLimit_path (p : Port) (s : State) : (applyLinkLimit p s).path = s.path := by
  rw [(applyLinkLimit_moves p s).path]
  cases p <;> rfl

theorem applyLinkLimit_tables (p : Port) (s : State) : (applyLinkLimit p s).tables = s.tables := by
  rw [(applyLinkLimit_moves p s).tables]
  cases p <;> rfl

/-! ### AIRFLOW_SPEED on the commanded level (04 R62, R64) -/

/-- Under the heat law the write forces the level down where a RAMP has become too slow, and there alone. -/
theorem storing_airflow_commanded {s : State} {v : Half} {c : Nat} (hlaw : s.heatLaw) :
    (forceReduction (s.storing .airflowSpeed v c)).heater.commanded =
      if s.drum.state = .ramp ∧ s.speed < c then .l0 else s.heater.commanded := by
  have hbefore := permitted_code s
  have hafter := permitted_code (s.storing .airflowSpeed v c)
  have hcycle : (s.storing .airflowSpeed v c).cyclePermission = s.cyclePermission := rfl
  have hcap : (s.storing .airflowSpeed v c).phaseCap = s.phaseCap := rfl
  have hfault : (s.storing .airflowSpeed v c).faults = s.faults := rfl
  have hair : (s.storing .airflowSpeed v c).airflow.code =
      if s.drum.state = .turning ∨ (s.drum.state = .ramp ∧ c ≤ s.speed ∧ s.aux.airflowWaits = false)
      then 2 else 0 := by
    rw [airflow_code, storing_param_same]
    rfl
  have hless : ¬(s.drum.state = .ramp ∧ s.speed < c) →
      s.airflow.code ≤ (s.storing .airflowSpeed v c).airflow.code := fun h => by
    rw [hair, airflow_code]
    split
    next hflows =>
      rw [if_pos]
      rcases hflows with hturning | ⟨hramp, -, hready⟩
      · exact .inl hturning
      · exact .inr ⟨hramp, Nat.not_lt.mp fun hslow => h ⟨hramp, hslow⟩, hready⟩
    next => exact Nat.zero_le _
  have hcommanded : s.heater.commanded.code ≤ s.permitted.code := hlaw
  refine Level.code_inj ?_
  rw [forceReduction_commanded, hafter, hcycle, hcap, hfault]
  show min s.heater.commanded.code _ = _
  split
  next hslow =>
    have hnone : ¬(s.drum.state = .turning ∨
        (s.drum.state = .ramp ∧ c ≤ s.speed ∧ s.aux.airflowWaits = false)) := by
      obtain ⟨hramp, hslow⟩ := hslow
      rw [hramp]
      rintro (h | ⟨-, hfast, -⟩)
      · cases h
      · omega
    rw [hair, if_neg hnone, Nat.min_zero, Nat.min_zero, Nat.min_zero]
    rfl
  next hfast =>
    have hflow := hless hfast
    omega

/-! ### COOL_SPEED on the override (05 R76 to R78) -/

theorem actOn_winner (w : Demand) (s : State) : (actOn w s).drum.winner = s.drum.winner := by
  have hleave : (leaveRamp s).drum.winner = s.drum.winner := by
    unfold leaveRamp
    split <;> simp [enterDwell, enterDecel]
  unfold actOn
  split
  · split <;> simp [enterRamp, enterDwell]
  · split
    · split
      · rfl
      · exact hleave
    · exact hleave
  · split
    · split
      · split <;> simp [enterRamp]
      · simp [enterDecel]
    · simp [enterDecel]
  · rfl
  · split <;> rfl

theorem reselect_winner (n : Bool) (s : State) : (reselect n s).drum.winner = s.named.drum.winner := by
  rw [reselect_eq]
  split
  · unfold meetWinner
    split
    · rfl
    · exact actOn_winner _ _
  · rfl

/-- A drum that acts on the override and is in RAMP then runs toward the override's speed. -/
theorem actOn_override_target {v : Nat} {s : State} (h : (actOn (.override v) s).drum.state = .ramp) :
    (actOn (.override v) s).drum.target = v := by
  have hleave : (leaveRamp s).drum.state ≠ .ramp := by
    unfold leaveRamp
    split <;> simp [enterDwell, enterDecel]
  revert h
  unfold actOn Demand.run?
  split
  · simp [enterRamp]
  · dsimp only
    split
    · exact fun _ => rfl
    · exact fun h => absurd h hleave
  next hturning =>
    dsimp only
    split
    · split
      · exact fun h => absurd (hturning.symm.trans h) (by decide)
      · simp [enterRamp]
    · simp [enterDecel]
  next hdecel => exact fun h => absurd (hdecel.symm.trans h) (by decide)
  next hdwell => exact fun h => absurd (hdwell.symm.trans h) (by decide)

/-- Where the walker holds the drum exactly when it is its turn, a selection brings no loss and no regain. -/
theorem handWalker_of_turn {s : State} (h : s.holds = s.walkerTurn) : handWalker s = s := by
  unfold handWalker
  rw [h]
  cases s.walkerTurn <;> rfl

theorem selectDemand_fromWalker {s : State} (h : s.selectDemand.fromWalker = true) : s.walkerTurn = true := by
  unfold State.selectDemand at h
  unfold State.walkerTurn
  split at h
  · cases h
  next hstop =>
    split at h
    · cases h
    next hover => simp [hstop, hover]

theorem holds_eq_walkerTurn {s : State} (hdemand : s.demandLaw) (hwalk : s.walkerTurn = true → s.holds = true) :
    s.holds = s.walkerTurn := by
  have hback : s.holds = true → s.walkerTurn = true := fun h => by
    rw [State.holds, hdemand.1] at h
    exact selectDemand_fromWalker h
  cases hturn : s.walkerTurn
  · exact Bool.eq_false_iff.mpr fun h => Bool.false_ne_true (hturn.symm.trans (hback h))
  · exact hwalk hturn

section CoolSpeed

variable {s : State} {v : Half} {c : Nat}

theorem storing_cool_winner (hdemand : s.demandLaw) (hwalk : s.walkerTurn = true → s.holds = true) :
    (s.storing .coolSpeed v c).named.drum.winner =
      if s.stopDemand = false ∧ s.overrides = true then .override c else s.drum.winner := by
  have hturn : (s.storing .coolSpeed v c).holds = (s.storing .coolSpeed v c).walkerTurn :=
    (holds_eq_walkerTurn hdemand hwalk : s.holds = s.walkerTurn)
  have hselect : (s.storing .coolSpeed v c).selectDemand =
      if s.stopDemand then .stop else if s.overrides then .override c else s.segmentDemand := by
    rw [State.selectDemand, storing_param_same]
    rfl
  rw [State.named, handWalker_of_turn hturn, State.setDrum_drum, hselect, hdemand.1, State.selectDemand]
  cases s.stopDemand <;> cases s.overrides <;> rfl

/-- A drum in RAMP under the override runs toward the new speed: it has acted on it, or had that speed before. -/
theorem storing_cool_target (hdrum : s.drumLaw) (hdemand : s.demandLaw)
    (hwalk : s.walkerTurn = true → s.holds = true) (hstop : s.stopDemand = false) (hover : s.overrides = true)
    (hramp : (reselect false (s.storing .coolSpeed v c)).drum.state = .ramp) :
    (reselect false (s.storing .coolSpeed v c)).drum.target = c := by
  have hwinner := storing_cool_winner (v := v) (c := c) hdemand hwalk
  rw [if_pos ⟨hstop, hover⟩] at hwinner
  obtain ⟨-, -, hready, -, -⟩ := hdrum
  have hacts : meetWinner (.override c) (s.storing .coolSpeed v c).named =
      actOn (.override c) (s.storing .coolSpeed v c).named :=
    meetWinner_of_ready (s := (s.storing .coolSpeed v c).named) ((named_drumDeferred _).trans hready) _
  revert hramp
  rw [reselect_eq, hwinner, hacts]
  split
  · exact actOn_override_target
  next hsame =>
    simp only [not_or, not_not] at hsame
    have hold : s.drum.winner = .override c := hsame.1.symm
    rw [named_drum]
    intro hramp
    have hstate : s.drum.state = .ramp := hramp
    have hrun := hdemand.2
    rw [hstate, hold] at hrun
    have hpair : some (Direction.cw, c) = some (s.drum.dir, s.drum.target) := hrun
    simp only [Option.some.injEq, Prod.mk.injEq] at hpair
    exact hpair.2.symm

end CoolSpeed

/-! ### The writes, answered -/

section Writes

variable {s : State} {v : Half} {c : Nat}

theorem shortLimitWrite_acts (hquiet : s.quiet) (hc : c = max 10 (min 1000 v.toNat)) :
    ∃ t, exec (.shortLimitWrite v) s = .next t ∧ s.requestFrame t ∧ t.tables = (s.setParam .shortLimit c).tables ∧
      t.moisture.allShort = min s.moisture.allShort c ∧
      t.present .electrodeShort = (s.present .electrodeShort || decide (c ≤ s.moisture.allShort)) ∧
      replied 0x41 (.plain (if c = v.toNat then .ok else .clamped)) t := by
  have hmoves := applyShortLimit_moves (s.storing .shortLimit v c)
  refine ⟨_, done_paramFrame_of_free (p := .shortLimit) hquiet (by decide) (.inl rfl)
    (hc.trans (clampNat_eq (by decide) _).symm), answered_requestFrame _ hmoves, answered_tables _ hquiet hmoves, ?_, ?_,
    replied_answered hquiet (storing_talks.trans (applyShortLimit_handles _).talks)⟩
  · rw [answered_moves]
    refine (applyShortLimit_allShort _).trans ?_
    rw [storing_param_same]
    rfl
  · rw [answered_present]
    refine (applyShortLimit_present _).trans ?_
    rw [storing_param_same]
    rfl

theorem linkErrLimitWrite_acts (hquiet : s.quiet) (hc : c = max 2 (min 15 v.toNat)) :
    ∃ t, exec (.linkErrLimitWrite v) s = .next t ∧ t.path = s.path ∧ t.tables = (s.setParam .linkErrLimit c).tables ∧
      t.badCount .field = min (s.badCount .field) c ∧ t.badCount .controller = min (s.badCount .controller - 1) c ∧
      t.present .fieldLink = (s.present .fieldLink || decide (c ≤ s.badCount .field)) ∧
      t.present .controllerLink = decide (c ≤ s.badCount .controller - 1) ∧
      replied 0x41 (.plain (if c = v.toNat then .ok else .clamped)) t := by
  have hmoves := fun r => answered_moves 0x41 r
    ((applyLinkLimit .controller (applyLinkLimit .field (s.storing .linkErrLimit v c))).setProgress none)
  have hfield : (s.storing .linkErrLimit v c).badCount .field = s.badCount .field := rfl
  have hcontroller : (s.storing .linkErrLimit v c).badCount .controller = s.badCount .controller - 1 := rfl
  have hpresent : ∀ x, (s.storing .linkErrLimit v c).present x = s.present x := fun _ => rfl
  have ⟨_, habsent, _⟩ := hquiet
  refine ⟨_, done_paramFrame_of_free (p := .linkErrLimit) hquiet (by decide) (.inl rfl)
    (hc.trans (clampNat_eq (by decide) _).symm), ?_, ?_, ?_, ?_, ?_, ?_,
    replied_answered hquiet ((storing_talks.trans (applyLinkLimit_talks _ _)).trans (applyLinkLimit_talks _ _))⟩
  · refine (hmoves _).record.path.trans ((applyLinkLimit_path .controller _).trans ?_)
    exact applyLinkLimit_path .field _
  · refine (hmoves _).record.tables.trans (storing_tables (v := v) hquiet ?_)
    exact (applyLinkLimit_tables .controller _).trans (applyLinkLimit_tables .field _)
  · refine ((hmoves _).record.badCount .field).trans ?_
    rw [State.setProgress_badCount]
    simp [hfield, storing_param_same]
  · refine ((hmoves _).record.badCount .controller).trans ?_
    rw [State.setProgress_badCount]
    simp [hcontroller, storing_param_same]
  · refine (answered_present _ _).trans ?_
    simp [paramWritten, applyLinkLimit_present, hfield, hpresent, storing_param_same, Port.source]
  · refine (answered_present _ _).trans ?_
    simp [paramWritten, applyLinkLimit_present, hcontroller, hpresent, storing_param_same, Port.source, habsent]

theorem airflowSpeedWrite_acts (hquiet : s.quiet) (hc : c = max 100 (min 500 v.toNat)) (hopen : s.isProtected = false)
    (hlaw : s.heatLaw) :
    ∃ t, exec (.airflowSpeedWrite v) s = .next t ∧ s.requestFrame t ∧
      t.tables = (s.setParam .airflowSpeed c).tables ∧
      t.heater.commanded = (if s.drum.state = .ramp ∧ s.speed < c then .l0 else s.heater.commanded) ∧
      replied 0x41 (.plain (if c = v.toNat then .ok else .clamped)) t := by
  have hforce := forceReduction_moves (s.storing .airflowSpeed v c)
  have hmoves : MovesRecord ((s.storing .airflowSpeed v c).setMoisture s.moisture) _ := hforce.drum.action.record
  refine ⟨_, done_paramFrame_of_free (p := .airflowSpeed) hquiet (by decide) (.inr hopen)
    (hc.trans (clampNat_eq (by decide) _).symm), answered_requestFrame _ hmoves, answered_tables _ hquiet hmoves, ?_,
    replied_answered hquiet (storing_talks.trans hforce.drum.talks)⟩
  rw [answered_moves]
  exact storing_airflow_commanded hlaw

theorem coolSpeedWrite_acts (hquiet : s.quiet) (hc : c = max 200 (min 600 v.toNat)) (hdrum : s.drumLaw)
    (hdemand : s.demandLaw) (hwalk : s.walkerTurn = true → s.holds = true) :
    ∃ t, exec (.coolSpeedWrite v) s = .next t ∧ s.requestFrame t ∧ t.tables = (s.setParam .coolSpeed c).tables ∧
      t.drum.winner = (if s.stopDemand = false ∧ s.overrides = true then .override c else s.drum.winner) ∧
      (s.stopDemand = false → s.overrides = true → t.drum.state = .ramp → t.drum.target = c) ∧
      replied 0x41 (.plain (if c = v.toNat then .ok else .clamped)) t := by
  have hselect := reselect_moves false (s.storing .coolSpeed v c)
  have hmoves : MovesRecord ((s.storing .coolSpeed v c).setMoisture s.moisture) _ := hselect.action.record
  refine ⟨_, done_paramFrame_of_free (p := .coolSpeed) hquiet (by decide) (.inl rfl)
    (hc.trans (clampNat_eq (by decide) _).symm), answered_requestFrame _ hmoves, answered_tables _ hquiet hmoves, ?_, ?_,
    replied_answered hquiet (storing_talks.trans hselect.talks)⟩
  · rw [answered_moves]
    exact (reselect_winner false _).trans (storing_cool_winner hdemand hwalk)
  · rw [answered_moves]
    exact storing_cool_target hdrum hdemand hwalk

theorem copyDecimationWrite_acts (hquiet : s.quiet) (hc : c = min 100 v.toNat) :
    exec (.copyDecimationWrite v) s =
      .next (answered 0x41 (.plain (if c = v.toNat then .ok else .clamped))
        ((s.heard.setParam .copyDecimation c).setUpstream { s.upstream with copyCounter := 0 })) := by
  refine (done_paramFrame_of_free (p := .copyDecimation) hquiet (by decide) (.inl rfl)
    (hc.trans (clampNat_zero _ _).symm)).trans (congrArg (fun u => Host.Outcome.next (answered 0x41 _ u)) ?_)
  exact State.setProgress_of_eq (s := (s.heard.setParam .copyDecimation c).setUpstream _) (heard_inProgress hquiet)

theorem reportIntervalWrite_acts (hquiet : s.quiet) (hc : c = min 60 v.toNat) :
    exec (.reportIntervalWrite v) s =
      .next (answered 0x41 (.plain (if c = v.toNat then .ok else .clamped))
        ((s.heard.setParam .reportInterval c).setUpstream { s.upstream with reportTimer := 0 })) := by
  refine (done_paramFrame_of_free (p := .reportInterval) hquiet (by decide) (.inl rfl)
    (hc.trans (clampNat_zero _ _).symm)).trans (congrArg (fun u => Host.Outcome.next (answered 0x41 _ u)) ?_)
  exact State.setProgress_of_eq (s := (s.heard.setParam .reportInterval c).setUpstream _) (heard_inProgress hquiet)

end Writes

/-- Settles O49: each write stores its clamped value, and then does what its parameter's rule says, before the answer. -/
theorem writesThatActAtOnce : Obligations.WritesThatActAtOnce := fun _ _ _ hquiet =>
  ⟨shortLimitWrite_acts hquiet, linkErrLimitWrite_acts hquiet, airflowSpeedWrite_acts hquiet,
    coolSpeedWrite_acts hquiet, copyDecimationWrite_acts hquiet, reportIntervalWrite_acts hquiet⟩

end Sys2Proof.Machine

/-! # What the rest of a SAMPLE's work leaves of the estimator (02 R22; 03 R31)

The estimator has one turn in the order of a SAMPLE (log entry 5). What comes before it and after it leaves its values and
ELECTRODE_SHORT, and can neither begin a phase nor bring the cycle back to ACTIVE. -/

namespace Sys2Proof.Machine

/-! ### Work off the estimator's turn -/

/-- The estimator's values but for the ring and the lowest level stand, with ELECTRODE_SHORT, the tables, the phase record and
the DRY-seen flag, and a cycle that is not ACTIVE stays so. -/
structure OffEstimate (s t : State) : Prop where
  moisture : t.moisture = { s.moisture with ring := t.moisture.ring, lowest := t.moisture.lowest }
  short    : t.present .electrodeShort = s.present .electrodeShort
  tables   : t.tables = s.tables
  record   : t.cycle.record = s.cycle.record
  drySeen  : t.cycle.drySeen = s.cycle.drySeen
  inactive : s.cycle.state ≠ .active → t.cycle.state ≠ .active

theorem OffEstimate.refl (s : State) : OffEstimate s s := ⟨rfl, rfl, rfl, rfl, rfl, id⟩

theorem OffEstimate.trans {s t u : State} (h : OffEstimate s t) (k : OffEstimate t u) : OffEstimate s u where
  moisture := by rw [k.moisture, h.moisture]
  short := k.short.trans h.short
  tables := k.tables.trans h.tables
  record := k.record.trans h.record
  drySeen := k.drySeen.trans h.drySeen
  inactive hs := k.inactive (h.inactive hs)

section OffEstimate

variable {s t : State}

theorem OffEstimate.w16 (h : OffEstimate s t) : t.moisture.w16 = s.moisture.w16 := by rw [h.moisture]
theorem OffEstimate.streak (h : OffEstimate s t) : t.moisture.streak = s.moisture.streak := by rw [h.moisture]
theorem OffEstimate.allShort (h : OffEstimate s t) : t.moisture.allShort = s.moisture.allShort := by rw [h.moisture]
theorem OffEstimate.hits (h : OffEstimate s t) : t.moisture.hits = s.moisture.hits := by rw [h.moisture]

theorem OffEstimate.param (h : OffEstimate s t) (q : Param) : t.param q = s.param q := by
  rw [State.param, h.tables]
  rfl

theorem OffEstimate.of_same (hmoisture : t.moisture = s.moisture) (hcycle : t.cycle = s.cycle)
    (hfaults : t.faults = s.faults) (htables : t.tables = s.tables) : OffEstimate s t :=
  ⟨by rw [hmoisture], by rw [State.present, hfaults]; rfl, htables, by rw [hcycle], by rw [hcycle],
    fun h => by rwa [hcycle]⟩

theorem MovesRecord.offEstimate (h : MovesRecord s t) (hshort : t.present .electrodeShort = s.present .electrodeShort)
    (hinactive : s.cycle.state ≠ .active → t.cycle.state ≠ .active) : OffEstimate s t :=
  ⟨by rw [h], hshort, h.tables, by rw [h], by rw [h], hinactive⟩

theorem MovesDrum.offEstimate (h : MovesDrum s t) : OffEstimate s t :=
  h.action.record.offEstimate (h.action.present _) fun hs => by rwa [h]

theorem MovesUpstream.offEstimate (h : MovesUpstream s t) : OffEstimate s t :=
  h.record.offEstimate (h.present _) fun hs => by rwa [h]

end OffEstimate

/-! ### Changes of the cycle state and of records (08 R148; 09 R158, R159) -/

theorem workOutAction_inactive {s : State} (h : s.cycle.state ≠ .active) : (workOutAction s).cycle.state ≠ .active :=
  ((workOutAction_haltsAtMost s).standsOutsideActive h).1

theorem arise_inactive (x : Source) {s : State} (h : s.cycle.state ≠ .active) : (arise x s).cycle.state ≠ .active := by
  have hring : ∀ t : State, (emptyRingFor x t).cycle = t.cycle := fun t => by
    unfold emptyRingFor
    split <;> rfl
  unfold arise
  split
  · exact h
  · refine workOutAction_inactive ?_
    rw [raiseEvent_cycle]
    show (emptyRingFor x _).cycle.state ≠ .active
    rwa [hring]

theorem goAway_inactive (x : Source) {s : State} (h : s.cycle.state ≠ .active) :
    (goAway x s).cycle.state ≠ .active := by
  unfold goAway
  dsimp only
  split
  · split
    · split
      · exact workOutAction_inactive h
      · exact workOutAction_inactive (by rwa [raiseEvent_cycle])
    · exact h
  · exact h

theorem arise_offEstimate {x : Source} (hx : x ≠ .electrodeShort) (s : State) : OffEstimate s (arise x s) :=
  (arise_moves x s).offEstimate (by simp [hx]) (arise_inactive x)

theorem goAway_offEstimate {x : Source} (hx : x ≠ .electrodeShort) (s : State) : OffEstimate s (goAway x s) :=
  (goAway_moves x s).offEstimate (by simp [hx]) (goAway_inactive x)

theorem handCondition_offEstimate {x : Source} (hx : x ≠ .electrodeShort) (b : Bool) (s : State) :
    OffEstimate s (handCondition x b s) := by
  unfold handCondition
  split
  · exact arise_offEstimate hx s
  · exact goAway_offEstimate hx s

theorem thresholdCheck_offEstimate {x : Source} (hx : x ≠ .electrodeShort) (l : LimitEntry) (r : Temperature)
    (s : State) : OffEstimate s (thresholdCheck x l r s) := by
  unfold thresholdCheck
  split
  · split
    · split
      · exact goAway_offEstimate hx s
      · exact .refl s
    · split
      · exact arise_offEstimate hx s
      · exact .refl s
  · exact .refl s

theorem cycleTo_offEstimate {c : CycleState} (hc : c ≠ .active) (s : State) : OffEstimate s (cycleTo c s) :=
  (cycleTo_moves c s).record.offEstimate ((cycleTo_moves c s).present _) fun _ => by rw [cycleTo_cycle]; exact hc

theorem raiseEvent_offEstimate (k : EventKind) (a : Nat) (s : State) : OffEstimate s (raiseEvent k a s) :=
  (raiseEvent_moves k a s).offEstimate

/-! ### The other blocks' turns (02 R22) -/

theorem limitsSample_offEstimate (s : State) : OffEstimate s (limitsSample s) := by
  unfold limitsSample
  split
  · dsimp only
    refine OffEstimate.trans ?_ (handCondition_offEstimate (by decide) _ _)
    refine OffEstimate.trans ?_ (handCondition_offEstimate (by decide) _ _)
    refine OffEstimate.trans ?_ (handCondition_offEstimate (by decide) _ _)
    refine OffEstimate.trans ?_ (thresholdCheck_offEstimate (by decide) _ _ _)
    exact thresholdCheck_offEstimate (by decide) _ _ _
  · exact .refl s
  · exact .refl s
  · exact .refl s

theorem contactsSample_offEstimate (s : State) : OffEstimate s (contactsSample s) := by
  have hstep : OffEstimate s (stepContacts s) := by
    unfold stepContacts
    split
    · exact .refl s
    · exact .of_same rfl rfl rfl rfl
  exact (hstep.trans (handCondition_offEstimate (by decide) _ _)).trans (handCondition_offEstimate (by decide) _ _)

theorem MovesHeater.offEstimate {s t : State} (h : MovesHeater s t) : OffEstimate s t := by
  rw [h]
  exact ⟨rfl, rfl, rfl, rfl, rfl, id⟩

theorem reactDrum_offEstimate (s : State) : OffEstimate s (reactDrum s) := by
  have hfold : ∀ (l : List Demand) (t : State), OffEstimate t (l.foldl (fun t w => actOn w t) t) := by
    intro l
    induction l with
    | nil => exact .refl
    | cons w ws ih => exact fun t => (actOn_moves w t).offEstimate.trans (ih _)
  have hset : ∀ a, OffEstimate s (s.setAux a) := fun _ => .of_same rfl rfl rfl rfl
  exact (hset _).trans (hfold _ _)

theorem drumEndTest_offEstimate (s : State) : OffEstimate s (drumEndTest s) := by
  have hturning : OffEstimate s (enterTurning s) := by
    have hset : ∀ d w, OffEstimate s ((s.setDrum d).setWalker w) := fun _ _ => .of_same rfl rfl rfl rfl
    exact ((hset _ _).trans (forceReduction_moves _).drum.offEstimate).trans (goAway_offEstimate (by decide) _)
  unfold drumEndTest
  split
  · split
    · exact hturning
    · exact .refl s
  · split
    · exact (enterDwell_moves s).offEstimate.trans (goAway_offEstimate (by decide) _)
    · exact .refl s
  · exact .refl s
  · exact .refl s
  · exact .refl s

theorem drumSample_offEstimate (late : Bool) (s : State) : OffEstimate s (drumSample late s) := by
  have hnote : ∀ c n, OffEstimate s (noteCurrent c (s.setDrum { s.drum with ocRun := n })) := fun _ _ =>
    .of_same rfl rfl rfl rfl
  have hhand : ∀ h t, OffEstimate t (handOvercurrent h t) := fun h t => by
    unfold handOvercurrent
    split
    · exact .refl t
    · exact handCondition_offEstimate (by decide) _ t
  have hsteps : ∀ t, OffEstimate t (drumEndTest (stepSetpoint (reactDrum t))) := fun t =>
    ((reactDrum_offEstimate t).trans (stepSetpoint_moves _).offEstimate).trans (drumEndTest_offEstimate _)
  unfold drumSample
  dsimp only
  cases late
  · exact ((hnote _ _).trans (hhand _ _)).trans (hsteps _)
  · exact ((hnote _ _).trans (hsteps _)).trans (hhand _ _)

theorem cycleSample_offEstimate (opening : Bool) (s : State) : OffEstimate s (cycleSample opening s) := by
  have hends : ∀ (c : CycleState) (k : EventKind) (a : Nat) (t : State), c ≠ .active →
      OffEstimate t (raiseEvent k a (cycleTo c t)) := fun c k a t hc =>
    (cycleTo_offEstimate hc t).trans (raiseEvent_offEstimate k a _)
  unfold cycleSample
  split
  · split
    · split
      · exact hends _ _ _ s (by decide)
      · exact hends _ _ _ s (by decide)
    · exact (raiseEvent_offEstimate _ _ s).trans (hends _ _ _ _ (by decide))
    · exact .refl s
    · exact .refl s
    · exact .refl s
  · exact .refl s

theorem sampleBlock_offEstimate {b : SampleBlock} (hb : b ≠ .moisture) (s0 : State) (opening late : Bool) (s : State) :
    OffEstimate s (sampleBlock s0 opening late b s) := by
  cases b with
  | limits => exact limitsSample_offEstimate s
  | moisture => exact absurd rfl hb
  | contacts => exact contactsSample_offEstimate s
  | heater => exact (heaterSample_movesHeater s).offEstimate
  | drum => exact drumSample_offEstimate late s
  | cycle => exact cycleSample_offEstimate opening s

theorem sampleWork_offEstimate {order : List SampleBlock} (hb : .moisture ∉ order) (s0 : State) (opening late : Bool)
    (s : State) : OffEstimate s (sampleWork s0 opening late order s) := by
  induction order generalizing s with
  | nil => exact .refl s
  | cons b bs ih =>
    have hne : b ≠ .moisture := fun e => hb (by simp [e])
    exact (sampleBlock_offEstimate hne s0 opening late s).trans (ih (fun hmem => hb (List.mem_cons_of_mem b hmem)) _)

/-! ### From the SAMPLE's arrival to its answer -/

theorem accepting_offEstimate (s : State) (p : List Byte) : OffEstimate s (s.accepting p) := by
  have hdrop : ∀ t : State, OffEstimate t t.dropChoice := fun _ => .of_same rfl rfl rfl rfl
  have hport : ∀ n, OffEstimate s (s.portAfter .field n) := fun _ => .of_same rfl rfl rfl rfl
  have hgood : OffEstimate s (goodFrame .field s) := by
    rw [goodFrame_eq]
    split
    · exact (hport _).trans (goAway_offEstimate (by decide) _)
    · exact hport _
  have hdecode : ∀ t a, OffEstimate t ((decodeSample p t).setAux a) := fun _ _ => .of_same rfl rfl rfl rfl
  exact ((hgood.trans (hdrop _)).trans (hdecode _ _)).trans (goAway_offEstimate (by decide) _)

theorem answer_offEstimate (p : List Byte) (s : State) : OffEstimate s (handOnCopy p (answerDrive s)).refresh := by
  have hdrive : OffEstimate s (answerDrive s) := .of_same rfl rfl rfl rfl
  exact hdrive.trans ((handOnCopy_moves p _).trans (refresh_moves _)).offEstimate

/-- In the order of a SAMPLE each block has one turn. -/
theorem sampleOrder_turn (named : List SampleBlock) (b : SampleBlock) :
    ∃ first rest, fillOrder SampleBlock.all named = first ++ b :: rest ∧ b ∉ first ∧ b ∉ rest := by
  have hnodup := nodup_fillOrder nodup_sampleBlocks named
  obtain ⟨first, rest, heq⟩ := List.append_of_mem ((mem_fillOrder b SampleBlock.all named).mpr (.inr b.mem_all))
  rw [heq, List.nodup_append, List.nodup_cons] at hnodup
  obtain ⟨-, ⟨hrest, -⟩, hdisjoint⟩ := hnodup
  exact ⟨first, rest, heq, fun hmem => hdisjoint b hmem b List.mem_cons_self rfl, hrest⟩

/-- An accepted SAMPLE is the estimator's turn, between work that leaves its values. -/
theorem accepted_estimate (s : State) (p : List Byte) :
    ∃ u, OffEstimate s u ∧
      OffEstimate (moistureSample (s.accepting p) u) (handOnCopy p (answerDrive (s.worked p))).refresh := by
  obtain ⟨first, rest, horder, hfirst, hrest⟩ := sampleOrder_turn s.choice.sample .moisture
  refine ⟨s.workedBy p first, ?_, ?_⟩
  · exact ((accepting_offEstimate s p).trans (reselect_moves false _).offEstimate).trans
      (sampleWork_offEstimate hfirst _ _ _ _)
  · rw [State.worked, horder, sampleWork_append]
    exact (sampleWork_offEstimate hrest _ _ _ _).trans (answer_offEstimate p _)

end Sys2Proof.Machine

/-! # Whether the estimator works at a SAMPLE's acceptance (03 R31; 06 R102; 09 R159; log entry 24)

It works in ACTIVE, with the drum TURNING and no untangle pass, as the state at the acceptance has them. A good frame at
which FIELD_LINK goes can change the winner before that; from a state that keeps the laws it does not end a pass of a drum
that turns on. -/

namespace Sys2Proof.Machine

/-! ### An acceptance at which no condition goes -/

theorem goodFrame_of_kept {p : Port} {s : State} (h : s.present (Port.source p) = false ∨ 1 < s.badCount p) :
    goodFrame p s = s.portAfter p (s.badCount p - 1) := by
  rcases h with habsent | hcount
  · exact goodFrame_of_absent habsent
  · rw [goodFrame_eq, if_neg (by omega)]

/-- Without FIELD_SILENT the acceptance is the good frame, the decoding and the marks of a SAMPLE's work. -/
theorem accepting_of_heard {s : State} (h : s.silent = false) (p : List Byte) :
    s.accepting p =
      { goodFrame .field s with path := s.decodedPath p, aux := (s.accepting p).aux } := by
  have hbegin : s.accepting p =
      ((decodeSample p (goodFrame .field s).dropChoice).setAux
        { (decodeSample p (goodFrame .field s).dropChoice).aux with
          drumDeferred := true, deferred := [], airflowWaits := (goodFrame .field s).dropChoice.slowRamp }) := by
    refine goAway_of_absent ?_
    show (goodFrame .field s).present .fieldSilent = false
    rw [goodFrame_present, show s.present .fieldSilent = false from h]
    rfl
  rw [← accepting_path s p, hbegin]
  rfl

theorem accepting_of_kept {s : State} (hsilent : s.silent = false)
    (hlink : s.present .fieldLink = false ∨ 1 < s.badCount .field) (p : List Byte) :
    s.accepting p =
      { s with links := (s.accepting p).links, path := s.decodedPath p, aux := (s.accepting p).aux } := by
  have haccepting := accepting_of_heard hsilent p
  rw [goodFrame_of_kept (p := .field) hlink] at haccepting
  rw [haccepting]
  rfl

/-! ### The highest action once a record counts no more (09 R159) -/

theorem Action.code_inj {a b : Action} (h : a.code = b.code) : a = b := by
  revert h
  cases a <;> cases b <;> decide

theorem Action.higher_code (a b : Action) : (a.higher b).code = max a.code b.code := by
  unfold Action.higher
  split <;> omega

/-- The highest action does not rise where no record begins to count. -/
theorem highestAction_le {s t : State} (hcounts : ∀ x, t.counts x = true → s.counts x = true)
    (haction : ∀ x, t.action x = s.action x) : t.highestAction.code ≤ s.highestAction.code := by
  have hfold : ∀ (l : List Source) (a b : Action), a.code ≤ b.code →
      (l.foldl (fun a x => if t.counts x then a.higher (t.action x) else a) a).code ≤
        (l.foldl (fun a x => if s.counts x then a.higher (s.action x) else a) b).code := by
    intro l
    induction l with
    | nil => exact fun _ _ h => h
    | cons x xs ih =>
      intro a b hab
      refine ih _ _ ?_
      have hx := hcounts x
      dsimp only
      rw [haction x]
      split
      next ht =>
        rw [if_pos (hx ht), Action.higher_code, Action.higher_code]
        omega
      next =>
        split
        · rw [Action.higher_code]
          omega
        · exact hab
  exact hfold _ _ _ le_rfl

theorem raiseEvent_highestAction (k : EventKind) (a : Nat) (s : State) :
    (raiseEvent k a s).highestAction = s.highestAction := by
  unfold State.highestAction State.counts State.record State.action
  rw [raiseEvent_faults]

/-- A record that goes from ACTIVE to another state raises no action. -/
theorem highestAction_of_left {x : Source} {s : State} (h : (s.record x).state = .active) (r : FaultRecord) :
    ((s.setPresent x false).setRecord x r).highestAction.code ≤ s.highestAction.code := by
  refine highestAction_le (fun y hy => ?_) fun _ => rfl
  by_cases hxy : x = y
  · subst hxy
    simp [State.counts, h]
  · rwa [State.counts, State.record_setRecord, if_neg hxy] at hy

/-! ### A pass goes on while the walker has its turn (06 R102, R108) -/

theorem actOn_walker (w : Demand) (s : State) : (actOn w s).walker = s.walker := by
  have hleave : (leaveRamp s).walker = s.walker := by
    unfold leaveRamp
    split <;> simp [enterDwell, enterDecel]
  unfold actOn
  split
  · split <;> simp [enterRamp, enterDwell]
  · split
    · split
      · rfl
      · exact hleave
    · exact hleave
  · split
    · split
      · split <;> simp [enterRamp]
      · simp [enterDecel]
    · simp [enterDecel]
  · rfl
  · split <;> rfl

theorem reselect_walker (n : Bool) (s : State) : (reselect n s).walker = (handWalker s).walker := by
  rw [reselect_eq]
  split
  · unfold meetWinner
    split
    · rfl
    · exact actOn_walker _ _
  · rfl

theorem reselect_pass {s : State} (hturn : s.walkerTurn = true) (n : Bool) :
    (reselect n s).walker.pass = s.walker.pass := by
  rw [reselect_walker]
  unfold handWalker
  rw [hturn, Bool.not_true, Bool.and_false, if_neg Bool.false_ne_true]
  split
  · unfold regainDrum
    split <;> rfl
  · rfl

/-- Nothing but the effective action could take the walker's turn. -/
structure State.turnsFreely (s : State) : Prop where
  active : s.cycle.state = .active
  closed : s.path.door ≠ .isOpen
  heard  : s.silent = false

theorem State.turnsFreely.walkerTurn {s : State} (h : s.turnsFreely) (haction : s.faults.effective.code < 3) :
    s.walkerTurn = true := by
  have hstop : s.faults.effective ≠ .safeStop := fun e => by rw [e] at haction; exact absurd haction (by decide)
  have hcool : s.faults.effective ≠ .coolRun := fun e => by rw [e] at haction; exact absurd haction (by decide)
  simp [State.walkerTurn, State.stopDemand, State.overrides, CycleState.stops, h.active, h.closed, h.heard, hstop, hcool]

/-- An action that falls below one that is no SAFE_STOP leaves the walker its turn. -/
theorem workOutAction_pass {s : State} (hfree : s.turnsFreely) (hsafe : s.faults.effective ≠ .safeStop)
    (hfalls : s.highestAction.code ≤ s.faults.effective.code) : (workOutAction s).walker.pass = s.walker.pass := by
  unfold workOutAction
  dsimp only
  split
  · rfl
  next hne =>
    have hlow : s.highestAction.code < 3 := by
      have hstrict : s.highestAction.code ≠ s.faults.effective.code := fun e => hne (Action.code_inj e)
      have hbound : s.faults.effective.code ≤ 3 := by
        revert hsafe
        cases s.faults.effective <;> decide
      omega
    have hnot : s.highestAction ≠ .safeStop := fun e => by rw [e] at hlow; exact absurd hlow (by decide)
    have hturn : (forceReduction (s.setFaults { s.faults with effective := s.highestAction })).walkerTurn = true := by
      refine State.turnsFreely.walkerTurn ⟨?_, ?_, ?_⟩ ?_
      · simpa using hfree.active
      · simpa using hfree.closed
      · rw [State.silent, State.present, forceReduction_faults]
        exact hfree.heard
      · rwa [forceReduction_faults]
    rw [if_neg hnot, reselect_pass hturn, forceReduction_walker]
    rfl

theorem goAway_pass (x : Source) {s : State} (hfree : s.turnsFreely) (hlaw : s.actionLaw) :
    (goAway x s).walker.pass = s.walker.pass := by
  obtain ⟨heffective, hhalted⟩ := hlaw
  have hsafe : s.faults.effective ≠ .safeStop := fun e => by
    have hstate := hhalted e
    rw [hfree.active] at hstate
    cases hstate
  have hgone : ∀ r, ((s.setPresent x false).setRecord x r).turnsFreely := fun r => by
    refine ⟨hfree.active, hfree.closed, ?_⟩
    show ((s.setPresent x false).present .fieldSilent) = false
    rw [State.present_setPresent]
    split
    · rfl
    · exact hfree.heard
  unfold goAway
  dsimp only
  split
  · split
    next hactive =>
      have hle := highestAction_of_left hactive
      rw [← heffective] at hle
      split
      · exact workOutAction_pass (hgone _) hsafe (hle _)
      · refine (workOutAction_pass ⟨?_, ?_, ?_⟩ ?_ ?_).trans ?_
        · rw [raiseEvent_cycle]; exact (hgone _).active
        · rw [raiseEvent_path]; exact (hgone _).closed
        · rw [State.silent, State.present, raiseEvent_faults]; exact (hgone _).heard
        · rw [raiseEvent_faults]; exact hsafe
        · rw [raiseEvent_highestAction, raiseEvent_faults]; exact hle _
        · rw [raiseEvent_walker]; rfl
    · rfl
  · rfl

/-! ### The run condition at the acceptance (03 R31) -/

theorem estimates_iff (s : State) :
    s.estimates = true ↔ s.cycle.state = .active ∧ s.drum.state = .turning ∧ s.walker.pass = false := by
  simp [State.estimates, and_assoc]

theorem accepting_notTurning {s : State} (h : s.drum.state ≠ .turning) (p : List Byte) :
    (s.accepting p).drum.state ≠ .turning := by
  have hgood : (goodFrame .field s).drum.state ≠ .turning := by
    rw [goodFrame_eq]
    split
    · exact (goAway_acts _ _).notTurning h
    · exact h
  exact (goAway_acts _ _).notTurning hgood

/-- The going of FIELD_LINK leaves a TURNING drum's pass. -/
theorem accepting_pass {s : State} (hactive : s.cycle.state = .active) (hturning : s.drum.state = .turning)
    (hdemand : s.demandLaw) (haction : s.actionLaw) (p : List Byte) :
    (s.accepting p).walker.pass = s.walker.pass := by
  obtain ⟨-, -, hdoor, hsilent⟩ := turning_demands hdemand hturning
  have hport : ∀ n, (s.portAfter .field n).turnsFreely := fun _ => ⟨hactive, hdoor, hsilent⟩
  rw [accepting_of_heard hsilent]
  show (goodFrame .field s).walker.pass = s.walker.pass
  rw [goodFrame_eq]
  split
  · exact goAway_pass _ (hport _) haction
  · rfl

theorem accepting_not_estimates {s : State} (p : List Byte)
    (h : s.cycle.state ≠ .active ∨ s.drum.state ≠ .turning ∨ (s.walker.pass = true ∧ s.demandLaw ∧ s.actionLaw)) :
    ¬(s.accepting p).estimates = true := by
  rw [estimates_iff]
  rintro ⟨hactive, hturning, hpass⟩
  have hwas : s.cycle.state = .active := by
    by_contra hne
    exact (accepting_offEstimate s p).inactive hne hactive
  have hturned : s.drum.state = .turning := by
    by_contra hne
    exact accepting_notTurning hne p hturning
  rcases h with hne | hne | ⟨hpassing, hdemand, haction⟩
  · exact hne hwas
  · exact hne hturned
  · rw [accepting_pass hwas hturned hdemand haction, hpassing] at hpass
    cases hpass

end Sys2Proof.Machine

/-! # The estimator's turn on a SAMPLE (03 R31 to R34, R37, R38, R40, R42, R43, R47) -/

namespace Sys2Proof.Machine

/-! ### The readings of a frame (03 R33, R34, R37) -/

theorem classify_hit_iff (floor e : Nat) : classify floor e = .hit ↔ e ≠ 4095 ∧ floor ≤ e := by
  unfold classify
  split
  next h => simp [h]
  next h => split <;> simp [*]

theorem hitsOf_eq (floor : Nat) (es : List Nat) :
    hitsOf floor es = es.filter fun e => decide (e ≠ 4095 ∧ floor ≤ e) := by
  unfold hitsOf
  exact List.filter_congr fun e _ => by rw [decide_eq_decide]; exact classify_hit_iff floor e

/-- Every reading is a hit, open or a short. -/
theorem length_readings (floor : Nat) (es : List Nat) :
    (es.filter fun e => decide (e ≠ 4095 ∧ floor ≤ e)).length +
      (es.filter fun e => decide (e ≠ 4095 ∧ e < floor)).length + shortsOf es = es.length := by
  unfold shortsOf
  induction es with
  | nil => rfl
  | cons e es ih =>
    simp only [List.filter_cons, decide_eq_true_eq, apply_ite List.length, List.length_cons]
    split_ifs <;> omega

theorem allShortFrame_iff (es : List Nat) : allShortFrame es = true ↔ ∀ e ∈ es, e = 4095 := by
  simp [allShortFrame, shortsOf]

theorem trimmed_eq (trim e : Nat) : trimmed trim e = (max 0 (min 4094 ((e : Int) + 16 * ((trim : Int) - 8)))).toNat := by
  rw [trimmed, clampInt_eq (by decide)]

/-- The statement of O31 takes the hits as integers before it maps them. -/
theorem map_readings_cast (f : Int → Nat) (es : List Nat) :
    ((do let e ← es; pure (e : Int)) : List Int).map f = es.map fun e : Nat => f e := by
  induction es with
  | nil => rfl
  | cons e es ih => exact congrArg (f e :: ·) ih

/-- The frame moisture is the mean over the readings that are not shorts, an open one counting 0. -/
theorem frameMoisture_eq (m : Nat → Nat) (floor trim : Nat) (es : List Nat) :
    frameMoisture m floor trim es =
      ((es.filter fun e => decide (e ≠ 4095 ∧ floor ≤ e)).map fun e : Nat =>
        curveMap m (max 0 (min 4094 ((e : Int) + 16 * ((trim : Int) - 8)))).toNat).sum /
      ((es.filter fun e => decide (e ≠ 4095 ∧ floor ≤ e)).length +
        (es.filter fun e => decide (e ≠ 4095 ∧ e < floor)).length) := by
  have hdivisor : es.length - shortsOf es = (es.filter fun e => decide (e ≠ 4095 ∧ floor ≤ e)).length +
      (es.filter fun e => decide (e ≠ 4095 ∧ e < floor)).length := by
    rw [← length_readings floor es]
    omega
  rw [frameMoisture, hitsOf_eq, hdivisor]
  simp only [trimmed_eq]

/-! ### An all-short frame (03 R37, R38) -/

theorem allShortWork_moves (s : State) :
    MovesRecord
      (s.setMoisture { s.moisture with allShort := satSucc (s.param .shortLimit) s.moisture.allShort, hits := 0 })
      (allShortWork s) := by
  unfold allShortWork
  dsimp only
  split
  · exact arise_moves _ _
  · exact .refl _

theorem allShortWork_present (s : State) :
    (allShortWork s).present .electrodeShort =
      (s.present .electrodeShort ||
        decide (s.param .shortLimit ≤ satSucc (s.param .shortLimit) s.moisture.allShort)) := by
  unfold allShortWork
  dsimp only
  split
  next h => simp [h]
  next h => simp [h]

/-! ### Any other frame (03 R37 to R43) -/

/-- The state once the values of stages 1 to 6 are taken and ELECTRODE_SHORT has gone, before DRY is signalled. -/
def contactTaken (s0 s : State) : State :=
  goAway .electrodeShort (s.setMoisture
    { s.moisture with
      allShort := 0, hits := (hitsOf (s0.param .contactFloor) s0.electrodes).length, w16 := s0.nextW16,
      streak := s0.nextStreak })

theorem contactWork_eq (s0 s : State) :
    contactWork s0 s = if s0.dryDue then takeDry (contactTaken s0 s) else contactTaken s0 s := rfl

theorem contactTaken_moisture (s0 s : State) :
    (contactTaken s0 s).moisture =
      { s.moisture with
        allShort := 0, hits := (hitsOf (s0.param .contactFloor) s0.electrodes).length, w16 := s0.nextW16,
        streak := s0.nextStreak, ring := (contactTaken s0 s).moisture.ring,
        lowest := (contactTaken s0 s).moisture.lowest } := by
  rw [contactTaken, goAway_moves .electrodeShort (s.setMoisture _)]
  rfl

theorem contactTaken_record (s0 s : State) : (contactTaken s0 s).cycle.record = s.cycle.record := by
  rw [contactTaken, goAway_moves .electrodeShort (s.setMoisture _)]
  rfl

theorem contactWork_movesPhase (s0 s : State) : MovesPhase (contactTaken s0 s) (contactWork s0 s) := by
  rw [contactWork_eq]
  split
  · exact takeDry_movesPhase _
  · exact .refl _

theorem contactWork_w16 (s0 s : State) : (contactWork s0 s).moisture.w16 = s0.nextW16 := by
  rw [(contactWork_movesPhase s0 s).keepsSampleValues.w16, contactTaken_moisture]

theorem contactWork_allShort (s0 s : State) : (contactWork s0 s).moisture.allShort = 0 := by
  rw [(contactWork_movesPhase s0 s).keepsSampleValues.allShort, contactTaken_moisture]

theorem contactWork_hits (s0 s : State) :
    (contactWork s0 s).moisture.hits = (hitsOf (s0.param .contactFloor) s0.electrodes).length := by
  rw [(contactWork_movesPhase s0 s).keepsSampleValues.hits, contactTaken_moisture]

theorem contactWork_present (s0 s : State) : (contactWork s0 s).present .electrodeShort = false := by
  rw [(contactWork_movesPhase s0 s).present, contactTaken, goAway_present]
  simp

theorem contactWork_streak {s0 : State} (h : s0.dryDue = false) (s : State) :
    (contactWork s0 s).moisture.streak = s0.nextStreak := by
  rw [contactWork_eq, h, if_neg Bool.false_ne_true, contactTaken_moisture]

theorem endPhase_drySeen (s : State) : (endPhase .dry s).cycle.drySeen = true := by
  unfold endPhase
  dsimp only
  split <;> simp [markEnd, Cycle.to]

/-- At the DRY signal the phase ends DRY, or the cycle has left ACTIVE at the going of ELECTRODE_SHORT and the streak stands
(03 R43; 07 R127). -/
theorem contactWork_dry {s0 s : State} (h : s0.dryDue = true) (hkind : s.cycle.record.kind = .heatToDry) :
    (contactWork s0 s).cycle.drySeen = true ∨
      ((contactWork s0 s).cycle.state ≠ .active ∧ (contactWork s0 s).moisture.streak = s0.nextStreak) := by
  rw [contactWork_eq, h, if_pos rfl]
  unfold takeDry
  split
  · exact .inl (endPhase_drySeen _)
  next hnot =>
    rw [contactTaken_record, hkind] at hnot
    exact .inr ⟨fun hactive => hnot ⟨hactive, rfl⟩, by rw [contactTaken_moisture]⟩

/-! ### The turn, by the frame -/

theorem moistureSample_allShort {s0 : State} (hruns : s0.estimates = true) (h : ∀ e ∈ s0.electrodes, e = 4095)
    (s : State) : moistureSample s0 s = allShortWork s := by
  rw [moistureSample, if_pos hruns, if_pos ((allShortFrame_iff _).mpr h)]

theorem moistureSample_contact {s0 : State} (hruns : s0.estimates = true) (h : ¬∀ e ∈ s0.electrodes, e = 4095)
    (s : State) : moistureSample s0 s = contactWork s0 s := by
  rw [moistureSample, if_pos hruns, if_neg (mt (allShortFrame_iff _).mp h)]

theorem moistureSample_holds {s0 : State} (h : ¬s0.estimates = true) (s : State) : moistureSample s0 s = s := if_neg h

/-! ### The values at the acceptance (03 R31, R32) -/

/-- The estimator works at the SAMPLE, on the state as it stood (03 R31; log entry 24). -/
structure State.worksOn (s : State) (p : List Byte) : Prop where
  active    : s.cycle.state = .active
  turning   : s.drum.state = .turning
  noPass    : s.walker.pass = false
  accepting : s.accepting p =
    { s with links := (s.accepting p).links, path := s.decodedPath p, aux := (s.accepting p).aux }

namespace State.worksOn

variable {s u t : State} {p : List Byte}

theorem estimates (h : s.worksOn p) : (s.accepting p).estimates = true := by
  rw [estimates_iff, h.accepting]
  exact ⟨h.active, h.turning, h.noPass⟩

theorem electrodes : (s.accepting p).electrodes = (decodeReadings p).electrodes := by
  rw [State.electrodes, accepting_path, decodedPath_eq]
  rfl

theorem param (h : s.worksOn p) (q : Param) : (s.accepting p).param q = s.param q := by
  rw [h.accepting]
  rfl

theorem kind (h : s.worksOn p) : (s.accepting p).cycle.record = s.cycle.record := by rw [h.accepting]

/-- W16 moves by the frame moisture of the decoded readings (03 R37, R40). -/
theorem nextW16 (h : s.worksOn p) :
    (s.accepting p).nextW16 =
      filterW16 s.moisture.w16
        (frameMoisture s.curve (s.param .contactFloor) (s.param .electrodeTrim) (decodeReadings p).electrodes)
        s.cycle.record.depth := by
  have hcurve : (s.accepting p).curve = s.curve := by rw [h.accepting]; rfl
  have hw16 : (s.accepting p).moisture = s.moisture := by rw [h.accepting]
  rw [State.nextW16, hcurve, hw16, h.param, h.param, h.kind, electrodes]

/-- The streak follows W16 in HEAT_TO_DRY, by 2 where the slope assist holds (03 R42, R47). -/
theorem nextStreak (h : s.worksOn p) (hkind : s.cycle.record.kind = .heatToDry) :
    (s.accepting p).nextStreak =
      stepStreak (s.accepting p).nextW16 s.cycle.record.dryness s.cycle.record.confirm s.moisture.streak
        (slopeHolds s.moisture.ring s.heater.commanded (s.param .slopeAssist)) := by
  have hmoisture : (s.accepting p).moisture = s.moisture := by rw [h.accepting]
  have hheater : (s.accepting p).heater = s.heater := by rw [h.accepting]
  rw [State.nextStreak, h.kind, if_pos hkind, hmoisture, hheater, h.param]

theorem nextStreak_of_other (h : s.worksOn p) (hkind : s.cycle.record.kind ≠ .heatToDry) :
    (s.accepting p).nextStreak = s.moisture.streak := by
  rw [State.nextStreak, h.kind, if_neg hkind, h.accepting]

theorem dryDue_iff (h : s.worksOn p) :
    (s.accepting p).dryDue = true ↔
      s.cycle.record.kind = .heatToDry ∧ (s.accepting p).nextStreak = s.cycle.record.confirm := by
  rw [State.dryDue, Bool.and_eq_true, decide_eq_true_eq, decide_eq_true_eq, h.kind]

/-! ### The three outcomes -/

/-- An all-short frame moves the all-short count and ELECTRODE_SHORT, and the hit count is 0 (03 R37, R38). -/
theorem allShort (h : s.worksOn p) (hbefore : OffEstimate s u)
    (hafter : OffEstimate (moistureSample (s.accepting p) u) t)
    (hshort : ∀ e ∈ (decodeReadings p).electrodes, e = 4095) :
    t.moisture.w16 = s.moisture.w16 ∧ t.moisture.streak = s.moisture.streak ∧ t.moisture.hits = 0 ∧
      t.moisture.allShort = satSucc (s.param .shortLimit) s.moisture.allShort ∧
      t.present .electrodeShort =
        (s.present .electrodeShort || decide (s.param .shortLimit ≤ t.moisture.allShort)) := by
  rw [moistureSample_allShort h.estimates (by rwa [electrodes])] at hafter
  have hmoves := allShortWork_moves u
  have hcount : t.moisture.allShort = satSucc (s.param .shortLimit) s.moisture.allShort := by
    rw [hafter.allShort, hmoves, ← hbefore.param, ← hbefore.allShort]
    rfl
  refine ⟨?_, ?_, ?_, hcount, ?_⟩
  · rw [hafter.w16, hmoves]
    exact hbefore.w16
  · rw [hafter.streak, hmoves]
    exact hbefore.streak
  · rw [hafter.hits, hmoves]
    rfl
  · rw [hafter.short, allShortWork_present, hbefore.short, hbefore.param, hbefore.allShort, hcount]

section Contact

variable (h : s.worksOn p) (hafter : OffEstimate (contactWork (s.accepting p) u) t)

include h hafter

theorem contact_streak_of_other (hkind : s.cycle.record.kind ≠ .heatToDry) :
    t.moisture.streak = s.moisture.streak := by
  have hno : (s.accepting p).dryDue = false := Bool.eq_false_iff.mpr fun hdue => hkind (h.dryDue_iff.mp hdue).1
  rw [hafter.streak, contactWork_streak hno, h.nextStreak_of_other hkind]

/-- Short of the confirm count the streak is as stage 6 leaves it; at it the phase ends DRY, unless the cycle has left ACTIVE
(03 R42, R43). -/
theorem contact_streak (hbefore : OffEstimate s u) (hkind : s.cycle.record.kind = .heatToDry) :
    ((s.accepting p).nextStreak ≠ s.cycle.record.confirm → t.moisture.streak = (s.accepting p).nextStreak) ∧
    ((s.accepting p).nextStreak = s.cycle.record.confirm →
      (t.cycle.state = .active → t.cycle.drySeen = true) ∧
      (t.cycle.drySeen = true ∨ t.moisture.streak = (s.accepting p).nextStreak)) := by
  refine ⟨fun hshort => ?_, fun hconfirmed => ?_⟩
  · have hno : (s.accepting p).dryDue = false := Bool.eq_false_iff.mpr fun hdue => hshort (h.dryDue_iff.mp hdue).2
    rw [hafter.streak, contactWork_streak hno]
  · rcases contactWork_dry (h.dryDue_iff.mpr ⟨hkind, hconfirmed⟩) (by rwa [hbefore.record]) with hdry | ⟨hleft, hstreak⟩
    · have hseen : t.cycle.drySeen = true := hafter.drySeen.trans hdry
      exact ⟨fun _ => hseen, .inl hseen⟩
    · exact ⟨fun hactive => absurd hactive (hafter.inactive hleft), .inr (hafter.streak.trans hstreak)⟩

end Contact

end State.worksOn

/-- Outside its run condition the estimator holds. -/
theorem estimator_holds {s u t : State} {p : List Byte} (hno : ¬(s.accepting p).estimates = true)
    (hbefore : OffEstimate s u) (hafter : OffEstimate (moistureSample (s.accepting p) u) t) :
    t.moisture.w16 = s.moisture.w16 ∧ t.moisture.streak = s.moisture.streak ∧ t.moisture.hits = s.moisture.hits ∧
      t.moisture.allShort = s.moisture.allShort ∧ t.present .electrodeShort = s.present .electrodeShort := by
  rw [moistureSample_holds hno] at hafter
  have hall := hbefore.trans hafter
  exact ⟨hall.w16, hall.streak, hall.hits, hall.allShort, hall.short⟩

/-- Settles O31: the rest of the SAMPLE's work leaves the estimator, whose one turn reads the state at the acceptance. -/
theorem estimatorWorksOrHoldsOnASample : Obligations.EstimatorWorksOrHoldsOnASample := by
  intro s p haccepts
  obtain ⟨u, hbefore, hafter⟩ := accepted_estimate s p
  refine ⟨_, exec_sample_of_accepts haccepts, fun hsilent hlink hactive hturning hpass => ?_,
    fun hheld => estimator_holds (accepting_not_estimates p hheld) hbefore hafter⟩
  have hworks : s.worksOn p := ⟨hactive, hturning, hpass, accepting_of_kept hsilent hlink p⟩
  refine ⟨hworks.allShort hbefore hafter, ?_⟩
  rintro opens hits rfl rfl hsome
  have hreadings := length_readings (s.param .contactFloor) (decodeReadings p).electrodes
  have hmixed : ¬∀ e ∈ (s.accepting p).electrodes, e = 4095 := by
    rw [State.worksOn.electrodes, ← allShortFrame_iff, allShortFrame, decide_eq_true_eq]
    omega
  rw [moistureSample_contact hworks.estimates hmixed] at hafter
  have hw16 := hafter.w16.trans (contactWork_w16 _ _)
  refine ⟨?_, hafter.allShort.trans (contactWork_allShort _ _), hafter.short.trans (contactWork_present _ _), ?_,
    hworks.contact_streak_of_other hafter, fun n hkind hn => ?_⟩
  · rw [hafter.hits, contactWork_hits, hitsOf_eq, hworks.param, State.worksOn.electrodes]
  · rw [hw16, hworks.nextW16, frameMoisture_eq, map_readings_cast]
  · have hstreak : n = (s.accepting p).nextStreak := by
      rw [hn, hw16, hworks.nextStreak hkind]
      rfl
    rw [hstreak]
    exact hworks.contact_streak hafter hbefore hkind

end Sys2Proof.Machine

/-! # What a command is made of

Every command but RESET, and every millisecond with no command waiting, is one event of a short list, or a few of them in a
row. A law that each of these events keeps is kept by every step. -/

namespace Sys2Proof.Machine

/-- The events of the part: the lines and transmitters, what the two ports receive, the time base and the gap timer. -/
inductive Event (s : State) : State → Prop
  | lines (b : Links) : Event s (s.setLinks b)
  | transmit (b : Links) : Event s (serve (startTransmission (s.setLinks b)))
  | receive (p : Port) (r : Receiver) : Event s (s.setReceiver p r)
  | bad (p : Port) : Event s (badFrame p s)
  | good : Event s (goodFrame .field s)
  | sample (p : List Byte) (h : s.accepts p) : Event s (handOnCopy p (answerDrive (s.worked p)))
  | request (f : Frame) : Event s (controllerFrame f s)
  | gapTick : Event s s.gapTick
  | gapExpiry : Event s (gapExpiry s)
  | tick : Event s s.tick
  | tenth (first : List TenthBlock) : Event s (runTenth first s)
  | uncountedTenth : Event s (runUncountedTenth s)

/-- Events one after another. -/
def Events : State → State → Prop := Relation.ReflTransGen Event

theorem Events.refl (s : State) : Events s s := Relation.ReflTransGen.refl

theorem Events.trans {s t u : State} (h : Events s t) (k : Events t u) : Events s u := Relation.ReflTransGen.trans h k

theorem Event.events {s t : State} (h : Event s t) : Events s t := Relation.ReflTransGen.single h

/-- What every event keeps, events in a row keep. -/
theorem Events.keep {P : State → Prop} (hevent : ∀ {s t}, Event s t → P s → P t) {s t : State} (h : Events s t) :
    P s → P t := by
  induction h with
  | refl => exact id
  | tail _ hlast ih => exact fun hs => hevent hlast (ih hs)

/-! ### The commands (01, 02, 10, 11) -/

theorem dueTenth_events (due : Bool) (b : TenthBlock) (s : State) : Events s (dueTenth due b s) := by
  unfold dueTenth
  split
  · exact (Event.tenth [b]).events
  · exact .refl s

/-- A frame on the field port is a bad frame, a good one that moves nothing else, or an accepted SAMPLE (01 R5; 02 R15). -/
theorem fieldFrame_event (f : Frame) (s : State) : Event s (fieldFrame f s) := by
  obtain ⟨kind, p⟩ := f
  by_cases hk : kind = 0x21
  · subst hk
    cases hok : samplePayloadOk p with
    | false =>
      rw [fieldFrame_badSample hok]
      exact .bad .field
    | true =>
      by_cases hlast : s.path.lastSeq = some (byteAt p 0)
      · rw [fieldFrame_sample hok, takeSample_duplicate (by rw [goodFrame_path]; exact hlast)]
        exact .good
      · rw [fieldFrame_of_accepts ⟨hok, hlast⟩]
        exact .sample p ⟨hok, hlast⟩
  · have hnat : kind.toNat ≠ 0x21 := fun e => hk (BitVec.eq_of_toNat_eq e)
    unfold fieldFrame
    rw [if_neg hnat]
    split
    · exact .bad .field
    · exact .good

theorem byteArrives_event (p : Port) (b : Byte) (err : Bool) (s : State) : Event s (byteArrives p b err s) := by
  unfold byteArrives
  split
  · exact .receive p _
  next f _ =>
    cases p with
    | field => exact fieldFrame_event f s
    | controller => exact .request f
  · exact .bad p

theorem gapBetweenBytes_events (p : Port) (s : State) : Events s (gapBetweenBytes p s) := by
  unfold gapBetweenBytes
  split
  · exact .refl s
  · exact (Event.bad p).events

theorem paramArrives_events (p : Param) (v : Half) (s : State) : Events s (paramArrives p v s) := by
  unfold paramArrives writeArrives
  exact (Event.request _).events

/-- Every command but RESET is made of events, and ends with the level flag and ATTN worked out (11 R185, R186). -/
theorem exec_events {c : Instr} (hc : ∀ high, c ≠ .reset high) (s : State) :
    ∃ t, exec c s = .next t.refresh ∧ Events s t := by
  cases c with
  | reset high => exact absurd rfl (hc high)
  | sample p => exact ⟨_, rfl, (fieldFrame_event _ s).events⟩
  | fieldOtherFrame kind p => exact ⟨_, rfl, (fieldFrame_event _ s).events⟩
  | sampleCopy p =>
    refine ⟨_, rfl, ?_⟩
    split
    · exact (fieldFrame_event _ s).events
    · exact .refl s
  | byteArrival port b parity stop => exact ⟨_, rfl, (byteArrives_event port b _ s).events⟩
  | badFrame port => exact ⟨_, rfl, (Event.bad port).events⟩
  | interByteGapExpiry port => exact ⟨_, rfl, gapBetweenBytes_events port s⟩
  | gapExpiry => exact ⟨_, rfl, Event.gapExpiry.events⟩
  | tenth => exact ⟨_, rfl, (Event.tenth []).events⟩
  | secondExpiry =>
    refine ⟨_, rfl, ?_⟩
    split
    · exact (Event.tenth []).events
    · exact .refl s
  | lateBreach | dwellSpanEnd | motorStall | drumOverrun | segmentEnd | earlyEnd | tangle | report | timeout | duration
  | cooled | cooldownLimitReached => exact ⟨_, rfl, dueTenth_events _ _ s⟩
  | readyRise | controllerTxEnd => exact ⟨_, rfl, (Event.transmit _).events⟩
  | readyFall | driveTxEnd | serviceChange _ => exact ⟨_, rfl, (Event.lines _).events⟩
  | electrodeBurstWrite v | electrodeTrimWrite v | shortLimitWrite v | linkErrLimitWrite v | keepaliveUpperWrite v
  | keepaliveLowerWrite v | gapSamplesWrite v | airflowSpeedWrite v | coolSpeedWrite v | copyDecimationWrite v
  | reportIntervalWrite v | upstreamLevelWrite v | attnMaskWrite v | protectCountWrite v | protectSideWrite v =>
    exact ⟨_, rfl, paramArrives_events _ v s⟩
  | _ => exact ⟨_, rfl, (Event.request _).events⟩

/-! ### A millisecond with no command waiting (02 R24, R26; 01 R4) -/

theorem gapMillisecond_events (s : State) : Events s (gapMillisecond s) := by
  unfold gapMillisecond
  split
  · exact Event.gapExpiry.events
  · exact Event.gapTick.events

theorem tenthMillisecond_events (before s : State) : Events s (tenthMillisecond before s) := by
  unfold tenthMillisecond
  split
  · split
    · exact Event.uncountedTenth.events
    · exact (Event.tenth []).events
  · exact Event.tick.events

theorem millisecond_events (s : State) : Events s (millisecond s) := by
  have hgaps : Events s (gapBetweenBytes .controller (gapBetweenBytes .field s)) :=
    (gapBetweenBytes_events .field s).trans (gapBetweenBytes_events .controller _)
  unfold millisecond
  dsimp only
  split
  · exact (hgaps.trans (gapMillisecond_events _)).trans (tenthMillisecond_events s _)
  · exact (hgaps.trans (tenthMillisecond_events s _)).trans (gapMillisecond_events _)

/-- What a reset makes true, and the taking of a command, every event, and the working out of level flag and ATTN keep,
every step keeps. -/
theorem step_keeps {P : State → Prop} (htake : ∀ (s : State) (q : List Instr), P s → P { s with pending := q })
    (hrefresh : ∀ s : State, P s → P s.refresh) (hreset : ∀ high s, P (startTransmission (resetFrom high s)))
    (hevent : ∀ {s t}, Event s t → P s → P t) {s t : State} (h : step s = .next t) (hs : P s) : P t := by
  cases hqueue : s.pending with
  | nil =>
    rw [step_of_idle hqueue] at h
    rw [← Host.Outcome.next.inj h]
    exact hrefresh _ ((millisecond_events s).keep hevent hs)
  | cons c rest =>
    have hexec : step s = exec c { s with pending := rest } := by
      unfold step
      rw [hqueue]
    rw [hexec] at h
    by_cases hc : ∀ high, c ≠ .reset high
    · obtain ⟨u, hu, hevents⟩ := exec_events hc { s with pending := rest }
      rw [hu] at h
      rw [← Host.Outcome.next.inj h]
      exact hrefresh _ (hevents.keep hevent (htake s rest hs))
    · simp only [not_forall, not_not] at hc
      obtain ⟨high, rfl⟩ := hc
      have hu : exec (.reset high) { s with pending := rest } =
          .next (startTransmission (resetFrom high { s with pending := rest })).refresh := rfl
      rw [hu] at h
      rw [← Host.Outcome.next.inj h]
      exact hrefresh _ (hreset high _)

end Sys2Proof.Machine

/-! # The heat law (04 R63, R64)

Whatever may lower the permitted level ends with the forced reduction, and the forced reduction makes the law true. The law
fails in one place alone: between the decoding of a SAMPLE whose tacho fell below AIRFLOW_SPEED in RAMP and the stager's turn
on that SAMPLE, which makes it true again (log entry 21). -/

namespace Sys2Proof.Machine

/-! ### How the law passes on -/

/-- Where the heat law held before, it holds after. -/
def KeepsHeat (s t : State) : Prop := s.heatLaw → t.heatLaw

theorem KeepsHeat.refl (s : State) : KeepsHeat s s := id

theorem KeepsHeat.trans {s t u : State} (h : KeepsHeat s t) (k : KeepsHeat t u) : KeepsHeat s u := k ∘ h

/-- The law that an operation makes true is kept. -/
theorem State.heatLaw.kept {t : State} (h : t.heatLaw) (s : State) : KeepsHeat s t := fun _ => h

/-- What leaves the commanded level, and lowers the permitted level nowhere, keeps the law. -/
theorem KeepsHeat.of_permitted {s t : State} (hcommanded : t.heater.commanded = s.heater.commanded)
    (hpermitted : s.permitted.code ≤ t.permitted.code) : KeepsHeat s t := fun h => by
  unfold State.heatLaw at h ⊢
  rw [hcommanded]
  exact h.trans hpermitted

theorem forceReduction_permitted (s : State) : (forceReduction s).permitted = s.permitted := by
  unfold forceReduction
  split <;> rfl

/-- The forced reduction makes the law true. -/
theorem forceReduction_heatLaw (s : State) : (forceReduction s).heatLaw := by
  rw [State.heatLaw, forceReduction_commanded, forceReduction_permitted]
  exact Nat.min_le_right _ _

theorem MovesUpstream.keepsHeat {s t : State} (h : MovesUpstream s t) : KeepsHeat s t := by
  rw [h]
  exact id

/-- A move of the walker keeps the law while the tangle-persist flag stands. -/
theorem MovesWalker.keepsHeat {s t : State} (h : MovesWalker s t) (hpersist : t.walker.persist = s.walker.persist) :
    KeepsHeat s t := by
  have hcap : t.phaseCap = s.phaseCap := by
    rw [State.phaseCap, hpersist, show t.cycle = s.cycle by rw [h]]
    rfl
  refine .of_permitted (by rw [h]) ?_
  rw [permitted_code, permitted_code, hcap, h]
  exact le_rfl

/-! ### The walker (06) -/

theorem loseDrum_persist (s : State) : (loseDrum s).walker.persist = s.walker.persist := by
  unfold loseDrum
  dsimp only
  split
  · rfl
  · split <;> rfl

theorem regainDrum_persist (s : State) : (regainDrum s).walker.persist = s.walker.persist := by
  unfold regainDrum
  split <;> rfl

theorem handWalker_persist (s : State) : (handWalker s).walker.persist = s.walker.persist := by
  unfold handWalker
  split
  · exact loseDrum_persist s
  · split
    · exact regainDrum_persist s
    · rfl

theorem endPass_persist (s : State) : (endPass s).walker.persist = s.walker.persist := by
  unfold endPass
  split <;> rfl

theorem passAt_persist (b r i : Nat) (s : State) : (passAt b r i s).walker.persist = s.walker.persist := by
  unfold passAt
  split
  · rfl
  · exact endPass_persist s

theorem advanceWalker_persist (s : State) : (advanceWalker s).walker.persist = s.walker.persist := by
  unfold advanceWalker
  split
  · rfl
  · split
    · split
      · exact endPass_persist s
      · exact passAt_persist _ _ _ s
    · rfl

theorem endTangled_persist (s : State) : (endTangled s).walker.persist = s.walker.persist := by
  unfold endTangled
  split
  · rfl
  · split
    · exact passAt_persist _ _ _ _
    all_goals rfl

/-! ### The drum (05 R78; 04 R62) -/

theorem setDrum_keepsHeat (s : State) {d : Drum} (h : d.state = s.drum.state) : KeepsHeat s (s.setDrum d) := by
  refine .of_permitted rfl (le_of_eq ?_)
  simp only [permitted_code, airflow_code, State.setDrum_drum, h]
  rfl

theorem leaveRamp_heatLaw (s : State) : (leaveRamp s).heatLaw := by
  unfold leaveRamp
  split <;> exact forceReduction_heatLaw _

theorem actOn_keepsHeat (w : Demand) (s : State) : KeepsHeat s (actOn w s) := by
  have hforced : ∀ d, KeepsHeat s (forceReduction (s.setDrum d)) := fun _ => (forceReduction_heatLaw _).kept s
  have hleave : KeepsHeat s (leaveRamp s) := (leaveRamp_heatLaw s).kept s
  unfold actOn
  split
  · split
    · exact .refl s
    · exact hforced _
    · exact hforced _
    · exact hforced _
  · split
    · split
      · exact setDrum_keepsHeat s rfl
      · exact hleave
    · exact hleave
  · split
    · split
      · split
        · exact .refl s
        · exact hforced _
      · exact hforced _
    · exact hforced _
  · exact .refl s
  · split
    · exact .refl s
    · exact .refl s
    · exact .refl s
    · exact setDrum_keepsHeat s rfl

theorem reselect_keepsHeat (n : Bool) (s : State) : KeepsHeat s (reselect n s) := by
  have hnamed : KeepsHeat s s.named :=
    ((handWalker_moves s).keepsHeat (handWalker_persist s)).trans (setDrum_keepsHeat _ rfl)
  rw [reselect_eq]
  split
  · refine hnamed.trans ?_
    unfold meetWinner
    split
    · exact id
    · exact actOn_keepsHeat _ _
  · exact hnamed

theorem endDwell_keepsHeat (s : State) : KeepsHeat s (endDwell s) := by
  have hforced : ∀ t d, KeepsHeat s (forceReduction (State.setDrum t d)) := fun _ _ => (forceReduction_heatLaw _).kept s
  have hnext : KeepsHeat s
      ((advanceWalker s).setDrum { (advanceWalker s).drum with winner := (advanceWalker s).segmentDemand }) :=
    ((advanceWalker_moves s).keepsHeat (advanceWalker_persist s)).trans (setDrum_keepsHeat _ rfl)
  unfold endDwell
  split
  · exact hforced _ _
  · exact hforced _ _
  · exact hforced _ _
  · dsimp only
    split
    · exact hforced _ _
    · exact hforced _ _
    · exact hforced _ _
    · exact hnext.trans (setDrum_keepsHeat _ rfl)

/-! ### Cycle state, effective action, records (04 R59, R61; 08; 09 R158, R159) -/

theorem raiseEvent_keepsHeat (k : EventKind) (a : Nat) (s : State) : KeepsHeat s (raiseEvent k a s) :=
  (raiseEvent_moves k a s).keepsHeat

theorem cycleTo_heatLaw (c : CycleState) (s : State) : (cycleTo c s).heatLaw :=
  reselect_keepsHeat _ _ (forceReduction_heatLaw _)

/-- A change of the cycle state and an event of its own (08). -/
theorem raiseEvent_cycleTo_heatLaw (k : EventKind) (a : Nat) (c : CycleState) (s : State) :
    (raiseEvent k a (cycleTo c s)).heatLaw := raiseEvent_keepsHeat k a _ (cycleTo_heatLaw c s)

theorem workOutAction_keepsHeat (s : State) : KeepsHeat s (workOutAction s) := by
  have hchange : (reselect false (forceReduction (s.setFaults { s.faults with effective := s.highestAction }))).heatLaw :=
    reselect_keepsHeat _ _ (forceReduction_heatLaw _)
  unfold workOutAction
  dsimp only
  split
  · exact .refl s
  · split
    · unfold enterHalted
      split
      · exact hchange.kept s
      · exact (cycleTo_heatLaw _ _).kept s
    · exact hchange.kept s

theorem arise_keepsHeat (x : Source) (s : State) : KeepsHeat s (arise x s) := by
  have hring : ∀ t : State, KeepsHeat t (emptyRingFor x t) := fun t => by
    unfold emptyRingFor
    split <;> exact id
  have hpresent : KeepsHeat s (s.setPresent x true) := id
  have hrecord : ∀ (t : State) r, KeepsHeat t (t.setRecord x r) := fun _ _ => id
  unfold arise
  split
  · exact .refl s
  · exact (((hpresent.trans (hring _)).trans (hrecord _ _)).trans (raiseEvent_keepsHeat _ _ _)).trans
      (workOutAction_keepsHeat _)

theorem goAway_keepsHeat (x : Source) (s : State) : KeepsHeat s (goAway x s) := by
  have hgone : ∀ r, KeepsHeat s ((s.setPresent x false).setRecord x r) := fun _ => id
  unfold goAway
  dsimp only
  split
  · split
    · split
      · exact (hgone _).trans (workOutAction_keepsHeat _)
      · exact ((hgone _).trans (raiseEvent_keepsHeat _ _ _)).trans (workOutAction_keepsHeat _)
    · exact id
  · exact .refl s

theorem handCondition_keepsHeat (x : Source) (b : Bool) (s : State) : KeepsHeat s (handCondition x b s) := by
  unfold handCondition
  split
  · exact arise_keepsHeat x s
  · exact goAway_keepsHeat x s

theorem thresholdCheck_keepsHeat (x : Source) (l : LimitEntry) (t : Temperature) (s : State) :
    KeepsHeat s (thresholdCheck x l t s) := by
  unfold thresholdCheck
  split
  · split
    · split
      · exact goAway_keepsHeat x s
      · exact .refl s
    · split
      · exact arise_keepsHeat x s
      · exact .refl s
  · exact .refl s

/-! ### Phases (04 R59, R60, R64; 07 R123, R132) -/

theorem beginPhase_heatLaw (p : Nat) (r : PhaseRecord) (s : State) : (beginPhase p r s).heatLaw :=
  reselect_keepsHeat _ _ (forceReduction_heatLaw _)

theorem endPhase_heatLaw (e : EndReason) (s : State) : (endPhase e s).heatLaw := by
  unfold endPhase
  dsimp only
  split
  · exact beginPhase_heatLaw _ _ _
  · exact raiseEvent_cycleTo_heatLaw _ _ _ _

theorem takeDry_keepsHeat (s : State) : KeepsHeat s (takeDry s) := by
  unfold takeDry
  split
  · exact (endPhase_heatLaw _ _).kept s
  · exact .refl s

theorem cycleSample_keepsHeat (opening : Bool) (s : State) : KeepsHeat s (cycleSample opening s) := by
  have hends : ∀ k a c (t : State), KeepsHeat s (raiseEvent k a (cycleTo c t)) := fun k a c t =>
    (raiseEvent_cycleTo_heatLaw k a c t).kept s
  unfold cycleSample
  split
  · split
    · split
      · exact hends _ _ _ s
      · exact hends _ _ _ s
    · exact hends _ _ _ _
    · exact .refl s
    · exact .refl s
    · exact .refl s
  · exact .refl s

/-! ### The blocks' work on a SAMPLE (02 R22) -/

theorem limitsSample_keepsHeat (s : State) : KeepsHeat s (limitsSample s) := by
  unfold limitsSample
  split
  · exact ((((thresholdCheck_keepsHeat _ _ _ _).trans (thresholdCheck_keepsHeat _ _ _ _)).trans
      (handCondition_keepsHeat _ _ _)).trans (handCondition_keepsHeat _ _ _)).trans (handCondition_keepsHeat _ _ _)
  all_goals exact .refl s

theorem moistureSample_keepsHeat (s0 s : State) : KeepsHeat s (moistureSample s0 s) := by
  have hset : ∀ m, KeepsHeat s (s.setMoisture m) := fun _ => id
  unfold moistureSample
  split
  · split
    · unfold allShortWork
      dsimp only
      split
      · exact (hset _).trans (arise_keepsHeat _ _)
      · exact hset _
    · unfold contactWork
      dsimp only
      split
      · exact ((hset _).trans (goAway_keepsHeat _ _)).trans (takeDry_keepsHeat _)
      · exact (hset _).trans (goAway_keepsHeat _ _)
  · exact .refl s

theorem contactsSample_keepsHeat (s : State) : KeepsHeat s (contactsSample s) := by
  have hstep : KeepsHeat s (stepContacts s) := by
    unfold stepContacts
    split <;> exact id
  exact (hstep.trans (handCondition_keepsHeat _ _ _)).trans (handCondition_keepsHeat _ _ _)

/-- Neither change that the stager makes at its step goes above the permitted level (04 R65, R66). -/
theorem stageStep_keepsHeat (s : State) : KeepsHeat s (stageStep s) := by
  have htarget : s.targetLevel.code ≤ s.permitted.code := by
    rw [State.targetLevel_code]
    exact Nat.min_le_right _ _
  intro hlaw
  by_cases hred : s.reductionDue = true
  · rw [stageStep_of_reduction hred]
    exact htarget
  · by_cases hup : s.upwardDue = true
    · rw [stageStep_of_upward hup]
      have hlt := ((upwardDue_iff s).mp hup).1
      have htwo := Level.code_le_two s.targetLevel
      show s.heater.commanded.oneHigher.code ≤ s.permitted.code
      rw [Level.oneHigher_code (by omega)]
      omega
    · rwa [stageStep_of_neither hred hup]

/-- The stager's turn makes the law true, whatever the SAMPLE's tacho has done to it before (04 R64; log entry 21). -/
theorem heaterSample_heatLaw (s : State) : (heaterSample s).heatLaw :=
  stageStep_keepsHeat _ (forceReduction_heatLaw _)

/-- The drum's step 2 lifts the airflow of a RAMP that was too slow, and lowers none (04 R62; log entry 21). -/
theorem reactDrum_keepsHeat (s : State) : KeepsHeat s (reactDrum s) := by
  have hmarks : ∀ d w, KeepsHeat s (s.setAux { s.aux with drumDeferred := d, deferred := w, airflowWaits := false }) := by
    refine fun d w => .of_permitted rfl ?_
    have hair : s.airflow.code ≤
        (s.setAux { s.aux with drumDeferred := d, deferred := w, airflowWaits := false }).airflow.code := by
      rw [airflow_code, airflow_code]
      split
      next h =>
        rw [if_pos]
        exact h.imp_right fun ⟨hramp, hfast, _⟩ => ⟨hramp, hfast, rfl⟩
      next => exact Nat.zero_le _
    rw [permitted_code, permitted_code]
    exact min_le_min le_rfl (min_le_min le_rfl hair)
  have hfold : ∀ (l : List Demand) (t : State), KeepsHeat t (l.foldl (fun t w => actOn w t) t) := by
    intro l
    induction l with
    | nil => exact .refl
    | cons w ws ih => exact fun t => (actOn_keepsHeat w t).trans (ih _)
  exact (hmarks _ _).trans (hfold _ _)

theorem stepSetpoint_keepsHeat (s : State) : KeepsHeat s (stepSetpoint s) := by
  unfold stepSetpoint
  split
  · exact setDrum_keepsHeat s rfl
  · exact setDrum_keepsHeat s rfl
  all_goals exact .refl s

theorem drumEndTest_keepsHeat (s : State) : KeepsHeat s (drumEndTest s) := by
  unfold drumEndTest
  split
  · split
    · exact State.heatLaw.kept (goAway_keepsHeat _ _ (forceReduction_heatLaw _)) s
    · exact .refl s
  · split
    · exact State.heatLaw.kept (goAway_keepsHeat _ _ (forceReduction_heatLaw _)) s
    · exact .refl s
  all_goals exact .refl s

theorem drumSample_keepsHeat (late : Bool) (s : State) : KeepsHeat s (drumSample late s) := by
  have hnote : KeepsHeat s s.currentNoted := (setDrum_keepsHeat s rfl).trans (setDrum_keepsHeat _ rfl)
  have hhand : ∀ h t, KeepsHeat t (handOvercurrent h t) := fun h t => by
    cases h with
    | none => exact .refl t
    | some b => exact handCondition_keepsHeat _ b t
  have hsteps : ∀ t, KeepsHeat t (drumEndTest (stepSetpoint (reactDrum t))) := fun t =>
    ((reactDrum_keepsHeat t).trans (stepSetpoint_keepsHeat _)).trans (drumEndTest_keepsHeat _)
  rw [drumSample_eq]
  cases late
  · exact (hnote.trans (hhand _ _)).trans (hsteps _)
  · exact (hnote.trans (hsteps _)).trans (hhand _ _)

theorem sampleBlock_keepsHeat (s0 : State) (opening late : Bool) (b : SampleBlock) (s : State) :
    KeepsHeat s (sampleBlock s0 opening late b s) := by
  cases b with
  | limits => exact limitsSample_keepsHeat s
  | moisture => exact moistureSample_keepsHeat s0 s
  | contacts => exact contactsSample_keepsHeat s
  | heater => exact (heaterSample_heatLaw s).kept s
  | drum => exact drumSample_keepsHeat late s
  | cycle => exact cycleSample_keepsHeat opening s

theorem sampleWork_keepsHeat (s0 : State) (opening late : Bool) (order : List SampleBlock) (s : State) :
    KeepsHeat s (sampleWork s0 opening late order s) := by
  induction order generalizing s with
  | nil => exact .refl s
  | cons b bs ih => exact (sampleBlock_keepsHeat s0 opening late b s).trans (ih _)

/-- After the work on an accepted SAMPLE the law is true, because the stager has had its turn (02 R22; 04 R63). -/
theorem worked_heatLaw (s : State) (p : List Byte) : (s.worked p).heatLaw := by
  obtain ⟨first, rest, horder⟩ := sampleOrder_split s.choice.sample
  rw [worked_split horder]
  exact sampleWork_keepsHeat _ _ _ _ _ (heaterSample_heatLaw _)

theorem answer_heatLaw (s : State) (p : List Byte) : (handOnCopy p (answerDrive (s.worked p))).heatLaw :=
  (handOnCopy_moves p _).keepsHeat (worked_heatLaw s p)

/-! ### The blocks' work at a tenth (02 R24) -/

theorem drumTenth_keepsHeat (s : State) : KeepsHeat s (drumTenth s) := by
  unfold drumTenth
  split
  · exact (setDrum_keepsHeat s (by rfl)).trans (arise_keepsHeat _ _)
  · split
    · exact (setDrum_keepsHeat s (by rfl)).trans (arise_keepsHeat _ _)
    · split
      · exact endDwell_keepsHeat s
      · exact .refl s

theorem keepaliveTenth_keepsHeat (s : State) : KeepsHeat s (keepaliveTenth s) := by
  have hset : ∀ k, KeepsHeat s (s.setKeepalive k) := fun _ => id
  unfold keepaliveTenth
  split
  · exact (hset _).trans (arise_keepsHeat _ _)
  · split
    · exact hset _
    · exact .refl s

theorem reportSecond_keepsHeat (s : State) : KeepsHeat s (reportSecond s) := by
  have hset : ∀ u a, KeepsHeat s ((s.setUpstream u).setAux { s.aux with freeCount := a }) := fun _ _ => id
  unfold reportSecond
  split
  · exact .refl s
  · split
    · exact id
    · exact (hset _ _).trans (joinQueue_moves _ _).keepsHeat

/-- The tangle-persist flag lowers the phase cap, and forces the level down with it (04 R60, R64). -/
theorem notePersist_keepsHeat (s : State) : KeepsHeat s (notePersist s) := by
  unfold notePersist
  split
  · exact (forceReduction_heatLaw _).kept s
  · exact .refl s

theorem judgeSecond_keepsHeat (s : State) : KeepsHeat s (judgeSecond s) := by
  have hwalker : ∀ w : Walker, w.persist = s.walker.persist → KeepsHeat s (s.setWalker w) := fun _ hw =>
    (setWalker_moves s _).keepsHeat hw
  unfold judgeSecond
  dsimp only
  split
  · exact (((hwalker _ (by rfl)).trans (raiseEvent_keepsHeat _ _ _)).trans (notePersist_keepsHeat _)).trans
      (setDrum_keepsHeat _ rfl)
  · exact (hwalker _ (by rfl)).trans (setDrum_keepsHeat _ rfl)

theorem walkerCount_keepsHeat (s : State) : KeepsHeat s (walkerCount s) := by
  have hcount : KeepsHeat s (countTurning s) := by
    refine (countTurning_moves s).keepsHeat ?_
    unfold countTurning
    split <;> rfl
  unfold walkerCount
  dsimp only
  split
  · exact (hcount.trans ((endTangled_moves _).keepsHeat (endTangled_persist _))).trans (reselect_keepsHeat _ _)
  · split
    · exact (hcount.trans ((advanceWalker_moves _).keepsHeat (advanceWalker_persist _))).trans (reselect_keepsHeat _ _)
    · exact hcount

theorem cycleTenth_keepsHeat (second : Bool) (s : State) : KeepsHeat s (cycleTenth second s) := by
  unfold cycleTenth
  split
  · exact id
  · split
    · unfold activeSecond
      split
      · exact id
      · exact (endPhase_heatLaw _ _).kept s
    · exact .refl s
  · split
    · unfold cooldownSecond
      dsimp only
      split
      · exact (raiseEvent_cycleTo_heatLaw _ _ _ _).kept s
      · exact id
    · exact .refl s
  · exact .refl s
  · exact .refl s

theorem tenthBlock_keepsHeat (second : Bool) (b : TenthBlock) (s : State) : KeepsHeat s (tenthBlock second b s) := by
  have hif : ∀ t, KeepsHeat s t → KeepsHeat s (if second then t else s) := fun t ht => by
    split
    · exact ht
    · exact .refl s
  cases b with
  | keepalive => exact keepaliveTenth_keepsHeat s
  | drum => exact drumTenth_keepsHeat s
  | moisture => exact hif _ id
  | walker => exact (hif _ (judgeSecond_keepsHeat s)).trans (walkerCount_keepsHeat _)
  | cycle => exact cycleTenth_keepsHeat second s
  | report => exact hif _ (reportSecond_keepsHeat s)

theorem countTenth_keepsHeat (s : State) : KeepsHeat s (countTenth s) := by
  unfold countTenth
  split
  · exact setDrum_keepsHeat s rfl
  · exact setDrum_keepsHeat s rfl
  · split
    · exact .refl s
    · exact setDrum_keepsHeat s rfl
  all_goals exact .refl s

theorem tenthBlocks_keepsHeat (second : Bool) (order : List TenthBlock) (s : State) :
    KeepsHeat s (tenthBlocks second order s) :=
  tenthBlocks_lift .refl .trans (fun b _ t => tenthBlock_keepsHeat second b t) s

theorem tickTenth_keepsHeat (s : State) : KeepsHeat s (tickTenth s.dropChoice) := id

theorem runTenth_keepsHeat (first : List TenthBlock) (s : State) : KeepsHeat s (runTenth first s) :=
  ((tickTenth_keepsHeat s).trans (countTenth_keepsHeat _)).trans (tenthBlocks_keepsHeat _ _ _)

theorem runUncountedTenth_keepsHeat (s : State) : KeepsHeat s (runUncountedTenth s) :=
  (tickTenth_keepsHeat s).trans (tenthBlocks_keepsHeat _ _ _)

/-- A gap expiry is a FIELD_SILENT that arises, and a gap DRIVE, which leaves the level (02 R27). -/
theorem gapExpiry_keepsHeat (s : State) : KeepsHeat s (gapExpiry s) := by
  have hraise : KeepsHeat s (raiseSilence s) := by
    have hselect : KeepsHeat s (reselect false (arise .fieldSilent s)) :=
      (arise_keepsHeat .fieldSilent s).trans (reselect_keepsHeat false _)
    unfold raiseSilence
    dsimp only
    split
    · exact .refl s
    · split
      · exact hselect.trans (setDrum_keepsHeat _ rfl)
      · exact hselect
  have hgap : ∀ t : State, KeepsHeat t ((gapDrive t).setPath
      { (gapDrive t).path with gapMillis := 0, gapSpan := 10 * (gapDrive t).param .gapSamples }) := fun _ => id
  exact hraise.trans (hgap _)

/-! ### The link level and the keepalive window (01 R2, R7, R10 to R12) -/

theorem setReceiver_keepsHeat (p : Port) (r : Receiver) (s : State) : KeepsHeat s (s.setReceiver p r) := by
  cases p <;> exact id

theorem setBadCount_keepsHeat (p : Port) (n : Nat) (s : State) : KeepsHeat s (s.setBadCount p n) := by
  cases p <;> exact id

theorem portAfter_keepsHeat (p : Port) (n : Nat) (s : State) : KeepsHeat s (s.portAfter p n) :=
  (setReceiver_keepsHeat p _ s).trans (setBadCount_keepsHeat p n _)

theorem badFrame_keepsHeat (p : Port) (s : State) : KeepsHeat s (badFrame p s) := by
  rw [badFrame_eq]
  split
  · exact (portAfter_keepsHeat p _ s).trans (arise_keepsHeat _ _)
  · exact portAfter_keepsHeat p _ s

theorem goodFrame_keepsHeat (p : Port) (s : State) : KeepsHeat s (goodFrame p s) := by
  rw [goodFrame_eq]
  split
  · exact (portAfter_keepsHeat p _ s).trans (goAway_keepsHeat _ _)
  · exact portAfter_keepsHeat p _ s

theorem applyLinkLimit_keepsHeat (p : Port) (s : State) : KeepsHeat s (applyLinkLimit p s) := by
  unfold applyLinkLimit
  dsimp only
  split
  · exact (setBadCount_keepsHeat p _ s).trans (arise_keepsHeat _ _)
  · exact setBadCount_keepsHeat p _ s

theorem restartWindow_keepsHeat (s : State) : KeepsHeat s (restartWindow s) := by
  have hset : ∀ k, KeepsHeat s (s.setKeepalive k) := fun _ => id
  unfold restartWindow
  split
  · exact (hset _).trans (goAway_keepsHeat _ _)
  · exact hset _

theorem keepaliveArrives_keepsHeat (s : State) : KeepsHeat s (keepaliveArrives s) := by
  have hset : ∀ k, KeepsHeat s (s.setKeepalive k) := fun _ => id
  unfold keepaliveArrives
  split
  · exact .refl s
  · split
    · exact (hset _).trans (arise_keepsHeat _ _)
    · exact restartWindow_keepsHeat s

theorem frameRestarts_keepsHeat (s : State) : KeepsHeat s (frameRestarts s) := by
  unfold frameRestarts
  split
  · exact .refl s
  · exact restartWindow_keepsHeat s

/-! ### Table writes (10 R170 to R175) -/

/-- Of the tables the permitted level reads AIRFLOW_SPEED alone (04 R62). -/
theorem setTables_keepsHeat (s : State) {b : Tables} (h : (s.setTables b).param .airflowSpeed = s.param .airflowSpeed) :
    KeepsHeat s (s.setTables b) := by
  refine .of_permitted rfl (le_of_eq ?_)
  simp only [permitted_code, airflow_code, h]
  rfl

theorem setParam_keepsHeat {p : Param} (h : p ≠ .airflowSpeed) (n : Nat) (s : State) : KeepsHeat s (s.setParam p n) :=
  setTables_keepsHeat s ((State.param_setParam s p .airflowSpeed n).trans (if_neg h))

/-- A parameter that acts at once keeps the law, and AIRFLOW_SPEED makes it true (04 R64; 10 R171). -/
theorem paramWritten_keepsHeat (p : Param) (s : State) : KeepsHeat s (paramWritten p s) := by
  have hkeepalive : KeepsHeat s (keepaliveWritten s) := by
    have hset : ∀ k, KeepsHeat s (s.setKeepalive k) := fun _ => id
    exact (hset _).trans (goAway_keepsHeat _ _)
  cases p with
  | shortLimit =>
    have hset : ∀ m, KeepsHeat s (s.setMoisture m) := fun _ => id
    show KeepsHeat s (applyShortLimit s)
    unfold applyShortLimit
    dsimp only
    split
    · exact (hset _).trans (arise_keepsHeat _ _)
    · exact hset _
  | airflowSpeed => exact (forceReduction_heatLaw s).kept s
  | coolSpeed => exact reselect_keepsHeat false s
  | linkErrLimit => exact (applyLinkLimit_keepsHeat _ s).trans (applyLinkLimit_keepsHeat _ _)
  | keepaliveUpper => exact hkeepalive
  | keepaliveLower => exact hkeepalive
  | _ => exact id

/-- A CONFIG write keeps the law: a write of AIRFLOW_SPEED ends with the forced reduction (04 R64, R69). -/
theorem admitParam_keepsHeat (p : Param) (v : Nat) (s : State) : KeepsHeat s (admitParam p v s).1 := by
  have hstored : ∀ n, p ≠ .airflowSpeed → KeepsHeat s (paramWritten p (s.setParam p n)) := fun n hp =>
    (setParam_keepsHeat hp n s).trans (paramWritten_keepsHeat p _)
  by_cases hu : p = .keepaliveUpper
  · subst hu
    unfold admitParam
    dsimp only
    split
    · exact ((setParam_keepsHeat (by decide) _ s).trans (setParam_keepsHeat (by decide) _ _)).trans
        (paramWritten_keepsHeat _ _)
    · exact hstored _ (by decide)
  · by_cases hl : p = .keepaliveLower
    · subst hl
      unfold admitParam
      dsimp only
      split <;> exact hstored _ (by decide)
    · rw [admitParam_of_free hu hl]
      by_cases hp : p = .airflowSpeed
      · subst hp
        exact (forceReduction_heatLaw _).kept s
      · exact hstored _ hp

theorem admitWrite_keepsHeat (tab : TableId) (i : Nat) (d : List Byte) (s : State) :
    KeepsHeat s (admitWrite tab i d s).1 := by
  cases tab with
  | program =>
    unfold admitWrite admitProgram
    dsimp only
    split <;> exact id
  | pattern =>
    unfold admitWrite admitPattern
    dsimp only
    split <;> exact id
  | curve => exact id
  | limits => exact id
  | actions =>
    have hstore : ∀ x a, KeepsHeat s (storeAction x a s) := fun x a => by
      have hset : KeepsHeat s (s.setAction x a) := id
      unfold storeAction
      split
      · exact .refl s
      · exact hset.trans (workOutAction_keepsHeat _)
    unfold admitWrite admitActions
    dsimp only
    split
    · exact hstore _ _
    all_goals exact .refl s
  | config =>
    unfold admitWrite admitConfig
    dsimp only
    split
    · exact .refl s
    · exact admitParam_keepsHeat _ _ s

/-! ### The other requests (07, 08, 09, 10) -/

theorem requestStart_keepsHeat (slot anticrease : Byte) (s : State) : KeepsHeat s (requestStart slot anticrease s).1 := by
  unfold requestStart
  split
  · exact .refl s
  · show KeepsHeat s (startFirst _)
    unfold startFirst
    split
    · exact (raiseEvent_cycleTo_heatLaw _ _ _ _).kept s
    · exact (beginPhase_heatLaw _ _ _).kept s

theorem requestPause_keepsHeat (s : State) : KeepsHeat s (requestPause s).1 := by
  unfold requestPause
  split
  · exact (raiseEvent_cycleTo_heatLaw _ _ _ s).kept s
  · exact .refl s

theorem requestResume_keepsHeat (s : State) : KeepsHeat s (requestResume s).1 := by
  unfold requestResume
  split
  · exact .refl s
  · split
    · exact .refl s
    · split
      · exact .refl s
      · exact (raiseEvent_cycleTo_heatLaw _ _ _ _).kept s

theorem requestAbort_keepsHeat (s : State) : KeepsHeat s (requestAbort s).1 := by
  have habort : KeepsHeat s (abortCycle s) := by
    unfold abortCycle
    split <;> exact (raiseEvent_cycleTo_heatLaw _ _ _ s).kept s
  unfold requestAbort
  split
  · exact habort
  · exact habort
  · exact (raiseEvent_cycleTo_heatLaw _ _ _ _).kept s
  · exact .refl s
  · exact .refl s

theorem clearRecord_keepsHeat (x : Source) (s : State) : KeepsHeat s (clearRecord x s) := by
  have hclear : ∀ r, KeepsHeat s (s.setRecord x r) := fun _ => id
  exact ((hclear _).trans (raiseEvent_keepsHeat _ _ _)).trans (workOutAction_keepsHeat _)

theorem clearMotorStall_keepsHeat (s : State) : KeepsHeat s (clearMotorStall s) := by
  have hspinup : KeepsHeat s
      (if s.drum.state = .ramp then s.setDrum { s.drum with spinup := some 0, stallMark := false } else s) := by
    split
    · exact setDrum_keepsHeat s rfl
    · exact .refl s
  have hclear : ∀ t, KeepsHeat s t → KeepsHeat s
      (if (t.setPresent .motorStall false).counts .motorStall then
        clearRecord .motorStall (t.setPresent .motorStall false)
      else t.setPresent .motorStall false) := fun t ht => by
    have hgone : KeepsHeat t (t.setPresent .motorStall false) := id
    split
    · exact (ht.trans hgone).trans (clearRecord_keepsHeat _ _)
    · exact ht.trans hgone
  exact hclear _ hspinup

theorem clearSource_keepsHeat (x : Source) (s : State) : KeepsHeat s (clearSource x s) := by
  unfold clearSource
  split
  · exact clearMotorStall_keepsHeat s
  · split
    · exact clearRecord_keepsHeat x s
    · exact .refl s

theorem clearSources_keepsHeat (scope : List Source) (s : State) : KeepsHeat s (clearSources scope s) := by
  have hfold : ∀ t, KeepsHeat t (scope.foldl (fun t x => clearSource x t) t) := by
    induction scope with
    | nil => exact .refl
    | cons x xs ih => exact fun t => (clearSource_keepsHeat x t).trans (ih _)
  unfold clearSources leaveHalted
  split
  · exact (cycleTo_heatLaw _ _).kept s
  · exact hfold s

theorem requestFaultClear_keepsHeat (b : Byte) (s : State) : KeepsHeat s (requestFaultClear b s).1 := by
  unfold requestFaultClear
  split
  · dsimp only
    exact clearSources_keepsHeat _ s
  · split
    · exact clearSources_keepsHeat _ s
    · exact .refl s

theorem requestTrim_keepsHeat (step : Byte) (s : State) : KeepsHeat s (requestTrim step s).1 := by
  have hset : ∀ n, KeepsHeat s (s.setParam .electrodeTrim n) := fun n => setParam_keepsHeat (by decide) n s
  unfold requestTrim
  dsimp only
  split
  · split
    · exact hset _
    · exact .refl s
  · split
    · split
      · exact hset _
      · exact .refl s
    · exact .refl s

theorem requestUnlock_keepsHeat (s : State) : KeepsHeat s (requestUnlock s).1 := by
  unfold requestUnlock
  split <;> exact id

theorem requestWrite_keepsHeat (p : List Byte) (s : State) : KeepsHeat s (requestWrite p s).1 := by
  obtain ⟨r, hr⟩ | ⟨tab, -, -, hw⟩ := requestWrite_cases p s
  · rw [hr]; exact .refl s
  · rw [hw]; exact admitWrite_keepsHeat tab _ _ s

theorem takeRequest_keepsHeat (f : Frame) (s : State) : KeepsHeat s (takeRequest f s).1 := by
  unfold takeRequest
  split
  · exact .refl s
  · split
    · exact .refl s
    · unfold actRequest
      split
      · exact requestWrite_keepsHeat _ s
      · rw [requestRead_state]; exact .refl s
      · exact requestStart_keepsHeat _ _ s
      · exact requestPause_keepsHeat s
      · exact requestResume_keepsHeat s
      · exact requestAbort_keepsHeat s
      · exact requestFaultClear_keepsHeat _ s
      · exact id
      · exact requestTrim_keepsHeat _ s
      · exact id
      · exact requestUnlock_keepsHeat s
      · exact id
      · exact .refl s

/-! ### The handler and the controller port (10 R168, R169; 01 R6) -/

theorem handleRequest_keepsHeat (f : Frame) (s : State) : KeepsHeat s (handleRequest f s) := by
  have hprogress : ∀ (t : State) o, KeepsHeat t (t.setTables { t.tables with inProgress := o }) := fun _ _ => id
  exact (((hprogress s _).trans (takeRequest_keepsHeat f _)).trans (joinQueue_moves _ _).keepsHeat).trans
    (hprogress _ none)

theorem serve_keepsHeat (s : State) : KeepsHeat s (serve s) := by
  have hlinks : ∀ (t : State) b, KeepsHeat t (t.setLinks b) := fun _ _ => id
  have hqueue : ∀ n t, KeepsHeat t (serveQueue n t) := by
    intro n
    induction n with
    | zero => exact .refl
    | succ n ih =>
      intro t
      unfold serveQueue
      split
      · exact .refl t
      · split
        · exact ((hlinks t _).trans (handleRequest_keepsHeat _ _)).trans (ih _)
        · exact .refl t
  exact hqueue _ s

theorem controllerFrame_keepsHeat (f : Frame) (s : State) : KeepsHeat s (controllerFrame f s) := by
  have hlinks : ∀ (t : State) b, KeepsHeat t (t.setLinks b) := fun _ _ => id
  unfold controllerFrame requestArrives
  split
  · exact badFrame_keepsHeat _ s
  · split
    · exact (goodFrame_keepsHeat _ s).trans (keepaliveArrives_keepsHeat _)
    · split
      · exact (((goodFrame_keepsHeat _ s).trans (frameRestarts_keepsHeat _)).trans (hlinks _ _)).trans
          (serve_keepsHeat _)
      · exact badFrame_keepsHeat _ s

/-! ### Every step -/

theorem Event.keepsHeat {s t : State} (h : Event s t) : KeepsHeat s t := by
  have hlinks : ∀ b, KeepsHeat s (s.setLinks b) := fun _ => id
  cases h with
  | lines b => exact hlinks b
  | transmit b => exact ((hlinks b).trans (startTransmission_moves _).keepsHeat).trans (serve_keepsHeat _)
  | receive p r => exact setReceiver_keepsHeat p r s
  | bad p => exact badFrame_keepsHeat p s
  | good => exact goodFrame_keepsHeat .field s
  | sample p _ => exact (answer_heatLaw s p).kept s
  | request f => exact controllerFrame_keepsHeat f s
  | gapTick => exact id
  | gapExpiry => exact gapExpiry_keepsHeat s
  | tick => exact id
  | tenth first => exact runTenth_keepsHeat first s
  | uncountedTenth => exact runUncountedTenth_keepsHeat s

/-- Settles O55: each event keeps the law by itself, so the two other laws of the hypothesis are not needed. -/
theorem heatLawIsKept : Obligations.HeatLawIsKept := fun _ _ hheat _ _ h =>
  step_keeps (P := State.heatLaw) (fun _ _ => id) (fun u => (refresh_moves u).keepsHeat)
    (fun _ _ => (startTransmission_moves _).keepsHeat (Nat.zero_le _)) Event.keepsHeat h hheat

end Sys2Proof.Machine

/-! # One block's turn on a SAMPLE (02 R22; log entry 5)

Each block has one turn in the order of a SAMPLE. At its turn it finds the readings of the SAMPLE, and the conditions and the
runs that are its own as they were before the SAMPLE; the blocks after it leave both. -/

namespace Sys2Proof.Machine

/-! ### From block to order -/

/-- What every block of an order keeps, the work of the order keeps. -/
theorem sampleWork_lift {R : State → State → Prop} (hrefl : ∀ s, R s s) (htrans : ∀ {s t u}, R s t → R t u → R s u)
    {s0 : State} {opening late : Bool} {order : List SampleBlock}
    (hblock : ∀ b ∈ order, ∀ s, R s (sampleBlock s0 opening late b s)) (s : State) :
    R s (sampleWork s0 opening late order s) := by
  induction order generalizing s with
  | nil => exact hrefl s
  | cons b bs ih =>
    exact htrans (hblock b List.mem_cons_self s) (ih (fun c hc => hblock c (List.mem_cons_of_mem b hc)) _)

theorem worked_turn {s : State} {b : SampleBlock} {first rest : List SampleBlock}
    (h : fillOrder SampleBlock.all s.choice.sample = first ++ b :: rest) (p : List Byte) :
    s.worked p =
      sampleWork (s.accepting p) (s.doorOpening p) s.choice.overcurrentLate rest
        (sampleBlock (s.accepting p) (s.doorOpening p) s.choice.overcurrentLate b (s.workedBy p first)) := by
  rw [State.worked, h, sampleWork_append]
  rfl

theorem workedBy_moves (s : State) (p : List Byte) (first : List SampleBlock) :
    MovesBlocks (s.accepting p) (s.workedBy p first) := sampleBlocks_moves _ _ _ _

theorem workedBy_path (s : State) (p : List Byte) (first : List SampleBlock) :
    (s.workedBy p first).path = s.decodedPath p := by rw [workedBy_moves s p first, ← accepting_path s p]

theorem workedBy_limitAt (s : State) (p : List Byte) (first : List SampleBlock) (i : Fin 4) :
    (s.workedBy p first).limitAt i = s.limitAt i := by
  have hlimits : (s.workedBy p first).faults.limits = s.faults.limits := by
    rw [workedBy_moves s p first, ← (accepting_faults s p).1]
  rw [State.limitAt, hlimits]
  rfl

/-! ### The conditions of a block -/

/-- The acceptance of a SAMPLE makes FIELD_LINK and FIELD_SILENT go, and no other condition (01 R7; 02 R28). -/
theorem accepting_present {x : Source} (hlink : x ≠ .fieldLink) (hsilent : x ≠ .fieldSilent) (s : State) (p : List Byte) :
    (s.accepting p).present x = s.present x := by
  have hgood : (goodFrame .field s).present x = s.present x := by
    rw [goodFrame_present, decide_eq_true fun h => absurd h.symm hlink, Bool.and_true]
  rw [← hgood]
  exact (goAway_hands (List.mem_singleton_self _) _).present x fun hmem => hsilent (List.mem_singleton.mp hmem)

theorem sampleWork_present {b : SampleBlock} {order : List SampleBlock} (hb : b ∉ order) {x : Source} (hx : x ∈ b.sources)
    (s0 : State) (opening late : Bool) (s : State) : (sampleWork s0 opening late order s).present x = s.present x :=
  sampleWork_lift (R := fun s t => t.present x = s.present x) (fun _ => rfl) (fun h k => k.trans h)
    (fun c hc t => (sampleBlock_hands s0 opening late c t).present x
      (SampleBlock.sources_disjoint (fun e : b = c => hb (e ▸ hc)) x hx)) s

theorem SampleBlock.sources_field (b : SampleBlock) : .fieldLink ∉ b.sources ∧ .fieldSilent ∉ b.sources := by
  cases b <;> decide

/-- A block finds its own conditions as they were before the SAMPLE. -/
theorem workedBy_present {b : SampleBlock} {first : List SampleBlock} (hb : b ∉ first) {x : Source} (hx : x ∈ b.sources)
    (s : State) (p : List Byte) : (s.workedBy p first).present x = s.present x := by
  obtain ⟨hlink, hsilent⟩ := b.sources_field
  rw [State.workedBy, sampleWork_present hb hx, (reselect_movesPhase false _).present x]
  exact accepting_present (fun e => hlink (e ▸ hx)) (fun e => hsilent (e ▸ hx)) s p

theorem worked_present {s : State} {b : SampleBlock} {first rest : List SampleBlock}
    (h : fillOrder SampleBlock.all s.choice.sample = first ++ b :: rest) (hb : b ∉ rest) {x : Source} (hx : x ∈ b.sources)
    (p : List Byte) :
    (s.worked p).present x =
      (sampleBlock (s.accepting p) (s.doorOpening p) s.choice.overcurrentLate b (s.workedBy p first)).present x := by
  rw [worked_turn h, sampleWork_present hb hx]

/-! ### The runs of the contacts and of the overcurrent check -/

/-- The contact runs with their flags, and the overcurrent run, stand (04 R70; 05 R89). -/
structure KeepsRuns (s t : State) : Prop where
  h1    : t.heater.h1 = s.heater.h1
  h2    : t.heater.h2 = s.heater.h2
  ocRun : t.drum.ocRun = s.drum.ocRun

theorem KeepsRuns.refl (s : State) : KeepsRuns s s := ⟨rfl, rfl, rfl⟩

theorem KeepsRuns.trans {s t u : State} (h : KeepsRuns s t) (k : KeepsRuns t u) : KeepsRuns s u :=
  ⟨k.h1.trans h.h1, k.h2.trans h.h2, k.ocRun.trans h.ocRun⟩

theorem MovesRecord.keepsRuns {s t : State} (h : MovesRecord s t) : KeepsRuns s t := by
  rw [h]
  exact ⟨rfl, rfl, rfl⟩

theorem Acts.keepsRuns {s t : State} (h : Acts s t) : KeepsRuns s t := by
  rw [h.frame]
  exact ⟨rfl, rfl, rfl⟩

theorem heaterSample_keepsRuns (s : State) : KeepsRuns s (heaterSample s) := by
  have hregulate : KeepsRuns s (regulate s) := by
    rw [regulate_eq]
    exact ⟨rfl, rfl, rfl⟩
  have hstep : ∀ t, KeepsRuns t (stageStep t) := fun t => by
    unfold stageStep
    split
    · exact ⟨rfl, rfl, rfl⟩
    · split
      · exact ⟨rfl, rfl, rfl⟩
      · exact .refl t
  exact (hregulate.trans (forceReduction_acts _).keepsRuns).trans (hstep _)

theorem drumWork_keepsRuns (late : Bool) (h : Option Bool) (s : State) : KeepsRuns s (drumWork late h s) := by
  have hhand : ∀ t, KeepsRuns t (handOvercurrent h t) := fun t => by
    cases h with
    | none => exact .refl t
    | some b => exact (handCondition_acts _ b t).keepsRuns
  have hreact : ∀ t, KeepsRuns t (reactDrum t) := fun t => by
    have hfold : ∀ (l : List Demand) (u : State), KeepsRuns u (l.foldl (fun u w => actOn w u) u) := by
      intro l
      induction l with
      | nil => exact .refl
      | cons w ws ih => exact fun u => (actOn_moves w u).action.record.keepsRuns.trans (ih _)
    have hmarks : ∀ a, KeepsRuns t (t.setAux a) := fun _ => ⟨rfl, rfl, rfl⟩
    exact (hmarks _).trans (hfold _ _)
  have hturning : ∀ t, KeepsRuns t (enterTurning t) := fun t => by
    have hset : KeepsRuns t ((t.setDrum
        { t.drum with state := .turning, turningEntry := some t.now, spinup := none }).setWalker
        { t.walker with score := 0 }) := ⟨rfl, rfl, rfl⟩
    exact hset.trans ((forceReduction_acts _).trans (goAway_acts _ _)).keepsRuns
  have hend : ∀ t, KeepsRuns t (drumEndTest t) := fun t => by
    unfold drumEndTest
    split
    · split
      · exact hturning t
      · exact .refl t
    · split
      · exact (enterDwell_moves t).action.record.keepsRuns.trans (goAway_acts _ _).keepsRuns
      · exact .refl t
    all_goals exact .refl t
  have hsteps : ∀ t, KeepsRuns t (drumEndTest (stepSetpoint (reactDrum t))) := fun t =>
    ((hreact t).trans (stepSetpoint_moves _).action.record.keepsRuns).trans (hend _)
  cases late
  · exact (hhand s).trans (hsteps _)
  · exact (hsteps s).trans (hhand _)

/-- The blocks that neither compare the contacts nor test the current leave all runs. -/
theorem sampleBlock_keepsRuns {b : SampleBlock} (hcontacts : b ≠ .contacts) (hdrum : b ≠ .drum) (s0 : State)
    (opening late : Bool) (s : State) : KeepsRuns s (sampleBlock s0 opening late b s) := by
  cases b with
  | limits => exact (limitsSample_acts s).keepsRuns
  | moisture => exact (moistureSample_acts s0 s).keepsRuns
  | contacts => exact absurd rfl hcontacts
  | heater => exact heaterSample_keepsRuns s
  | drum => exact absurd rfl hdrum
  | cycle => exact (cycleSample_acts opening s).keepsRuns

/-- The two conditions of the contacts, handed over after the comparison (04 R71, R72). -/
theorem contactsSample_keepsRuns (s : State) : KeepsRuns (stepContacts s) (contactsSample s) :=
  ((handCondition_acts _ _ _).trans (handCondition_acts _ _ _)).keepsRuns

theorem stepContacts_drum (s : State) : (stepContacts s).drum = s.drum := by
  unfold stepContacts
  split <;> rfl

/-- The runs that are a block's own stand: the contacts' or the drum's, where the other blocks have none. -/
structure SampleBlock.LeavesRuns (b : SampleBlock) (s t : State) : Prop where
  h1    : b = .contacts → t.heater.h1 = s.heater.h1
  h2    : b = .contacts → t.heater.h2 = s.heater.h2
  ocRun : b = .drum → t.drum.ocRun = s.drum.ocRun

theorem KeepsRuns.leaves {s t : State} (h : KeepsRuns s t) (b : SampleBlock) : b.LeavesRuns s t :=
  ⟨fun _ => h.h1, fun _ => h.h2, fun _ => h.ocRun⟩

theorem SampleBlock.LeavesRuns.trans {b : SampleBlock} {s t u : State} (h : b.LeavesRuns s t) (k : b.LeavesRuns t u) :
    b.LeavesRuns s u :=
  ⟨fun hb => (k.h1 hb).trans (h.h1 hb), fun hb => (k.h2 hb).trans (h.h2 hb), fun hb => (k.ocRun hb).trans (h.ocRun hb)⟩

/-- A block leaves the runs of another. -/
theorem sampleBlock_leavesRuns {b c : SampleBlock} (hne : c ≠ b) (s0 : State) (opening late : Bool) (s : State) :
    b.LeavesRuns s (sampleBlock s0 opening late c s) := by
  by_cases hcontacts : c = .contacts
  · subst hcontacts
    refine ⟨fun e => absurd e.symm hne, fun e => absurd e.symm hne, fun _ => ?_⟩
    exact (contactsSample_keepsRuns s).ocRun.trans (congrArg Drum.ocRun (stepContacts_drum s))
  · by_cases hdrum : c = .drum
    · subst hdrum
      have hwork := drumWork_keepsRuns late s.overcurrentStep.2 s.currentNoted
      rw [← drumSample_eq] at hwork
      exact ⟨fun _ => hwork.h1, fun _ => hwork.h2, fun e => absurd e.symm hne⟩
    · exact (sampleBlock_keepsRuns hcontacts hdrum s0 opening late s).leaves b

theorem sampleWork_leavesRuns {b : SampleBlock} {order : List SampleBlock} (hb : b ∉ order) (s0 : State)
    (opening late : Bool) (s : State) : b.LeavesRuns s (sampleWork s0 opening late order s) :=
  sampleWork_lift (fun t => (KeepsRuns.refl t).leaves b) .trans
    (fun c hc t => sampleBlock_leavesRuns (fun e : c = b => hb (e ▸ hc)) s0 opening late t) s

/-- A block finds its own runs as they were before the SAMPLE. -/
theorem workedBy_leavesRuns {b : SampleBlock} {first : List SampleBlock} (hb : b ∉ first) (s : State) (p : List Byte) :
    b.LeavesRuns s (s.workedBy p first) := by
  have hport : KeepsRuns s (s.portAfter .field (s.badCount .field - 1)) := ⟨rfl, rfl, rfl⟩
  have hdecode : KeepsRuns (goodFrame .field s) (s.accepting p) := by
    have hbegin := (beginSample_moves p (goodFrame .field s).dropChoice).keepsRuns
    exact ⟨hbegin.h1, hbegin.h2, hbegin.ocRun⟩
  have haccepting : KeepsRuns s (s.accepting p) := (hport.trans (goodFrame_moves .field s).keepsRuns).trans hdecode
  exact ((haccepting.trans (reselect_acts false _).keepsRuns).leaves b).trans (sampleWork_leavesRuns hb _ _ _ _)

theorem worked_leavesRuns {s : State} {b : SampleBlock} {first rest : List SampleBlock}
    (h : fillOrder SampleBlock.all s.choice.sample = first ++ b :: rest) (hb : b ∉ rest) (p : List Byte) :
    b.LeavesRuns (sampleBlock (s.accepting p) (s.doorOpening p) s.choice.overcurrentLate b (s.workedBy p first))
      (s.worked p) := by
  rw [worked_turn h]
  exact sampleWork_leavesRuns hb _ _ _ _

/-- The reference DRIVE of the comparison is that of before the SAMPLE (04 R70). -/
theorem workedBy_reference (s : State) (p : List Byte) (first : List SampleBlock) :
    (s.workedBy p first).heater.refH1 = s.heater.refH1 ∧ (s.workedBy p first).heater.refH2 = s.heater.refH2 := by
  have hgood : (goodFrame .field s).heater.refH1 = s.heater.refH1 ∧ (goodFrame .field s).heater.refH2 = s.heater.refH2 := by
    rw [goodFrame_moves .field s]
    exact ⟨rfl, rfl⟩
  have haccepting : (s.accepting p).heater.refH1 = s.heater.refH1 ∧ (s.accepting p).heater.refH2 = s.heater.refH2 := by
    rw [State.accepting, beginSample_moves p (goodFrame .field s).dropChoice]
    exact hgood
  rw [workedBy_moves s p first]
  exact haccepting

end Sys2Proof.Machine

/-! # The checks on an accepted SAMPLE (04 R70 to R72; 05 R89; 09 R153 to R155) -/

namespace Sys2Proof.Machine

/-! ### Conditions handed over -/

theorem handCondition_present (x y : Source) (b : Bool) (s : State) :
    (handCondition x b s).present y = if x = y then b else s.present y := by
  unfold handCondition
  by_cases hxy : x = y
  · cases b <;> simp [hxy]
  · cases b <;> simp [hxy]

theorem thresholdCheck_present (x y : Source) (l : LimitEntry) (t : Temperature) (s : State) :
    (thresholdCheck x l t s).present y = if x = y then thresholdAfter (s.present x) l t else s.present y := by
  by_cases hxy : x = y
  · subst hxy
    rw [if_pos rfl]
    unfold thresholdCheck thresholdAfter
    cases hvalid : t.valid with
    | false => rfl
    | true =>
      cases hpresent : s.present x with
      | true =>
        by_cases hcold : t.value ≤ l.restore
        · simp [hcold]
        · simp [hcold, not_le.mp hcold, hpresent]
      | false =>
        by_cases hhot : l.high ≤ t.value
        · simp [hhot]
        · simp [hhot, hpresent]
  · rw [if_neg hxy]
    exact (thresholdCheck_hands (List.mem_singleton_self x) l t s).present y fun hmem =>
      hxy (List.mem_singleton.mp hmem).symm

/-- The five conditions that the limit and fault unit watches itself (09 R153 to R155). -/
theorem limitsChecks_present (r : Readings) (f : FieldFlags) (exhaust inlet : LimitEntry) (s : State) :
    (limitsChecks r f exhaust inlet s).present .exhaustHigh = thresholdAfter (s.present .exhaustHigh) exhaust r.exhaust ∧
    (limitsChecks r f exhaust inlet s).present .inletHigh = thresholdAfter (s.present .inletHigh) inlet r.inlet ∧
    (limitsChecks r f exhaust inlet s).present .exhaustSensor = (!r.exhaust.valid) ∧
    (limitsChecks r f exhaust inlet s).present .inletSensor = (!r.inlet.valid) ∧
    (limitsChecks r f exhaust inlet s).present .fuseOpen = (!f.fuseIntact) := by
  simp [limitsChecks, handCondition_present, thresholdCheck_present]

theorem limitsSample_eq {s : State} {r : Readings} {f : FieldFlags} (hreadings : s.path.readings = some r)
    (hflags : s.path.flags = some f) : limitsSample s = limitsChecks r f (s.limitAt 0) (s.limitAt 1) s := by
  unfold limitsSample
  rw [hreadings, hflags]
  rfl

/-! ### The overcurrent run (05 R89) -/

/-- The overcurrent run and condition after a SAMPLE. -/
def overcurrentAfter (before : Bool) (limit : LimitEntry) (run current : Nat) : Nat × Bool :=
  if before = true then if (current : Int) ≤ limit.restore then (0, false) else (run, true)
  else if limit.high < (current : Int) then (satSucc 100 run, decide (limit.persist ≤ satSucc 100 run))
  else (0, false)

theorem overcurrentNext_after (before : Bool) (limit : LimitEntry) (run current : Nat) :
    ((overcurrentNext before limit run current).1, (overcurrentNext before limit run current).2.getD before) =
      overcurrentAfter before limit run current := by
  cases before with
  | true =>
    by_cases hlow : (current : Int) ≤ limit.restore
    · simp [overcurrentNext, overcurrentAfter, hlow]
    · simp [overcurrentNext, overcurrentAfter, hlow]
  | false =>
    by_cases hhigh : limit.high < (current : Int)
    · by_cases hlong : limit.persist ≤ satSucc 100 run
      · simp [overcurrentNext, overcurrentAfter, hhigh, hlong]
      · simp [overcurrentNext, overcurrentAfter, hhigh, hlong]
    · simp [overcurrentNext, overcurrentAfter, hhigh]

theorem handOvercurrent_present (h : Option Bool) (s : State) :
    (handOvercurrent h s).present .overcurrent = h.getD (s.present .overcurrent) := by
  cases h with
  | none => rfl
  | some b => exact (handCondition_present _ _ b s).trans (if_pos rfl)

theorem drumWork_present (late : Bool) (h : Option Bool) (s : State) :
    (drumWork late h s).present .overcurrent = h.getD (s.present .overcurrent) := by
  have hsteps : ∀ t, (drumEndTest (stepSetpoint (reactDrum t))).present .overcurrent = t.present .overcurrent := fun t =>
    (drumSteps_hands t).present .overcurrent (by decide)
  cases late with
  | true =>
    show (handOvercurrent h _).present .overcurrent = _
    rw [handOvercurrent_present, hsteps]
  | false =>
    show (drumEndTest (stepSetpoint (reactDrum _))).present .overcurrent = _
    rw [hsteps, handOvercurrent_present]

/-- The drum's turn on a SAMPLE moves the overcurrent run, and hands the condition over (05 R85, R89). -/
theorem drumSample_overcurrent {s : State} {r : Readings} (hreadings : s.path.readings = some r) (late : Bool) :
    ((drumSample late s).drum.ocRun, (drumSample late s).present .overcurrent) =
      overcurrentAfter (s.present .overcurrent) (s.limitAt 2) s.drum.ocRun r.current := by
  have hstep : s.overcurrentStep = overcurrentNext (s.present .overcurrent) (s.limitAt 2) s.drum.ocRun r.current := by
    rw [State.overcurrentStep, hreadings]
    rfl
  have hrun : (drumSample late s).drum.ocRun = s.overcurrentStep.1 := by
    rw [drumSample_eq]
    exact (drumWork_keepsRuns late _ s.currentNoted).ocRun
  have hpresent : (drumSample late s).present .overcurrent = s.overcurrentStep.2.getD (s.present .overcurrent) := by
    rw [drumSample_eq]
    exact drumWork_present late _ s.currentNoted
  rw [hrun, hpresent, hstep, overcurrentNext_after]

/-! ### The contacts (04 R70 to R72) -/

theorem satSucc_five (n : Nat) : satSucc 5 n = min 5 (n + 1) := by
  unfold satSucc
  split <;> omega

/-- An outcome of the comparison moves the runs and flags as R70 to R72 say. -/
theorem Feedback.step_follows (f : Feedback) (ref closed : Bool) :
    f.follows (f.step (contactOutcome ref closed)) ref closed := by
  have hfull : ∀ n, satSucc 5 n < 5 ↔ n + 1 < 5 := fun n => by rw [satSucc_five]; omega
  have hfive : ∀ n, 5 ≤ satSucc 5 n ↔ 5 ≤ n + 1 := fun n => by rw [satSucc_five]; omega
  have hagree : f.follows (f.step .agree) ref ref :=
    ⟨fun _ => ⟨satSucc_five _, rfl, rfl, by simp [Feedback.step, hfull], by simp [Feedback.step, hfull]⟩,
      fun ⟨h, k⟩ => absurd (h.symm.trans k) (by decide), fun ⟨h, k⟩ => absurd (h.symm.trans k) (by decide)⟩
  have hnoClose : f.follows (f.step .noClose) true false :=
    ⟨fun h => absurd h (by decide),
      fun _ => ⟨satSucc_five _, rfl, rfl, rfl, by simp [Feedback.step, hfive]⟩, fun h => absurd h.1 (by decide)⟩
  have hweld : f.follows (f.step .weld) false true :=
    ⟨fun h => absurd h Bool.false_ne_true, fun h => absurd h.1 Bool.false_ne_true,
      fun _ => ⟨satSucc_five _, rfl, rfl, rfl, by simp [Feedback.step, hfive]⟩⟩
  cases ref with
  | true =>
    cases closed with
    | true => exact hagree
    | false => exact hnoClose
  | false =>
    cases closed with
    | true => exact hweld
    | false => exact hagree

/-- The contacts' turn on a SAMPLE: both stages are compared with the reference DRIVE. -/
theorem contactsSample_follows {s : State} {f : FieldFlags} (hflags : s.path.flags = some f) :
    s.heater.h1.follows (contactsSample s).heater.h1 s.heater.refH1 f.h1Closed ∧
    s.heater.h2.follows (contactsSample s).heater.h2 s.heater.refH2 f.h2Closed := by
  have hkept := contactsSample_keepsRuns s
  have hstep : stepContacts s = s.setHeater
      { s.heater with
        h1 := s.heater.h1.step (contactOutcome s.heater.refH1 f.h1Closed)
        h2 := s.heater.h2.step (contactOutcome s.heater.refH2 f.h2Closed) } := by
    unfold stepContacts
    rw [hflags]
  rw [hkept.h1, hkept.h2, hstep]
  exact ⟨Feedback.step_follows _ _ _, Feedback.step_follows _ _ _⟩

/-- HEATER_NOCLOSE and HEATER_WELD follow the flags of the two stages (04 R71, R72). -/
theorem contactsSample_present (s : State) :
    (contactsSample s).present .heaterNoclose =
      ((contactsSample s).heater.h1.noCloseFlag || (contactsSample s).heater.h2.noCloseFlag) ∧
    (contactsSample s).present .heaterWeld =
      ((contactsSample s).heater.h1.weldFlag || (contactsSample s).heater.h2.weldFlag) := by
  have hkept := contactsSample_keepsRuns s
  rw [hkept.h1, hkept.h2]
  exact ⟨((handCondition_present _ _ _ _).trans (if_neg (by decide))).trans
    ((handCondition_present _ _ _ _).trans (if_pos rfl)), (handCondition_present _ _ _ _).trans (if_pos rfl)⟩

/-! ### An accepted SAMPLE, check by check -/

section Checks

variable (s : State) (p : List Byte)

theorem workedBy_readings (first : List SampleBlock) : (s.workedBy p first).path.readings = some (decodeReadings p) := by
  rw [workedBy_path]
  rfl

theorem workedBy_flags (first : List SampleBlock) : (s.workedBy p first).path.flags = some (decodeFlags p) := by
  rw [workedBy_path]
  rfl

theorem worked_limits :
    (s.worked p).present .exhaustHigh =
      thresholdAfter (s.present .exhaustHigh) (s.limitAt 0) (decodeReadings p).exhaust ∧
    (s.worked p).present .inletHigh =
      thresholdAfter (s.present .inletHigh) (s.limitAt 1) (decodeReadings p).inlet ∧
    (s.worked p).present .exhaustSensor = (!(decodeReadings p).exhaust.valid) ∧
    (s.worked p).present .inletSensor = (!(decodeReadings p).inlet.valid) ∧
    (s.worked p).present .fuseOpen = (!(decodeFlags p).fuseIntact) := by
  obtain ⟨first, rest, horder, hfirst, hrest⟩ := sampleOrder_turn s.choice.sample .limits
  have hturn : ∀ x ∈ SampleBlock.limits.sources, (s.worked p).present x =
      (limitsChecks (decodeReadings p) (decodeFlags p) (s.limitAt 0) (s.limitAt 1) (s.workedBy p first)).present x := by
    intro x hx
    rw [worked_present horder hrest hx p, ← workedBy_limitAt s p first 0, ← workedBy_limitAt s p first 1,
      ← limitsSample_eq (workedBy_readings s p first) (workedBy_flags s p first)]
    rfl
  obtain ⟨h1, h2, h3, h4, h5⟩ := limitsChecks_present (decodeReadings p) (decodeFlags p) (s.limitAt 0) (s.limitAt 1)
    (s.workedBy p first)
  rw [workedBy_present hfirst (by decide)] at h1 h2
  exact ⟨(hturn _ (by decide)).trans h1, (hturn _ (by decide)).trans h2, (hturn _ (by decide)).trans h3,
    (hturn _ (by decide)).trans h4, (hturn _ (by decide)).trans h5⟩

theorem worked_overcurrent :
    ((s.worked p).drum.ocRun, (s.worked p).present .overcurrent) =
      overcurrentAfter (s.present .overcurrent) (s.limitAt 2) s.drum.ocRun (decodeReadings p).current := by
  obtain ⟨first, rest, horder, hfirst, hrest⟩ := sampleOrder_turn s.choice.sample .drum
  have hbefore := (workedBy_leavesRuns hfirst s p).ocRun rfl
  have hpresent := workedBy_present (x := .overcurrent) hfirst (by decide) s p
  rw [(worked_leavesRuns horder hrest p).ocRun rfl, worked_present horder hrest (by decide), ← hpresent,
    ← workedBy_limitAt s p first 2, ← hbefore]
  exact drumSample_overcurrent (workedBy_readings s p first) _

theorem worked_contacts :
    s.heater.h1.follows (s.worked p).heater.h1 s.heater.refH1 (decodeFlags p).h1Closed ∧
    s.heater.h2.follows (s.worked p).heater.h2 s.heater.refH2 (decodeFlags p).h2Closed ∧
    (s.worked p).present .heaterNoclose =
      ((s.worked p).heater.h1.noCloseFlag || (s.worked p).heater.h2.noCloseFlag) ∧
    (s.worked p).present .heaterWeld = ((s.worked p).heater.h1.weldFlag || (s.worked p).heater.h2.weldFlag) := by
  obtain ⟨first, rest, horder, hfirst, hrest⟩ := sampleOrder_turn s.choice.sample .contacts
  have hbefore := workedBy_leavesRuns hfirst s p
  have hafter := worked_leavesRuns horder hrest p
  obtain ⟨href1, href2⟩ := workedBy_reference s p first
  obtain ⟨h1, h2⟩ := contactsSample_follows (workedBy_flags s p first)
  obtain ⟨hnoclose, hweld⟩ := contactsSample_present (s.workedBy p first)
  rw [hbefore.h1 rfl, href1] at h1
  rw [hbefore.h2 rfl, href2] at h2
  rw [hafter.h1 rfl, hafter.h2 rfl, worked_present horder hrest (by decide), worked_present horder hrest (by decide)]
  exact ⟨h1, h2, hnoclose, hweld⟩

end Checks

/-- Settles O34: each check is the turn of its block, which finds the SAMPLE's readings beside its own conditions and runs of
before, and is followed by work that leaves them. -/
theorem conditionsFollowTheSample : Obligations.ConditionsFollowTheSample := by
  rintro s p _ haccepts rfl
  have hmoves := answer_moves s p
  have hpresent : ∀ x, (handOnCopy p (answerDrive (s.worked p))).refresh.present x = (s.worked p).present x := fun x =>
    hmoves.present x
  have hdrum : (handOnCopy p (answerDrive (s.worked p))).refresh.drum = (s.worked p).drum := by rw [hmoves]; rfl
  have hheater : (handOnCopy p (answerDrive (s.worked p))).refresh.heater = (answerDrive (s.worked p)).heater := by
    rw [hmoves]
  obtain ⟨hexhaust, hinlet, hexhaustSensor, hinletSensor, hfuse⟩ := worked_limits s p
  obtain ⟨h1, h2, hnoclose, hweld⟩ := worked_contacts s p
  refine ⟨_, exec_sample_of_accepts haccepts, ?_⟩
  rw [hpresent, hpresent, hpresent, hpresent, hpresent, hpresent, hpresent, hpresent, hdrum, hheater]
  exact ⟨hexhaust, hinlet, hexhaustSensor, hinletSensor, hfuse, worked_overcurrent s p, h1, h2, hnoclose, hweld⟩

end Sys2Proof.Machine

/-! # Regulation (04 R57, R58)

The zones as equations of `regulate`; and an accepted SAMPLE that leaves the door closed, changes no record and brings no
DRY: no block then moves what regulation reads, whatever the drum does. -/

namespace Sys2Proof.Machine

/-! ### The zones (04 R57) -/

/-- The stager regulates with the cycle ACTIVE in a heating phase and a valid exhaust reading. -/
theorem regulate_wanted {s : State} {x : Int} (hactive : s.cycle.state = .active)
    (hheats : s.cycle.record.kind.heats = true) (hexhaust : s.exhaust? = some x) :
    (regulate s).heater.wanted =
      zoneLevel x s.cycle.record.tSet (s.param .regBand) s.phaseCap s.heater.wanted := by
  rw [regulate, if_pos ⟨hactive, hheats⟩, hexhaust]
  rfl

/-- Without one of the three conditions the wanted level keeps its value (04 R58). -/
theorem regulate_of_unmet {s : State}
    (h : s.cycle.state ≠ .active ∨ s.cycle.record.kind.heats = false ∨ s.exhaust? = none) : regulate s = s := by
  unfold regulate
  split
  next hboth =>
    obtain ⟨hactive, hheats⟩ := hboth
    rcases h with hstate | hkind | hnone
    · exact absurd hactive hstate
    · exact absurd (hheats.symm.trans hkind) (by decide)
    · rw [hnone]
  next => rfl

section Zones

variable {x tSet band : Int} {cap wanted : Level}

theorem zoneLevel_hot (h : tSet ≤ x) : zoneLevel x tSet band cap wanted = .l0 := if_pos h

theorem zoneLevel_near (hlow : tSet - band ≤ x) (hhigh : x < tSet) : zoneLevel x tSet band cap wanted = wanted := by
  rw [zoneLevel, if_neg (not_le.mpr hhigh), if_pos hlow]

theorem zoneLevel_cool (hband : 0 ≤ band) (hlow : tSet - 2 * band ≤ x) (hhigh : x < tSet - band) :
    zoneLevel x tSet band cap wanted = Level.lower .l1 cap := by
  rw [zoneLevel, if_neg (by omega), if_neg (by omega), if_pos hlow]

theorem zoneLevel_cold (hband : 0 ≤ band) (h : x < tSet - 2 * band) : zoneLevel x tSet band cap wanted = cap := by
  rw [zoneLevel, if_neg (by omega), if_neg (by omega), if_neg (by omega)]

end Zones

/-! ### What regulation reads -/

/-- Between two states regulation sees no difference: the readings, the tables, the cycle, the fault unit, the tangle-persist
flag and the wanted level are the same. -/
structure RegulatesAlike (s t : State) : Prop where
  path    : t.path = s.path
  tables  : t.tables = s.tables
  cycle   : t.cycle = s.cycle
  faults  : t.faults = s.faults
  persist : t.walker.persist = s.walker.persist
  wanted  : t.heater.wanted = s.heater.wanted

theorem RegulatesAlike.refl (s : State) : RegulatesAlike s s := ⟨rfl, rfl, rfl, rfl, rfl, rfl⟩

theorem RegulatesAlike.trans {s t u : State} (h : RegulatesAlike s t) (k : RegulatesAlike t u) : RegulatesAlike s u :=
  ⟨k.path.trans h.path, k.tables.trans h.tables, k.cycle.trans h.cycle, k.faults.trans h.faults,
    k.persist.trans h.persist, k.wanted.trans h.wanted⟩

section RegulatesAlike

variable {s t : State}

theorem RegulatesAlike.regulate_wanted (h : RegulatesAlike s t) :
    (regulate t).heater.wanted = (regulate s).heater.wanted := by
  have hexhaust : t.exhaust? = s.exhaust? := by
    rw [State.exhaust?, State.silent, State.present, h.path, h.faults]
    rfl
  have hcap : t.phaseCap = s.phaseCap := by
    rw [State.phaseCap, h.persist, h.cycle]
    rfl
  have hband : t.param .regBand = s.param .regBand := by
    rw [State.param, h.tables]
    rfl
  by_cases hmet : s.cycle.state = .active ∧ s.cycle.record.kind.heats = true
  · obtain ⟨hactive, hheats⟩ := hmet
    cases hreading : s.exhaust? with
    | none =>
      rw [regulate_of_unmet (.inr (.inr hreading)), regulate_of_unmet (.inr (.inr (hexhaust.trans hreading))),
        h.wanted]
    | some x =>
      rw [Machine.regulate_wanted hactive hheats hreading, Machine.regulate_wanted (by rwa [h.cycle]) (by rwa [h.cycle])
        (hexhaust.trans hreading), h.cycle, hband, hcap, h.wanted]
  · have hunmet : s.cycle.state ≠ .active ∨ s.cycle.record.kind.heats = false ∨ s.exhaust? = none := by
      rw [not_and_or, Bool.not_eq_true] at hmet
      exact hmet.imp_right .inl
    rw [regulate_of_unmet hunmet, regulate_of_unmet (by rwa [h.cycle, hexhaust]), h.wanted]

/-- A law of one source's record holds of every state with the same fault unit (09 R157). -/
theorem RegulatesAlike.lawful (h : RegulatesAlike s t) {x : Source} (hlaw : s.lawful x) : t.lawful x := by
  unfold State.lawful State.present State.record
  rw [h.faults]
  exact hlaw

theorem RegulatesAlike.record (h : RegulatesAlike s t) (x : Source) : t.record x = s.record x := by
  rw [State.record, h.faults]
  rfl

theorem MovesDrum.regulatesAlike (h : MovesDrum s t) (hpersist : t.walker.persist = s.walker.persist) :
    RegulatesAlike s t :=
  ⟨by rw [h], by rw [h], by rw [h], by rw [h], hpersist, by rw [h]⟩

theorem MovesSteady.regulatesAlike (h : MovesSteady s t) : RegulatesAlike s t :=
  ⟨by rw [h], by rw [h], by rw [h], by rw [h], by rw [h], by rw [h]⟩

/-- A going that leaves the record of its source is none (09 R158). -/
theorem goAway_regulatesAlike {x : Source} (h : RegulatesAlike s t) (hlaw : s.lawful x)
    (hrecord : (goAway x t).record x = s.record x) : RegulatesAlike s (goAway x t) := by
  rw [goAway_still (h.lawful hlaw) (hrecord.trans (h.record x).symm)]
  exact h

end RegulatesAlike

/-! ### The blocks' turns without a record change -/

theorem reselect_regulatesAlike (n : Bool) (s : State) : RegulatesAlike s (reselect n s) :=
  (reselect_moves n s).regulatesAlike (by rw [reselect_walker, handWalker_persist])

theorem actOn_regulatesAlike (w : Demand) (s : State) : RegulatesAlike s (actOn w s) :=
  (actOn_moves w s).regulatesAlike (by rw [actOn_walker])

theorem reactDrum_regulatesAlike (s : State) : RegulatesAlike s (reactDrum s) := by
  have hmarks : ∀ a, RegulatesAlike s (s.setAux a) := fun _ => ⟨rfl, rfl, rfl, rfl, rfl, rfl⟩
  have hfold : ∀ (l : List Demand) (t : State), RegulatesAlike t (l.foldl (fun t w => actOn w t) t) := by
    intro l
    induction l with
    | nil => exact .refl
    | cons w ws ih => exact fun t => (actOn_regulatesAlike w t).trans (ih _)
  exact (hmarks _).trans (hfold _ _)

theorem stepSetpoint_regulatesAlike (s : State) : RegulatesAlike s (stepSetpoint s) := by
  refine (stepSetpoint_moves s).regulatesAlike ?_
  unfold stepSetpoint
  split <;> rfl

theorem forceReduction_regulatesAlike (s : State) : RegulatesAlike s (forceReduction s) :=
  (forceReduction_moves s).drum.regulatesAlike (by rw [forceReduction_walker])

/-- The drum's entry into another state at its end test leaves what regulation reads, where MOTOR_STALL and DRUM_OVERRUN
stand (05 R81, R82, R87, R88). -/
theorem drumEndTest_regulatesAlike {s : State} (hlaw : ∀ x, s.lawful x)
    (h : ∀ x ∈ SampleBlock.drum.sources, (drumEndTest s).record x = s.record x) : RegulatesAlike s (drumEndTest s) := by
  have hturning : (enterTurning s).record .motorStall = s.record .motorStall → RegulatesAlike s (enterTurning s) := by
    have hset : RegulatesAlike s ((s.setDrum
        { s.drum with state := .turning, turningEntry := some s.now, spinup := none }).setWalker
        { s.walker with score := 0 }) := ⟨rfl, rfl, rfl, rfl, rfl, rfl⟩
    exact goAway_regulatesAlike (hset.trans (forceReduction_regulatesAlike _)) (hlaw _)
  have hdwell : (goAway .drumOverrun (enterDwell s)).record .drumOverrun = s.record .drumOverrun →
      RegulatesAlike s (goAway .drumOverrun (enterDwell s)) := by
    have hset : ∀ d, RegulatesAlike s (s.setDrum d) := fun _ => ⟨rfl, rfl, rfl, rfl, rfl, rfl⟩
    exact goAway_regulatesAlike ((hset _).trans (forceReduction_regulatesAlike _)) (hlaw _)
  have hstall := h .motorStall (by decide)
  have hoverrun := h .drumOverrun (by decide)
  revert hstall hoverrun
  unfold drumEndTest
  split
  · split
    · exact fun hstall _ => hturning hstall
    · exact fun _ _ => .refl s
  · split
    · exact fun _ hoverrun => hdwell hoverrun
    · exact fun _ _ => .refl s
  all_goals exact fun _ _ => .refl s

/-- The drum's turn leaves what regulation reads, where its three records stand (05 R85). -/
theorem drumSample_regulatesAlike {s : State} (late : Bool) (hlaw : ∀ x, s.lawful x)
    (h : ∀ x ∈ SampleBlock.drum.sources, (drumSample late s).record x = s.record x) :
    RegulatesAlike s (drumSample late s) := by
  have hnote : RegulatesAlike s s.currentNoted := ⟨rfl, rfl, rfl, rfl, rfl, rfl⟩
  have hbegin : ∀ t, RegulatesAlike t (stepSetpoint (reactDrum t)) := fun t =>
    (reactDrum_regulatesAlike t).trans (stepSetpoint_regulatesAlike _)
  have hsteps : ∀ t, (∀ x, t.lawful x) →
      (∀ x ∈ SampleBlock.drum.sources, (drumEndTest (stepSetpoint (reactDrum t))).record x = t.record x) →
      RegulatesAlike t (drumEndTest (stepSetpoint (reactDrum t))) := fun t htlaw ht =>
    (hbegin t).trans (drumEndTest_regulatesAlike (fun x => (hbegin t).lawful (htlaw x))
      fun x hx => (ht x hx).trans ((hbegin t).record x).symm)
  have hnoted : ∀ x, s.currentNoted.lawful x := fun x => hnote.lawful (hlaw x)
  rw [drumSample_eq] at h ⊢
  refine hnote.trans ?_
  cases late with
  | true =>
    have hstepped := drumSteps_hands s.currentNoted
    have hhand : drumWork true s.overcurrentStep.2 s.currentNoted =
        drumEndTest (stepSetpoint (reactDrum s.currentNoted)) := by
      refine handOvercurrent_still ?_ ?_
      · unfold State.lawful
        rw [hstepped.present .overcurrent (by decide), hstepped.record .overcurrent (by decide)]
        exact hnoted .overcurrent
      · rw [hstepped.record .overcurrent (by decide)]
        exact h .overcurrent (by decide)
    rw [hhand] at h ⊢
    exact hsteps _ hnoted h
  | false =>
    have hhand : handOvercurrent s.overcurrentStep.2 s.currentNoted = s.currentNoted := by
      refine handOvercurrent_still (hnoted .overcurrent) ?_
      rw [← (drumSteps_hands (handOvercurrent s.overcurrentStep.2 s.currentNoted)).record .overcurrent (by decide)]
      exact h .overcurrent (by decide)
    have hwork : drumWork false s.overcurrentStep.2 s.currentNoted =
        drumEndTest (stepSetpoint (reactDrum s.currentNoted)) :=
      congrArg (fun t => drumEndTest (stepSetpoint (reactDrum t))) hhand
    rw [hwork] at h ⊢
    exact hsteps _ hnoted h

/-- A block's turn but the stager's, with the door closed and no DRY, where the records of its sources stand. -/
theorem sampleBlock_regulatesAlike {b : SampleBlock} (hb : b ≠ .heater) {s0 s : State} {late : Bool}
    (hdry : ¬s0.signalsDry) (hlaw : ∀ x, s.lawful x)
    (h : ∀ x ∈ b.sources, (sampleBlock s0 false late b s).record x = s.record x) :
    RegulatesAlike s (sampleBlock s0 false late b s) := by
  cases b with
  | limits =>
    have hstill : sampleBlock s0 false late .limits s = s := limitsSample_still (fun x _ => hlaw x) h
    rw [hstill]
    exact .refl s
  | moisture => exact (moistureSample_steady hdry (hlaw _) (h _ (by decide))).regulatesAlike
  | contacts =>
    have hstill : sampleBlock s0 false late .contacts s = stepContacts s := contactsSample_still (fun x _ => hlaw x) h
    rw [hstill]
    exact (stepContacts_steady s).regulatesAlike
  | heater => exact absurd rfl hb
  | drum => exact drumSample_regulatesAlike late hlaw h
  | cycle => exact .refl s

theorem sampleWork_regulatesAlike {order : List SampleBlock} {s0 s : State} {late : Bool} (hnodup : order.Nodup)
    (hheater : .heater ∉ order) (hdry : ¬s0.signalsDry) (hlaw : ∀ x, s.lawful x)
    (h : ∀ b ∈ order, ∀ x ∈ b.sources, (sampleWork s0 false late order s).record x = s.record x) :
    RegulatesAlike s (sampleWork s0 false late order s) := by
  induction order generalizing s with
  | nil => exact .refl s
  | cons b bs ih =>
    obtain ⟨hb, hbs⟩ := List.nodup_cons.mp hnodup
    have hne : b ≠ .heater := fun e => hheater (by simp [e])
    have hblock : RegulatesAlike s (sampleBlock s0 false late b s) := by
      refine sampleBlock_regulatesAlike hne hdry hlaw fun x hx => ?_
      rw [← sampleWork_record hb hx s0 false late]
      exact h b List.mem_cons_self x hx
    rw [sampleWork_cons] at h ⊢
    refine hblock.trans (ih hbs (fun hmem => hheater (List.mem_cons_of_mem b hmem)) (fun x => hblock.lawful (hlaw x))
      fun c hc x hx => ?_)
    rw [h c (List.mem_cons_of_mem b hc) x hx, hblock.record]

/-! ### An accepted SAMPLE without a record change -/

/-- The SAMPLE leaves the door closed and brings no DRY, and no record has changed once the blocks have worked on it. -/
structure State.unrecorded (s : State) (p : List Byte) : Prop where
  closed  : (byteAt p 1).getLsbD 0 = true
  lawful  : ∀ x, s.lawful x
  noDry   : ¬(s.accepting p).signalsDry
  records : (s.worked p).faults.records = s.faults.records

namespace State.unrecorded

variable {s : State} {p : List Byte}

theorem worked_record (h : s.unrecorded p) (x : Source) : (s.worked p).record x = s.record x := by
  rw [State.record, h.records]
  rfl

/-- The records of the field port stand from the acceptance on. -/
theorem accepting_record (h : s.unrecorded p) {x : Source} (hx : ∀ b : SampleBlock, x ∉ b.sources) :
    (s.accepting p).record x = s.record x := by
  rw [← h.worked_record x, State.worked, sampleWork_record_of_unhanded hx, (reselect_movesPhase false _).record_eq]

/-- FIELD_LINK does not go at the good frame: its record would tell. -/
theorem goodFrame_eq (h : s.unrecorded p) : goodFrame .field s = s.portAfter .field (s.badCount .field - 1) := by
  have hrecord : (goodFrame .field s).record .fieldLink = s.record .fieldLink := by
    have haccepting : (s.accepting p).record .fieldLink = (goodFrame .field s).record .fieldLink :=
      (goAway_hands (x := .fieldSilent) (List.mem_singleton_self _) _).record .fieldLink (by decide)
    rw [← haccepting]
    exact h.accepting_record fun b => (SampleBlock.sources_field b).1
  revert hrecord
  rw [Machine.goodFrame_eq]
  split
  · exact fun hrecord => goAway_still (s := s.portAfter .field _) (h.lawful .fieldLink) hrecord
  · exact fun _ => rfl

/-- At the acceptance the SAMPLE's readings have come, and FIELD_SILENT does not go: its record would tell. -/
theorem accepting_regulatesAlike (h : s.unrecorded p) :
    RegulatesAlike (s.setPath (s.decodedPath p)) (s.accepting p) := by
  have hgood := h.goodFrame_eq
  have hdecoded : RegulatesAlike (s.setPath (s.decodedPath p))
      ((decodeSample p (goodFrame .field s).dropChoice).setAux
        { (decodeSample p (goodFrame .field s).dropChoice).aux with
          drumDeferred := true, deferred := [], airflowWaits := (goodFrame .field s).dropChoice.slowRamp }) := by
    rw [hgood]
    exact ⟨rfl, rfl, rfl, rfl, rfl, rfl⟩
  exact goAway_regulatesAlike hdecoded (h.lawful .fieldSilent)
    (h.accepting_record fun b => (SampleBlock.sources_field b).2)

theorem doorOpening (h : s.unrecorded p) : s.doorOpening p = false := by
  have hflag : (decodeFlags p).doorClosed = true := h.closed
  rw [State.doorOpening, hflag]
  exact Bool.and_false _

/-- At its turn the stager regulates with the SAMPLE's readings, and what it read before the SAMPLE. -/
theorem workedBy_regulatesAlike (h : s.unrecorded p) {first rest : List SampleBlock}
    (horder : fillOrder SampleBlock.all s.choice.sample = first ++ .heater :: rest) :
    RegulatesAlike (s.setPath (s.decodedPath p)) (s.workedBy p first) := by
  obtain ⟨hfirst, -, hnodup, -, hdisjoint⟩ := sampleOrder_disjoint horder
  have hstart : RegulatesAlike (s.setPath (s.decodedPath p)) (reselect false (s.accepting p)) :=
    h.accepting_regulatesAlike.trans (reselect_regulatesAlike false _)
  have hwork : s.workedBy p first =
      sampleWork (s.accepting p) false s.choice.overcurrentLate first (reselect false (s.accepting p)) := by
    rw [State.workedBy, h.doorOpening]
  have hlater : ∀ b ∈ first, ∀ x ∈ b.sources, (s.workedBy p first).record x = s.record x := fun b hb x hx => by
    rw [← h.worked_record, worked_split horder, sampleWork_record (fun hmem => hdisjoint hb hmem) hx]
    exact ((heaterSample_hands _ []).record x (List.not_mem_nil)).symm
  rw [hwork] at hlater ⊢
  exact hstart.trans (sampleWork_regulatesAlike hnodup hfirst h.noDry (fun x => hstart.lawful (h.lawful x))
    fun b hb x hx => (hlater b hb x hx).trans (hstart.record x).symm)

end State.unrecorded

/-- Of the stager's work on a SAMPLE regulation alone moves the wanted level (04 R67). -/
theorem heaterSample_wanted (s : State) : (heaterSample s).heater.wanted = (regulate s).heater.wanted := by
  have hstep : ∀ t, (stageStep t).heater.wanted = t.heater.wanted := fun t => by
    unfold stageStep
    split
    · rfl
    · split <;> rfl
  rw [heaterSample, hstep, (forceReduction_regulatesAlike _).wanted]

/-- The wanted level that an accepted SAMPLE leaves is the one of regulation with its readings (04 R57, R67). -/
theorem unrecorded_wanted {s t : State} {p : List Byte} (h : s.unrecorded p)
    (ht : t = (handOnCopy p (answerDrive (s.worked p))).refresh) :
    t.heater.wanted = (regulate (s.setPath (s.decodedPath p))).heater.wanted := by
  obtain ⟨first, rest, horder⟩ := sampleOrder_split s.choice.sample
  rw [ht, (answered_offStage horder p).wanted, heaterSample_wanted,
    (h.workedBy_regulatesAlike horder).regulate_wanted]

/-- Settles O36: the zones are equations of regulation, and where no record changes no block moves what regulation reads. -/
theorem regulationFollowsTheZones : Obligations.RegulationFollowsTheZones := by
  intro s
  refine ⟨fun x hactive hheats hexhaust => ?_, fun h => by rw [regulate_of_unmet h], regulate_eq s, ?_⟩
  · have hband : (0 : Int) ≤ s.param .regBand := Int.natCast_nonneg _
    rw [regulate_wanted hactive hheats hexhaust]
    refine ⟨zoneLevel_hot, zoneLevel_near, fun hlow hhigh => ?_, zoneLevel_cold hband⟩
    rw [zoneLevel_cool hband hlow hhigh, Level.lower_code]
    rfl
  · intro p t haccepts hclosed hrecord hdry h hkept
    rw [exec_sample_of_accepts haccepts] at h
    have ht := (Host.Outcome.next.inj h).symm
    have hmoves := answer_moves s p
    rw [← ht] at hmoves
    have hfaults : t.faults = (s.worked p).faults := by rw [hmoves]; rfl
    have hpath : t.path = s.decodedPath p := by
      rw [hmoves.record.path]
      exact worked_path s p
    rw [hpath]
    exact unrecorded_wanted ⟨hclosed, fun x => (hrecord x).1, hdry, by rw [← hfaults]; exact hkept⟩ ht

end Sys2Proof.Machine

/-! # The walk's law is not kept (06 R98, R108; 10 R172)

The law bounds the current index by the main window outside a pass alone: within a pass it asks for an entry to run,
but not for one of the untangle block. A PATTERN_WRITE is refused as in use for the windows of the program alone (10
R172), so it can make an entry EMPTY at which the law lets a pass stand. -/

namespace Sys2Proof.Machine

/-- A HEAT_TIMED phase that runs the entry 13 of the window 8 to 15, with the untangle block 20 to 23. -/
def strayPhase : PhaseRecord :=
  { kind := .heatTimed, tSet := 650, cap := .l2, dryness := 990, confirm := 50, depth := 2, duration := 1, start := 13,
    wrap := 8, untangle := some 22 }

/-- An ACTIVE cycle that turns CW in a pass whose index 7 lies in no window of its program, with a write of EMPTY to
that entry waiting. -/
def strayPass : State :=
  { State.reset with
    pending := [.patternWrite 7 [0, 0, 0, 0]]
    path := { resetPath with door := .isClosed }
    drum :=
      { resetDrum with state := .turning, dir := .cw, setpoint := 450, target := 450, winner := .walkerRun .cw 450 }
    walker :=
      { resetWalker with
        main := some ⟨8, 8⟩, untangle := some 20, index := some 7, segment := some ⟨.cw, 450, 4⟩, pass := true,
        ret := some 13 }
    cycle := { resetCycle with state := .active, record := strayPhase }
    tables :=
      { resetTables with
        program := resetTables.program.set 0 strayPhase
        pattern :=
          ((resetTables.pattern.set 7 ⟨.cw, 450, 4⟩).set 13 ⟨.cw, 450, 4⟩).set 23 ⟨.pause, 200, 1⟩ } }

theorem strayPass_walkLaw : strayPass.walkLaw := by
  refine ⟨by decide +kernel, fun _ => ⟨by decide +kernel, by decide +kernel, ⟨8, 8⟩, 7, by decide +kernel, rfl, rfl,
    by decide +kernel, fun hpass => absurd hpass (by decide), fun r _ hret => ?_⟩⟩
  obtain rfl : 13 = r := Option.some.inj hret
  decide +kernel

theorem strayPass_drumLaw : strayPass.drumLaw :=
  ⟨(⟨by decide, rfl, rfl, rfl, rfl⟩ : strayPass.drum.dir ≠ .stop ∧ strayPass.drum.setpoint = strayPass.drum.target ∧
      strayPass.drum.spinup = none ∧ strayPass.drum.coast = none ∧ strayPass.drum.dwell = none),
    (by decide : Direction.cw ≠ .stop), rfl, rfl, rfl⟩

theorem strayPass_walkerLaw : strayPass.walkerLaw := ⟨rfl, fun _ => ⟨by decide, by decide, rfl⟩⟩

theorem strayPass_demandLaw : strayPass.demandLaw :=
  ⟨by decide +kernel, (rfl : strayPass.drum.winner.run? = some (strayPass.drum.dir, strayPass.drum.target))⟩

theorem strayPass_actionLaw : strayPass.actionLaw := ⟨by decide +kernel, fun h => absurd h (by decide +kernel)⟩

/-- The write is answered OK, and leaves the pass, still ACTIVE, at an EMPTY entry. -/
theorem strayPass_step : ∃ t, step strayPass = .next t ∧ t.cycle.state = .active ∧ t.walker.index = some 7 ∧
    t.usable 7 = false := ⟨_, rfl, by decide +kernel, by decide +kernel, by decide +kernel⟩

/-- Refutes O35: the index of a pass is not held in the untangle block, so a PATTERN_WRITE that is not in use can make
its entry EMPTY. -/
theorem not_walkLawIsKept : ¬ Obligations.WalkLawIsKept := by
  intro hkept
  obtain ⟨t, hstep, hactive, hindex, hempty⟩ := strayPass_step
  obtain ⟨-, hwalk⟩ := hkept strayPass t strayPass_walkLaw strayPass_drumLaw strayPass_walkerLaw strayPass_demandLaw
    strayPass_actionLaw hstep
  obtain ⟨-, -, w, i, -, -, hi, husable, -, -⟩ := hwalk (.inl hactive)
  obtain rfl : 7 = i := Option.some.inj (hindex.symm.trans hi)
  exact absurd husable (by rw [hempty]; decide)

end Sys2Proof.Machine

/-! # What a drum's acts make of its laws (05 R75, R77, R78)

The laws of motion are told apart by what keeps them. That the drum has its shape and runs as its winner asks is kept
by everything that acts on the drum; that the winner is the selected demand is what a selection makes true; and the
walker's law is kept by each move of the walker. While the drum's reaction to a SAMPLE waits, the winners still to be
met stand in the place of the drum's own agreement (log entry 6). -/

namespace Sys2Proof.Machine

/-! ### A drum that runs as a demand asks (05 R78) -/

/-- A drum in RAMP or TURNING runs as a demand asks, and a STOPPED drum is asked to stop. -/
def Drum.meets (d : Drum) (w : Demand) : Prop :=
  match d.state with
  | .ramp => w.run? = some (d.dir, d.target)
  | .turning => w.run? = some (d.dir, d.target)
  | .stopped => w = .stop
  | .decel => True
  | .dwell => True

theorem demandLaw_iff (s : State) : s.demandLaw ↔ s.drum.winner = s.selectDemand ∧ s.drum.meets s.drum.winner := by
  unfold State.demandLaw Drum.meets
  cases s.drum.state <;> rfl

/-- A demand that the part can make runs in a direction. -/
theorem Demand.sound.run_dir {w : Demand} {d : Direction} {v : Nat} (h : w.sound) (hrun : w.run? = some (d, v)) :
    d ≠ .stop := by
  cases w with
  | stop => cases hrun
  | override _ => cases hrun; decide
  | walkerRun _ _ => cases hrun; exact h
  | walkerPause _ => cases hrun

theorem PatternEntry.demand_sound (e : PatternEntry) : e.demand.sound := by
  unfold PatternEntry.demand
  split
  · trivial
  · exact (by decide : Direction.cw ≠ .stop)
  · exact (by decide : Direction.ccw ≠ .stop)
  · trivial

theorem segmentDemand_sound (s : State) : s.segmentDemand.sound := by
  unfold State.segmentDemand
  split
  · trivial
  · exact PatternEntry.demand_sound _

theorem selectDemand_sound (s : State) : s.selectDemand.sound := by
  unfold State.selectDemand
  split
  · trivial
  · split
    · trivial
    · exact segmentDemand_sound s

/-- A demand that is no RUN puts a drum out of RAMP, TURNING and, unless it is STOP, STOPPED. -/
theorem Drum.meets_stop {d : Drum} (h : d.meets .stop) : d.state ≠ .ramp ∧ d.state ≠ .turning := by
  unfold Drum.meets Demand.run? at h
  constructor <;> intro hstate <;> rw [hstate] at h <;> cases h

/-! ### The entries into the drum's states (05 R78 to R84) -/

/-- The drum has its shape and runs as a demand asks. -/
def Drum.fits (d : Drum) (w : Demand) : Prop := d.shape ∧ d.meets w

theorem enterRamp_drum (d : Direction) (v start : Nat) (s : State) :
    (enterRamp d v start s).drum =
      { s.drum with
        state := .ramp, dir := d, target := v, setpoint := start, spinup := some 0, stallMark := false, coast := none,
        dwell := none } := forceReduction_drum _

theorem enterDecel_drum (s : State) :
    (enterDecel s).drum =
      { s.drum with
        state := .decel, target := 0, spinup := none, coast := some 0, overrunMark := false, dwell := none } :=
  forceReduction_drum _

theorem enterDwell_drum (s : State) :
    (enterDwell s).drum =
      { s.drum with
        state := .dwell, dir := .stop, setpoint := 0, target := 0, spinup := none, coast := none, dwell := some 0 } :=
  forceReduction_drum _

theorem enterStopped_drum (s : State) :
    (enterStopped s).drum =
      { s.drum with
        state := .stopped, dir := .stop, setpoint := 0, target := 0, spinup := none, coast := none, dwell := none } :=
  forceReduction_drum _

theorem enterRamp_fits {d : Direction} {v : Nat} {w : Demand} (hdir : d ≠ .stop) (hrun : w.run? = some (d, v))
    (start : Nat) (s : State) : (enterRamp d v start s).drum.fits w := by
  rw [enterRamp_drum]
  exact ⟨⟨hdir, Option.some_ne_none 0, rfl, rfl⟩, hrun⟩

theorem enterDecel_fits {s : State} (hdir : s.drum.dir ≠ .stop) (w : Demand) : (enterDecel s).drum.fits w := by
  rw [enterDecel_drum]
  exact ⟨⟨hdir, rfl, rfl, Option.some_ne_none 0, rfl⟩, trivial⟩

theorem enterDwell_fits (s : State) (w : Demand) : (enterDwell s).drum.fits w := by
  rw [enterDwell_drum]
  exact ⟨⟨rfl, rfl, rfl, rfl, rfl, Option.some_ne_none 0⟩, trivial⟩

theorem enterStopped_fits (s : State) : (enterStopped s).drum.fits .stop := by
  rw [enterStopped_drum]
  exact ⟨⟨rfl, rfl, rfl, rfl, rfl, rfl⟩, rfl⟩

theorem leaveRamp_fits {s : State} (hdir : s.drum.dir ≠ .stop) (w : Demand) : (leaveRamp s).drum.fits w := by
  unfold leaveRamp
  split
  · exact enterDwell_fits s w
  · exact enterDecel_fits hdir w

/-- A drum that has acted on a demand runs as it asks, whatever it did before (05 R78). -/
theorem actOn_fits {w : Demand} {s : State} (hsound : w.sound) (hshape : s.drum.shape) : (actOn w s).drum.fits w := by
  unfold actOn
  split
  next hstopped =>
    split
    · exact ⟨hshape, by unfold Drum.meets; rw [hstopped]⟩
    · exact enterRamp_fits (by decide) rfl 0 s
    · exact enterRamp_fits hsound rfl 0 s
    · exact enterDwell_fits s _
  next hramp =>
    have hdir : s.drum.dir ≠ .stop := by
      unfold Drum.shape at hshape
      rw [hramp] at hshape
      exact hshape.1
    split
    next d v hrun =>
      split
      next hsame =>
        refine ⟨?_, ?_⟩
        · unfold Drum.shape at hshape ⊢
          rw [State.setDrum_drum, hramp]
          rw [hramp] at hshape
          exact hshape
        · unfold Drum.meets
          rw [State.setDrum_drum, hramp]
          exact hrun.trans (by rw [hsame])
      · exact leaveRamp_fits hdir w
    · exact leaveRamp_fits hdir w
  next hturning =>
    have hdir : s.drum.dir ≠ .stop := by
      unfold Drum.shape at hshape
      rw [hturning] at hshape
      exact hshape.1
    split
    next d v hrun =>
      split
      next hsame =>
        split
        next htarget =>
          refine ⟨hshape, ?_⟩
          unfold Drum.meets
          rw [hturning]
          exact hrun.trans (by rw [hsame, htarget])
        · exact enterRamp_fits (hsound.run_dir hrun) hrun _ s
      · exact enterDecel_fits hdir w
    · exact enterDecel_fits hdir w
  next hdecel => exact ⟨hshape, by unfold Drum.meets; rw [hdecel]; trivial⟩
  next hdwell =>
    have hmeets : s.drum.meets w := by unfold Drum.meets; rw [hdwell]; trivial
    split
    · exact ⟨hshape, hmeets⟩
    · exact ⟨hshape, hmeets⟩
    · exact ⟨hshape, hmeets⟩
    · refine ⟨?_, hmeets⟩
      unfold Drum.shape at hshape ⊢
      rw [State.setDrum_drum, hdwell]
      rw [hdwell] at hshape
      obtain ⟨hdir, hsetpoint, htarget, hspinup, hcoast, -⟩ := hshape
      exact ⟨hdir, hsetpoint, htarget, hspinup, hcoast, Option.some_ne_none 0⟩

/-! ### What acting on a demand leaves -/

theorem actOn_aux (w : Demand) (s : State) : (actOn w s).aux = s.aux := by
  have hleave : (leaveRamp s).aux = s.aux := by
    unfold leaveRamp
    split <;> simp [enterDwell, enterDecel]
  unfold actOn
  split
  · split <;> simp [enterRamp, enterDwell]
  · split
    · split
      · rfl
      · exact hleave
    · exact hleave
  · split
    · split
      · split <;> simp [enterRamp]
      · simp [enterDecel]
    · simp [enterDecel]
  · rfl
  · split <;> rfl

/-! ### The drum and the winners it has still to meet (05 R85; 09 R159; log entry 6) -/

/-- The drum has its shape, and every demand that it has met or has still to meet is one the part can make. With none to
meet it runs as the winner asks; otherwise the last of them is the winner. -/
structure State.driven (s : State) : Prop where
  shape    : s.drum.shape
  sound    : s.drum.winner.sound
  waiting  : ∀ w ∈ s.aux.deferred, w.sound
  meets    : s.aux.deferred = [] → s.drum.meets s.drum.winner
  last     : ∀ w, s.aux.deferred.getLast? = some w → w = s.drum.winner
  noneLeft : s.aux.drumDeferred = false → s.aux.deferred = []

/-- Nothing is left over from a SAMPLE's work (log entries 6 and 21). -/
def State.reacted (s : State) : Prop := s.aux.drumDeferred = false ∧ s.aux.airflowWaits = false

/-- The winner is the demand that 05 R77 selects. -/
def State.selected (s : State) : Prop := s.drum.winner = s.selectDemand

/-- The laws of motion in the parts that are kept apart. -/
theorem motionLaws_iff (s : State) :
    s.drumLaw ∧ s.demandLaw ↔ s.driven ∧ s.reacted ∧ s.selected := by
  rw [demandLaw_iff]
  constructor
  · rintro ⟨⟨hshape, hsound, hready, hnone, hair⟩, hselected, hmeets⟩
    exact ⟨⟨hshape, hsound, by simp [hnone], fun _ => hmeets, by simp [hnone], fun _ => hnone⟩, ⟨hready, hair⟩,
      hselected⟩
  · rintro ⟨h, ⟨hready, hair⟩, hselected⟩
    exact ⟨⟨h.shape, h.sound, hready, h.noneLeft hready, hair⟩, hselected, h.meets (h.noneLeft hready)⟩

/-- A drum with no winner left to meet is driven when it fits the winner that stands. -/
theorem State.driven_of_fits {s : State} (hfits : s.drum.fits s.drum.winner) (hsound : s.drum.winner.sound)
    (hnone : s.aux.deferred = []) : s.driven :=
  ⟨hfits.1, hsound, by simp [hnone], fun _ => hfits.2, by simp [hnone], fun _ => hnone⟩

/-- Met in their turn, the winners leave the drum running as the last of them asks. -/
theorem foldl_actOn_fits {l : List Demand} {s : State} {w : Demand} (hsound : ∀ v ∈ l, v.sound) (hshape : s.drum.shape)
    (hmeets : l = [] → s.drum.meets w) (hlast : ∀ v, l.getLast? = some v → v = w) :
    (l.foldl (fun t v => actOn v t) s).drum.fits w := by
  induction l generalizing s with
  | nil => exact ⟨hshape, hmeets rfl⟩
  | cons v vs ih =>
    have hacted := actOn_fits (hsound v List.mem_cons_self) hshape
    refine ih (fun u hu => hsound u (List.mem_cons_of_mem v hu)) hacted.1 (fun hnil => ?_) fun u hu => hlast u ?_
    · rw [← hlast v (by rw [hnil]; rfl)]
      exact hacted.2
    · rw [List.getLast?_cons, hu]
      rfl

end Sys2Proof.Machine

/-! # What keeps the laws of motion (05 R75 to R78; 06 R97, R105, R108)

A selection of the winner keeps the drum's and the walker's laws and makes the winner the selected demand. So an
operation that ends in a selection may move whatever the selection reads, and every other operation leaves it. -/

namespace Sys2Proof.Machine

/-! ### How the laws pass on -/

/-- Where the drum's and the walker's laws held before, they hold after. -/
structure Drives (s t : State) : Prop where
  driven  : s.driven → t.driven
  reacted : s.reacted → t.reacted
  walker  : s.walkerLaw → t.walkerLaw

/-- Where the laws of motion held before, they hold after. -/
structure Steers (s t : State) : Prop extends Drives s t where
  selected : s.selected → t.selected

theorem Drives.refl (s : State) : Drives s s := ⟨id, id, id⟩

theorem Drives.trans {s t u : State} (h : Drives s t) (k : Drives t u) : Drives s u :=
  ⟨k.driven ∘ h.driven, k.reacted ∘ h.reacted, k.walker ∘ h.walker⟩

theorem Steers.refl (s : State) : Steers s s := ⟨.refl s, id⟩

theorem Steers.trans {s t u : State} (h : Steers s t) (k : Steers t u) : Steers s u :=
  ⟨h.toDrives.trans k.toDrives, k.selected ∘ h.selected⟩

/-- The drum, the walker, the record of the phase, and what waits for the drum's step 2 stand. -/
structure Rests (s t : State) : Prop where
  drum    : t.drum = s.drum
  walker  : t.walker = s.walker
  record  : t.cycle.record = s.cycle.record
  waiting : t.aux.drumDeferred = s.aux.drumDeferred ∧ t.aux.deferred = s.aux.deferred ∧
    t.aux.airflowWaits = s.aux.airflowWaits

theorem Rests.refl (s : State) : Rests s s := ⟨rfl, rfl, rfl, rfl, rfl, rfl⟩

theorem Rests.trans {s t u : State} (h : Rests s t) (k : Rests t u) : Rests s u := by
  obtain ⟨hdeferred, hwinners, hair⟩ := h.waiting
  obtain ⟨kdeferred, kwinners, kair⟩ := k.waiting
  exact ⟨k.drum.trans h.drum, k.walker.trans h.walker, k.record.trans h.record, kdeferred.trans hdeferred,
    kwinners.trans hwinners, kair.trans hair⟩

theorem Rests.drives {s t : State} (h : Rests s t) : Drives s t := by
  obtain ⟨hdeferred, hwinners, hair⟩ := h.waiting
  refine ⟨fun hd => ⟨?_, ?_, ?_, ?_, ?_, ?_⟩, fun ⟨hready, hwaits⟩ => ⟨?_, ?_⟩, fun ⟨hblock, hpass⟩ => ⟨?_, ?_⟩⟩
  · rw [h.drum]; exact hd.shape
  · rw [h.drum]; exact hd.sound
  · rw [hwinners]; exact hd.waiting
  · rw [hwinners, h.drum]; exact hd.meets
  · rw [hwinners, h.drum]; exact hd.last
  · rw [hwinners, hdeferred]; exact hd.noneLeft
  · exact hdeferred.trans hready
  · exact hair.trans hwaits
  · rw [h.walker, h.record]; exact hblock
  · rw [h.walker]; exact hpass

/-- All that the selection of the winner reads stands (05 R76, R77). -/
structure SelectsAlike (s t : State) : Prop where
  door      : t.path.door = s.path.door
  silent    : t.silent = s.silent
  effective : t.faults.effective = s.faults.effective
  state     : t.cycle.state = s.cycle.state
  cool      : t.param .coolSpeed = s.param .coolSpeed
  segment   : t.walker.segment = s.walker.segment

namespace SelectsAlike

variable {s t : State}

theorem overrides (h : SelectsAlike s t) : t.overrides = s.overrides := by
  rw [State.overrides, h.effective, h.state]
  rfl

theorem stopDemand (h : SelectsAlike s t) : t.stopDemand = s.stopDemand := by
  rw [State.stopDemand, h.door, h.silent, h.effective, h.state, h.overrides]
  rfl

theorem walkerTurn (h : SelectsAlike s t) : t.walkerTurn = s.walkerTurn := by
  rw [State.walkerTurn, h.stopDemand, h.overrides]
  rfl

theorem selectDemand (h : SelectsAlike s t) : t.selectDemand = s.selectDemand := by
  rw [State.selectDemand, h.stopDemand, h.overrides, h.cool, State.segmentDemand, h.segment]
  rfl

/-- Where the winner stands too, it is still the selected demand. -/
theorem selected (h : SelectsAlike s t) (hwinner : t.drum.winner = s.drum.winner) : s.selected → t.selected := fun hs =>
  hwinner.trans (hs.trans h.selectDemand.symm)

end SelectsAlike

theorem Rests.steers {s t : State} (h : Rests s t) (k : SelectsAlike s t) : Steers s t :=
  ⟨h.drives, k.selected (by rw [h.drum])⟩

theorem MovesUpstream.steers {s t : State} (h : MovesUpstream s t) : Steers s t := by
  rw [h]
  exact Rests.steers ⟨rfl, rfl, rfl, rfl, rfl, rfl⟩ ⟨rfl, rfl, rfl, rfl, rfl, rfl⟩

theorem MovesLevel.steers {s t : State} (h : MovesLevel s t) : Steers s t := by
  rw [h]
  exact Rests.steers ⟨rfl, rfl, rfl, rfl, rfl, rfl⟩ ⟨rfl, rfl, rfl, rfl, rfl, rfl⟩

theorem raiseEvent_steers (k : EventKind) (a : Nat) (s : State) : Steers s (raiseEvent k a s) :=
  (raiseEvent_moves k a s).steers

theorem forceReduction_steers (s : State) : Steers s (forceReduction s) := (forceReduction_moves s).steers

/-! ### The walker's moves (06) -/

/-- A move of the walker that keeps its own law keeps the drum's. -/
theorem MovesWalker.drives {s t : State} (h : MovesWalker s t) (hlaw : s.walkerLaw → t.walkerLaw) : Drives s t := by
  have hdrum : t.drum = s.drum := by rw [h]
  have hready : t.aux.drumDeferred = s.aux.drumDeferred := by rw [h]
  have hwinners : t.aux.deferred = s.aux.deferred := by rw [h]
  have hair : t.aux.airflowWaits = s.aux.airflowWaits := by rw [h]
  refine ⟨fun hd => ⟨?_, ?_, ?_, ?_, ?_, ?_⟩, fun ⟨h1, h2⟩ => ⟨hready.trans h1, hair.trans h2⟩, hlaw⟩
  · rw [hdrum]; exact hd.shape
  · rw [hdrum]; exact hd.sound
  · rw [hwinners]; exact hd.waiting
  · rw [hwinners, hdrum]; exact hd.meets
  · rw [hwinners, hdrum]; exact hd.last
  · rw [hwinners, hready]; exact hd.noneLeft

/-- A move of the walker that names no segment leaves the selection. -/
theorem MovesWalker.steers {s t : State} (h : MovesWalker s t) (hlaw : s.walkerLaw → t.walkerLaw)
    (hsegment : t.walker.segment = s.walker.segment) : Steers s t := by
  refine ⟨h.drives hlaw, SelectsAlike.selected ⟨?_, ?_, ?_, ?_, ?_, hsegment⟩ ?_⟩ <;> rw [h] <;> rfl

/-- Windows and pass as they were, and no early end that was not pending: the walker's law passes on (06 R97, R105,
R108). -/
theorem walkerLaw_of_same {s t : State} (hrecord : t.cycle.record = s.cycle.record)
    (huntangle : t.walker.untangle = s.walker.untangle) (hpass : t.walker.pass = s.walker.pass)
    (hret : t.walker.ret = s.walker.ret)
    (hearly : s.walker.pass = true → s.walker.early = false → t.walker.early = false) :
    s.walkerLaw → t.walkerLaw := by
  rintro ⟨hblock, hrunning⟩
  refine ⟨by rw [huntangle, hrecord]; exact hblock, fun h => ?_⟩
  rw [hpass] at h
  obtain ⟨hsome, hreturn, hnot⟩ := hrunning h
  exact ⟨by rw [huntangle]; exact hsome, by rw [hret]; exact hreturn, hearly h hnot⟩

/-- Without a pass the walker's law is that of its block alone. -/
theorem walkerLaw_of_noPass {s t : State} (hrecord : t.cycle.record = s.cycle.record)
    (huntangle : t.walker.untangle = s.walker.untangle) (hpass : t.walker.pass = false) : s.walkerLaw → t.walkerLaw :=
  fun ⟨hblock, _⟩ => ⟨by rw [huntangle, hrecord]; exact hblock, fun h => absurd (hpass.symm.trans h) Bool.false_ne_true⟩

theorem nameEntry_walkerLaw (i : Nat) (s : State) : s.walkerLaw → (nameEntry i s).walkerLaw :=
  walkerLaw_of_same rfl rfl rfl rfl fun _ _ => rfl

theorem loseDrum_walkerLaw (s : State) : s.walkerLaw → (loseDrum s).walkerLaw := by
  unfold loseDrum
  dsimp only
  split
  · exact walkerLaw_of_noPass rfl rfl rfl
  next hpass =>
    split
    · exact walkerLaw_of_noPass rfl rfl (Bool.eq_false_iff.mpr hpass)
    · exact walkerLaw_of_same rfl rfl rfl rfl fun _ h => h

theorem handWalker_walkerLaw (s : State) : s.walkerLaw → (handWalker s).walkerLaw := by
  unfold handWalker regainDrum
  split
  · exact loseDrum_walkerLaw s
  · split
    · split
      · exact id
      · exact nameEntry_walkerLaw _ s
    · exact id

theorem endPass_walkerLaw (s : State) : s.walkerLaw → (endPass s).walkerLaw := by
  unfold endPass
  split <;> exact walkerLaw_of_noPass rfl rfl rfl

theorem passAt_walkerLaw (b r i : Nat) (s : State) : s.walkerLaw → (passAt b r i s).walkerLaw := by
  unfold passAt
  split
  · exact walkerLaw_of_same rfl rfl rfl rfl fun _ _ => rfl
  · exact endPass_walkerLaw s

theorem advanceWalker_walkerLaw (s : State) : s.walkerLaw → (advanceWalker s).walkerLaw := by
  unfold advanceWalker
  split
  · exact id
  · split
    · split
      · exact endPass_walkerLaw s
      · exact passAt_walkerLaw _ _ _ s
    · exact nameEntry_walkerLaw _ s

/-- A pass that begins has its block, its return index and no early end (06 R107, R108). -/
theorem endTangled_walkerLaw (s : State) : s.walkerLaw → (endTangled s).walkerLaw := by
  unfold endTangled
  split
  · exact id
  · split
    next hblock _ =>
      intro hlaw
      refine passAt_walkerLaw _ _ _ _ ⟨hlaw.1, fun _ => ⟨?_, Option.some_ne_none _, rfl⟩⟩
      show s.walker.untangle ≠ none
      rw [hblock]
      exact Option.some_ne_none _
    all_goals exact nameEntry_walkerLaw _ s

/-! ### A selection of the winner (05 R76 to R78) -/

theorem reselect_aux (n : Bool) (s : State) :
    (reselect n s).aux.drumDeferred = s.aux.drumDeferred ∧ (reselect n s).aux.airflowWaits = s.aux.airflowWaits := by
  rw [reselect_moves n s]
  exact ⟨rfl, rfl⟩

/-- A selection keeps the drum's law: a new winner is met at once, or waits as the last of those to be met. -/
theorem reselect_driven (n : Bool) {s : State} (h : s.driven) : (reselect n s).driven := by
  have hdrum := named_drum s
  have hwinners : s.named.aux.deferred = s.aux.deferred := by
    show (handWalker s).aux.deferred = s.aux.deferred
    rw [handWalker_moves s]
  have hready := named_drumDeferred s
  have hsound : s.named.drum.winner.sound := selectDemand_sound _
  have hshape : s.named.drum.shape := by rw [hdrum]; exact h.shape
  rw [reselect_eq]
  split
  · unfold meetWinner
    split
    next hwaits =>
      refine ⟨hshape, hsound, ?_, fun hnil => ?_, fun w hw => ?_, fun hfree => ?_⟩
      · intro w hw
        rcases List.mem_append.mp hw with hold | hnew
        · exact h.waiting w (hwinners ▸ hold)
        · rw [List.mem_singleton.mp hnew]
          exact hsound
      · exact absurd hnil (List.append_ne_nil_of_right_ne_nil _ (List.cons_ne_nil _ _))
      · have hlast : (s.named.aux.deferred ++ [s.named.drum.winner]).getLast? = some w := hw
        rw [List.getLast?_concat] at hlast
        exact (Option.some.inj hlast).symm
      · exact absurd (hwaits.symm.trans hfree) (Bool.noConfusion)
    next hfree =>
      have hnone : s.named.aux.deferred = [] := by
        rw [hwinners]
        exact h.noneLeft (hready ▸ Bool.eq_false_iff.mpr hfree)
      refine State.driven_of_fits ?_ ?_ ?_
      · rw [actOn_winner]
        exact actOn_fits hsound hshape
      · rw [actOn_winner]
        exact hsound
      · rw [actOn_aux]
        exact hnone
  next hsame =>
    have hwinner : s.named.drum.winner = s.drum.winner := Decidable.not_not.mp fun hne => hsame (.inl hne)
    have hstands : s.named.drum = s.drum := by rw [hdrum, hwinner]
    refine ⟨hshape, hsound, ?_, ?_, ?_, ?_⟩
    · rw [hwinners]; exact h.waiting
    · rw [hwinners, hstands]; exact h.meets
    · rw [hwinners, hstands]; exact h.last
    · rw [hwinners, hready]; exact h.noneLeft

theorem reselect_drives (n : Bool) (s : State) : Drives s (reselect n s) := by
  obtain ⟨hdeferred, hair⟩ := reselect_aux n s
  refine ⟨reselect_driven n, fun ⟨hready, hwaits⟩ => ⟨hdeferred.trans hready, hair.trans hwaits⟩, fun hlaw => ?_⟩
  have hrecord : (handWalker s).cycle.record = s.cycle.record := by rw [handWalker_moves s]
  have hhand := handWalker_walkerLaw s hlaw
  rw [State.walkerLaw, hrecord] at hhand
  rw [State.walkerLaw, reselect_walker, reselect_cycle]
  exact hhand

/-- A selection makes the winner the selected demand. -/
theorem reselect_selected (n : Bool) (s : State) : (reselect n s).selected := by
  have hframe : SelectsAlike (handWalker s) (reselect n s) := by
    refine ⟨?_, ?_, ?_, ?_, ?_, by rw [reselect_walker]⟩
    · rw [reselect_path, handWalker_moves s]
    · rw [State.silent, State.silent, State.present, State.present, reselect_faults, handWalker_moves s]
    · rw [reselect_faults, handWalker_moves s]
    · rw [reselect_cycle, handWalker_moves s]
    · rw [State.param, State.param, reselect_tables, handWalker_moves s]
  rw [State.selected, hframe.selectDemand, reselect_winner]
  rfl

/-- What keeps the drum's and the walker's laws and ends in a selection keeps the laws of motion. -/
theorem Drives.reselect {s t : State} (h : Drives s t) (n : Bool) : Steers s (reselect n t) :=
  ⟨h.trans (reselect_drives n t), fun _ => reselect_selected n t⟩

theorem reselect_steers (n : Bool) (s : State) : Steers s (reselect n s) := (Drives.refl s).reselect n

/-! ### Cycle state and effective action (08; 09 R159) -/

theorem cycleTo_steers (c : CycleState) (s : State) : Steers s (cycleTo c s) := by
  have hstate : Rests s (s.setCycle
      { s.cycle with
        state := c
        suspension := if c = .suspended then some 0 else none
        cooldown := if c = .cooldown then some 0 else none }) := ⟨rfl, rfl, rfl, rfl, rfl, rfl⟩
  exact (hstate.drives.trans (forceReduction_steers _).toDrives).reselect false

/-- A change of the cycle state and an event of its own (08). -/
theorem raiseEvent_cycleTo_steers (k : EventKind) (a : Nat) (c : CycleState) (s : State) :
    Steers s (raiseEvent k a (cycleTo c s)) := (cycleTo_steers c s).trans (raiseEvent_steers k a _)

theorem workOutAction_steers (s : State) : Steers s (workOutAction s) := by
  have hset : Rests s (s.setFaults { s.faults with effective := s.highestAction }) := ⟨rfl, rfl, rfl, rfl, rfl, rfl⟩
  have hchange := (hset.drives.trans (forceReduction_steers _).toDrives).reselect false
  unfold workOutAction
  dsimp only
  split
  · exact .refl s
  · split
    · unfold enterHalted
      split
      · exact hchange
      · exact hchange.trans (cycleTo_steers _ _)
    · exact hchange

/-! ### Records (09 R158) -/

/-- Of a source's record and condition are moved, with what tells of them: the motion's blocks rest, and the selection
reads nothing new but a silence. -/
structure Rerecords (x : Source) (s t : State) : Prop where
  rests     : Rests s t
  path      : t.path = s.path
  tables    : t.tables = s.tables
  cycle     : t.cycle = s.cycle
  effective : t.faults.effective = s.faults.effective
  silent    : x ≠ .fieldSilent → t.silent = s.silent
  others    : ∀ y, y ≠ x → t.record y = s.record y
  actions   : t.faults.actions = s.faults.actions

theorem Rerecords.steers {x : Source} {s t : State} (h : Rerecords x s t) (hx : x ≠ .fieldSilent) : Steers s t :=
  h.rests.steers ⟨by rw [h.path], h.silent hx, h.effective, by rw [h.cycle], by rw [State.param, h.tables]; rfl,
    by rw [h.rests.walker]⟩

theorem setPresent_rerecords (x : Source) (b : Bool) (s : State) : Rerecords x s (s.setPresent x b) :=
  ⟨⟨rfl, rfl, rfl, rfl, rfl, rfl⟩, rfl, rfl, rfl, rfl,
    fun hx => (State.present_setPresent s x .fieldSilent b).trans (if_neg hx), fun _ _ => rfl, rfl⟩

theorem setRecord_rerecords (x : Source) (b : Bool) (r : FaultRecord) (s : State) :
    Rerecords x s ((s.setPresent x b).setRecord x r) :=
  ⟨⟨rfl, rfl, rfl, rfl, rfl, rfl⟩, rfl, rfl, rfl, rfl, (setPresent_rerecords x b s).silent,
    fun y hy => (State.record_setRecord _ x y r).trans (if_neg hy.symm), rfl⟩

theorem Rerecords.raiseEvent {x : Source} {s t : State} (h : Rerecords x s t) (k : EventKind) (a : Nat) :
    Rerecords x s (raiseEvent k a t) := by
  obtain ⟨⟨hdrum, hwalker, hrecord, hwaiting⟩, hpath, htables, hcycle, heffective, hsilent, hothers, hactions⟩ := h
  refine ⟨⟨?_, ?_, ?_, ?_⟩, ?_, ?_, ?_, ?_, fun hx => ?_, fun y hy => ?_, ?_⟩
  · rwa [raiseEvent_drum]
  · rwa [raiseEvent_walker]
  · rwa [raiseEvent_cycle]
  · rwa [raiseEvent_aux]
  · rwa [raiseEvent_path]
  · rwa [raiseEvent_tables]
  · rwa [raiseEvent_cycle]
  · rwa [raiseEvent_faults]
  · rw [State.silent, State.present, raiseEvent_faults]
    exact hsilent hx
  · rw [State.record, raiseEvent_faults]
    exact hothers y hy
  · rwa [raiseEvent_faults]

/-- An arising does nothing, or moves the record and works out the effective action (09 R158, R159). -/
theorem arise_cases (x : Source) (s : State) : arise x s = s ∨ ∃ t, Rerecords x s t ∧ arise x s = workOutAction t := by
  unfold arise
  split
  · exact .inl rfl
  · refine .inr ⟨_, Rerecords.raiseEvent ?_ _ _, rfl⟩
    have hset := fun r => setRecord_rerecords x true r s
    unfold emptyRingFor
    split
    · exact ⟨⟨rfl, rfl, rfl, rfl, rfl, rfl⟩, rfl, rfl, rfl, rfl, (hset _).silent, (hset _).others, rfl⟩
    · exact hset _

/-- A going does nothing, takes the condition alone, or moves the record too and works out the effective action (09
R158, R159). -/
theorem goAway_cases (x : Source) (s : State) :
    ∃ t, (t = s ∨ Rerecords x s t) ∧ (goAway x s = t ∨ goAway x s = workOutAction t) := by
  unfold goAway
  dsimp only
  split
  · split
    · split
      · exact ⟨_, .inr (setRecord_rerecords x false _ s), .inr rfl⟩
      · exact ⟨_, .inr ((setRecord_rerecords x false _ s).raiseEvent _ _), .inr rfl⟩
    · exact ⟨s.setPresent x false, .inr (setPresent_rerecords x false s), .inl rfl⟩
  · exact ⟨s, .inl rfl, .inl rfl⟩

/-- An arising keeps the drum's and the walker's laws, whatever arises. -/
theorem arise_drives (x : Source) (s : State) : Drives s (arise x s) := by
  obtain heq | ⟨t, hrecord, heq⟩ := arise_cases x s
  · rw [heq]; exact .refl s
  · rw [heq]; exact hrecord.rests.drives.trans (workOutAction_steers t).toDrives

theorem arise_steers {x : Source} (hx : x ≠ .fieldSilent) (s : State) : Steers s (arise x s) := by
  obtain heq | ⟨t, hrecord, heq⟩ := arise_cases x s
  · rw [heq]; exact .refl s
  · rw [heq]; exact (hrecord.steers hx).trans (workOutAction_steers t)

/-- A going keeps the drum's and the walker's laws, whatever goes. -/
theorem goAway_drives (x : Source) (s : State) : Drives s (goAway x s) := by
  obtain ⟨t, hrecord, heq⟩ := goAway_cases x s
  have ht : Drives s t := by
    rcases hrecord with rfl | hrecord
    · exact .refl _
    · exact hrecord.rests.drives
  rcases heq with heq | heq
  · rw [heq]; exact ht
  · rw [heq]; exact ht.trans (workOutAction_steers t).toDrives

theorem goAway_steers {x : Source} (hx : x ≠ .fieldSilent) (s : State) : Steers s (goAway x s) := by
  obtain ⟨t, hrecord, heq⟩ := goAway_cases x s
  have ht : Steers s t := by
    rcases hrecord with rfl | hrecord
    · exact .refl _
    · exact hrecord.steers hx
  rcases heq with heq | heq
  · rw [heq]; exact ht
  · rw [heq]; exact ht.trans (workOutAction_steers t)

theorem handCondition_steers {x : Source} (hx : x ≠ .fieldSilent) (b : Bool) (s : State) :
    Steers s (handCondition x b s) := by
  unfold handCondition
  split
  · exact arise_steers hx s
  · exact goAway_steers hx s

theorem thresholdCheck_steers {x : Source} (hx : x ≠ .fieldSilent) (l : LimitEntry) (t : Temperature) (s : State) :
    Steers s (thresholdCheck x l t s) := by
  unfold thresholdCheck
  split
  · split
    · split
      · exact goAway_steers hx s
      · exact .refl s
    · split
      · exact arise_steers hx s
      · exact .refl s
  · exact .refl s

/-! ### Phases (06 R97, R103; 07 R123, R132) -/

/-- A phase begin sets the walker's block with its record, and ends in a selection. -/
theorem beginPhase_steers (p : Nat) (r : PhaseRecord) (s : State) : Steers s (beginPhase p r s) := by
  have hphase : ∀ c m, c.record = r → Drives s (walkerPhaseBegin r ((s.setCycle c).setMoisture m)) := by
    intro c m hr
    have hmoves := walkerPhaseBegin_moves r ((s.setCycle c).setMoisture m)
    have hlaw : (walkerPhaseBegin r ((s.setCycle c).setMoisture m)).walkerLaw := by
      unfold walkerPhaseBegin
      dsimp only
      split
      · exact ⟨by rw [← hr]; rfl, fun h => absurd h Bool.false_ne_true⟩
      · exact ⟨by rw [← hr]; rfl, fun h => absurd h Bool.false_ne_true⟩
    have hrest := hmoves.drives fun _ => hlaw
    exact ⟨fun hd => hrest.driven ⟨hd.shape, hd.sound, hd.waiting, hd.meets, hd.last, hd.noneLeft⟩,
      fun hd => hrest.reacted hd, fun _ => hlaw⟩
  unfold beginPhase
  dsimp only
  exact (((hphase _ _ rfl).trans (raiseEvent_steers _ _ _).toDrives).trans
    (forceReduction_steers _).toDrives).reselect _

theorem markEnd_record (e : EndReason) (c : Cycle) : (markEnd e c).record = c.record := by
  cases e <;> rfl

theorem endPhase_steers (e : EndReason) (s : State) : Steers s (endPhase e s) := by
  have hmark : Steers s (s.setCycle (markEnd e s.cycle)) :=
    Rests.steers ⟨rfl, rfl, markEnd_record e s.cycle, rfl, rfl, rfl⟩
      ⟨rfl, rfl, rfl, markEnd_state e s.cycle, rfl, rfl⟩
  have hend := hmark.trans (raiseEvent_steers .phaseEnd e.code _)
  unfold endPhase
  dsimp only
  split
  · exact hend.trans (beginPhase_steers _ _ _)
  · exact hend.trans (raiseEvent_cycleTo_steers _ _ _ _)

theorem takeDry_steers (s : State) : Steers s (takeDry s) := by
  unfold takeDry
  split
  · exact endPhase_steers _ s
  · exact .refl s

theorem endCooldown_steers (s : State) : Steers s (endCooldown s) :=
  (raiseEvent_steers _ _ s).trans (raiseEvent_cycleTo_steers _ _ _ _)

end Sys2Proof.Machine

/-! # The laws of motion through the blocks' work (02 R22, R24; 05 R83 to R88; 06 R99, R100, R107) -/

namespace Sys2Proof.Machine

/-! ### Writes of the drum -/

/-- A write of the drum that leaves its winner, and agrees with it as before, keeps the laws of motion. -/
theorem setDrum_steers {s : State} {d : Drum} (hwinner : d.winner = s.drum.winner) (hshape : s.driven → d.shape)
    (hmeets : s.drum.meets s.drum.winner → d.meets s.drum.winner) : Steers s (s.setDrum d) := by
  refine ⟨⟨fun hd => ⟨hshape hd, ?_, hd.waiting, fun hnone => ?_, fun w hw => ?_, hd.noneLeft⟩, id, id⟩,
    SelectsAlike.selected ⟨rfl, rfl, rfl, rfl, rfl, rfl⟩ hwinner⟩
  · show d.winner.sound
    rw [hwinner]
    exact hd.sound
  · show d.meets d.winner
    rw [hwinner]
    exact hmeets (hd.meets hnone)
  · exact (hd.last w hw).trans hwinner.symm

theorem stepSetpoint_steers (s : State) : Steers s (stepSetpoint s) := by
  unfold stepSetpoint
  split
  next hramp =>
    refine setDrum_steers rfl (fun hd => ?_) id
    have hshape := hd.shape
    unfold Drum.shape at hshape ⊢
    rw [hramp] at hshape ⊢
    exact hshape
  next hdecel =>
    refine setDrum_steers rfl (fun hd => ?_) id
    have hshape := hd.shape
    unfold Drum.shape at hshape ⊢
    rw [hdecel] at hshape ⊢
    exact hshape
  all_goals exact .refl s

/-- A count that runs goes on running (05 R83, R86, R88). -/
theorem countTenth_steers (s : State) : Steers s (countTenth s) := by
  unfold countTenth
  split
  next hdwell =>
    refine setDrum_steers rfl (fun hd => ?_) id
    have hshape := hd.shape
    unfold Drum.shape at hshape ⊢
    rw [hdwell] at hshape ⊢
    simpa using hshape
  next hramp =>
    refine setDrum_steers rfl (fun hd => ?_) id
    have hshape := hd.shape
    unfold Drum.shape at hshape ⊢
    rw [hramp] at hshape ⊢
    simpa using hshape
  next hdecel =>
    split
    · exact .refl s
    · refine setDrum_steers rfl (fun hd => ?_) id
      have hshape := hd.shape
      unfold Drum.shape at hshape ⊢
      rw [hdecel] at hshape ⊢
      simpa using hshape
  all_goals exact .refl s

/-- A write of the walker that names no segment, and moves no window, pass nor early end. -/
theorem setWalker_steers (s : State) {w : Walker} (hsegment : w.segment = s.walker.segment)
    (huntangle : w.untangle = s.walker.untangle) (hpass : w.pass = s.walker.pass) (hret : w.ret = s.walker.ret)
    (hearly : w.early = s.walker.early) : Steers s (s.setWalker w) :=
  (setWalker_moves s w).steers
    (walkerLaw_of_same rfl huntangle hpass hret fun _ h => by rw [State.setWalker_walker, hearly]; exact h) hsegment

/-- The drum of a DWELL that begins (05 R83). -/
theorem enterDwell_steers (s : State) : Steers s (enterDwell s) := by
  have hdwell : Steers s
      (s.setDrum
        { s.drum with
          state := .dwell, dir := .stop, setpoint := 0, target := 0, spinup := none, coast := none,
          dwell := some 0 }) :=
    setDrum_steers rfl (fun _ => ⟨rfl, rfl, rfl, rfl, rfl, Option.some_ne_none 0⟩) fun _ => trivial
  exact hdwell.trans (forceReduction_steers _)

/-- A RAMP that has reached its speed is a TURNING that runs as it did (05 R81). -/
theorem enterTurning_steers {s : State} (hramp : s.drum.state = .ramp) (hdone : s.rampDone = true) :
    Steers s (enterTurning s) := by
  have hspeed : s.drum.setpoint = s.drum.target := by
    unfold State.rampDone at hdone
    simp only [Bool.and_eq_true, decide_eq_true_eq] at hdone
    exact hdone.1
  have hturn : Steers s
      (s.setDrum { s.drum with state := .turning, turningEntry := some s.now, spinup := none }) := by
    refine setDrum_steers rfl (fun hd => ?_) fun hmeets => ?_
    · have hshape := hd.shape
      unfold Drum.shape at hshape
      rw [hramp] at hshape
      obtain ⟨hdir, -, hcoast, hdwell⟩ := hshape
      exact ⟨hdir, hspeed, rfl, hcoast, hdwell⟩
    · unfold Drum.meets at hmeets
      rw [hramp] at hmeets
      exact hmeets
  have hscore : ∀ t : State, Steers t (t.setWalker { t.walker with score := 0 }) := fun t =>
    setWalker_steers t rfl rfl rfl rfl rfl
  exact ((hturn.trans (hscore _)).trans (forceReduction_steers _)).trans (goAway_steers (by decide) _)

theorem drumEndTest_steers (s : State) : Steers s (drumEndTest s) := by
  unfold drumEndTest
  split
  next hramp =>
    split
    next hdone => exact enterTurning_steers hramp hdone
    · exact .refl s
  · split
    · exact (enterDwell_steers s).trans (goAway_steers (by decide) _)
    · exact .refl s
  all_goals exact .refl s

/-! ### Step 2: the winners are met (05 R85; 09 R159) -/

theorem foldl_actOn_frame (l : List Demand) (s : State) :
    (l.foldl (fun t w => actOn w t) s).drum.winner = s.drum.winner ∧
    (l.foldl (fun t w => actOn w t) s).walker = s.walker ∧ (l.foldl (fun t w => actOn w t) s).aux = s.aux ∧
    MovesDrum s (l.foldl (fun t w => actOn w t) s) := by
  induction l generalizing s with
  | nil => exact ⟨rfl, rfl, rfl, .refl s⟩
  | cons w ws ih =>
    obtain ⟨hwinner, hwalker, haux, hmoves⟩ := ih (actOn w s)
    exact ⟨hwinner.trans (actOn_winner w s), hwalker.trans (actOn_walker w s), haux.trans (actOn_aux w s),
      (actOn_moves w s).trans hmoves⟩

theorem MovesDrum.selectsAlike {s t : State} (h : MovesDrum s t) (hwalker : t.walker = s.walker) :
    SelectsAlike s t := by
  refine ⟨?_, ?_, ?_, ?_, ?_, by rw [hwalker]⟩ <;> rw [h] <;> rfl

theorem MovesDrum.walkerLaw {s t : State} (h : MovesDrum s t) (hwalker : t.walker = s.walker) :
    s.walkerLaw → t.walkerLaw := by
  have hcycle : t.cycle = s.cycle := by rw [h]
  exact walkerLaw_of_same (by rw [hcycle]) (by rw [hwalker]) (by rw [hwalker]) (by rw [hwalker])
    fun _ hearly => by rw [hwalker]; exact hearly

/-- At its step 2 the drum comes to run as the winner asks, and nothing is left over. -/
theorem reactDrum_driven {s : State} (h : s.driven) : (reactDrum s).driven := by
  obtain ⟨hwinner, -, haux, -⟩ := foldl_actOn_frame s.aux.deferred
    (s.setAux { s.aux with drumDeferred := false, deferred := [], airflowWaits := false })
  have hwinner' : (reactDrum s).drum.winner = s.drum.winner := hwinner
  have haux' : (reactDrum s).aux = { s.aux with drumDeferred := false, deferred := [], airflowWaits := false } := haux
  refine State.driven_of_fits ?_ ?_ ?_
  · rw [hwinner']
    exact foldl_actOn_fits h.waiting h.shape h.meets h.last
  · rw [hwinner']
    exact h.sound
  · rw [haux']

theorem reactDrum_steers (s : State) : Steers s (reactDrum s) := by
  obtain ⟨hwinner, hwalker, -, hmoves⟩ := foldl_actOn_frame s.aux.deferred
    (s.setAux { s.aux with drumDeferred := false, deferred := [], airflowWaits := false })
  have hset : ∀ a, SelectsAlike s (s.setAux a) := fun _ => ⟨rfl, rfl, rfl, rfl, rfl, rfl⟩
  exact ⟨⟨reactDrum_driven, fun _ => reactDrum_waits s, fun hlaw => hmoves.walkerLaw hwalker hlaw⟩,
    fun hs => (hmoves.selectsAlike hwalker).selected hwinner ((hset _).selected rfl hs)⟩

/-! ### The blocks' work on a SAMPLE (02 R22) -/

theorem limitsSample_steers (s : State) : Steers s (limitsSample s) := by
  unfold limitsSample
  split
  · exact ((((thresholdCheck_steers (by decide) _ _ _).trans (thresholdCheck_steers (by decide) _ _ _)).trans
      (handCondition_steers (by decide) _ _)).trans (handCondition_steers (by decide) _ _)).trans
      (handCondition_steers (by decide) _ _)
  all_goals exact .refl s

theorem setMoisture_steers (s : State) (m : Moisture) : Steers s (s.setMoisture m) :=
  Rests.steers ⟨rfl, rfl, rfl, rfl, rfl, rfl⟩ ⟨rfl, rfl, rfl, rfl, rfl, rfl⟩

theorem setHeater_steers (s : State) (h : Heater) : Steers s (s.setHeater h) :=
  Rests.steers ⟨rfl, rfl, rfl, rfl, rfl, rfl⟩ ⟨rfl, rfl, rfl, rfl, rfl, rfl⟩

theorem setLinks_steers (s : State) (b : Links) : Steers s (s.setLinks b) :=
  Rests.steers ⟨rfl, rfl, rfl, rfl, rfl, rfl⟩ ⟨rfl, rfl, rfl, rfl, rfl, rfl⟩

theorem setUpstream_steers (s : State) (u : Upstream) : Steers s (s.setUpstream u) := (setUpstream_moves s u).steers

/-- A write of the cycle that leaves its state and the record of its phase. -/
theorem setCycle_steers (s : State) {c : Cycle} (hstate : c.state = s.cycle.state)
    (hrecord : c.record = s.cycle.record) :
    Steers s (s.setCycle c) :=
  Rests.steers ⟨rfl, rfl, hrecord, rfl, rfl, rfl⟩ ⟨rfl, rfl, rfl, hstate, rfl, rfl⟩

theorem moistureSample_steers (s0 s : State) : Steers s (moistureSample s0 s) := by
  unfold moistureSample
  split
  · split
    · unfold allShortWork
      dsimp only
      split
      · exact (setMoisture_steers s _).trans (arise_steers (by decide) _)
      · exact setMoisture_steers s _
    · rw [contactWork_eq]
      have htaken : Steers s (contactTaken s0 s) := (setMoisture_steers s _).trans (goAway_steers (by decide) _)
      split
      · exact htaken.trans (takeDry_steers _)
      · exact htaken
  · exact .refl s

theorem contactsSample_steers (s : State) : Steers s (contactsSample s) := by
  have hstep : Steers s (stepContacts s) := by
    unfold stepContacts
    split
    · exact .refl s
    · exact setHeater_steers s _
  exact (hstep.trans (handCondition_steers (by decide) _ _)).trans (handCondition_steers (by decide) _ _)

theorem MovesHeater.steers {s t : State} (h : MovesHeater s t) : Steers s t := by
  rw [h]
  exact Rests.steers ⟨rfl, rfl, rfl, rfl, rfl, rfl⟩ ⟨rfl, rfl, rfl, rfl, rfl, rfl⟩

theorem handOvercurrent_steers (h : Option Bool) (s : State) : Steers s (handOvercurrent h s) := by
  cases h with
  | none => exact .refl s
  | some b => exact handCondition_steers (by decide) b s

theorem currentNoted_steers (s : State) : Steers s s.currentNoted :=
  (setDrum_steers rfl (fun hd => hd.shape) id).trans (setDrum_steers rfl (fun hd => hd.shape) id)

theorem drumSteps_steers (s : State) : Steers s (drumEndTest (stepSetpoint (reactDrum s))) :=
  ((reactDrum_steers s).trans (stepSetpoint_steers _)).trans (drumEndTest_steers _)

theorem drumSample_steers (late : Bool) (s : State) : Steers s (drumSample late s) := by
  rw [drumSample_eq]
  cases late
  · exact ((currentNoted_steers s).trans (handOvercurrent_steers _ _)).trans (drumSteps_steers _)
  · exact ((currentNoted_steers s).trans (drumSteps_steers _)).trans (handOvercurrent_steers _ _)

theorem cycleSample_steers (opening : Bool) (s : State) : Steers s (cycleSample opening s) := by
  unfold cycleSample
  split
  · split
    · split
      · exact raiseEvent_cycleTo_steers _ _ _ s
      · exact raiseEvent_cycleTo_steers _ _ _ s
    · exact endCooldown_steers s
    all_goals exact .refl s
  · exact .refl s

theorem sampleBlock_steers (s0 : State) (opening late : Bool) (b : SampleBlock) (s : State) :
    Steers s (sampleBlock s0 opening late b s) := by
  cases b with
  | limits => exact limitsSample_steers s
  | moisture => exact moistureSample_steers s0 s
  | contacts => exact contactsSample_steers s
  | heater => exact (heaterSample_movesHeater s).steers
  | drum => exact drumSample_steers late s
  | cycle => exact cycleSample_steers opening s

theorem sampleWork_steers (s0 : State) (opening late : Bool) (order : List SampleBlock) (s : State) :
    Steers s (sampleWork s0 opening late order s) :=
  sampleWork_lift .refl .trans (fun b _ t => sampleBlock_steers s0 opening late b t) s

/-! ### The laws as one -/

/-- The laws of motion, and what the walker's law says. -/
structure State.moves (s : State) : Prop where
  driven   : s.driven
  reacted  : s.reacted
  walker   : s.walkerLaw
  selected : s.selected

theorem Steers.moves {s t : State} (h : Steers s t) (hs : s.moves) : t.moves :=
  ⟨h.driven hs.driven, h.reacted hs.reacted, h.walker hs.walker, h.selected hs.selected⟩

/-- A drum that runs as the selected winner asks, with nothing left over. -/
theorem State.moves_of_fits {u t : State} (hmoves : MovesDrum u t) (hwalker : t.walker = u.walker)
    (haux : t.aux = u.aux)
    (hwinner : t.drum.winner = u.drum.winner) (hfits : t.drum.fits u.drum.winner) (hsound : u.drum.winner.sound)
    (hnone : u.aux.deferred = []) (hreacted : u.reacted) (hlaw : u.walkerLaw) (hselected : u.selected) : t.moves := by
  refine ⟨State.driven_of_fits ?_ ?_ ?_, ?_, hmoves.walkerLaw hwalker hlaw,
    (hmoves.selectsAlike hwalker).selected hwinner hselected⟩
  · rw [hwinner]; exact hfits
  · rw [hwinner]; exact hsound
  · rw [haux]; exact hnone
  · rw [State.reacted, haux]; exact hreacted

/-! ### The blocks' work at a tenth (02 R24) -/

theorem selectDemand_of_turn {s : State} (h : s.walkerTurn = true) : s.selectDemand = s.segmentDemand := by
  unfold State.walkerTurn at h
  simp only [Bool.and_eq_true, Bool.not_eq_true'] at h
  rw [State.selectDemand, h.1, h.2]
  rfl

/-- Under the walker's PAUSE the segment that follows becomes the winner, before the drum acts on it (06 R101). -/
def State.paused (s : State) : State :=
  (advanceWalker s).setDrum { (advanceWalker s).drum with winner := (advanceWalker s).segmentDemand }

theorem paused_moves (s : State) : MovesDrum s s.paused :=
  (advanceWalker_moves s).drum.trans (drumWrite_moves _ _ ⟨rfl, rfl, rfl, rfl⟩)

theorem paused_selected {s : State} (hselected : s.selected) {k : Nat} (hpause : s.drum.winner = .walkerPause k) :
    s.paused.selected := by
  have hturn : s.walkerTurn = true := by
    refine selectDemand_fromWalker ?_
    rw [← show s.drum.winner = s.selectDemand from hselected, hpause]
    rfl
  have hkept : s.paused.walkerTurn = s.walkerTurn := by
    rw [paused_moves s]
    rfl
  rw [State.selected, selectDemand_of_turn (hkept.trans hturn)]
  rfl

/-- At the end of a DWELL span the drum comes to run as the winner asks (05 R84; 06 R101). -/
theorem endDwell_moves_on {s : State} (hdwell : s.drum.state = .dwell) (h : s.moves) : (endDwell s).moves := by
  obtain ⟨hdriven, hreacted, hlaw, hselected⟩ := h
  have hnone := hdriven.noneLeft hreacted.1
  have hshape := hdriven.shape
  have hsound := hdriven.sound
  unfold endDwell
  split
  next hw =>
    exact State.moves_of_fits (enterStopped_moves s) (by simp [enterStopped]) (by simp [enterStopped])
      (by simp [enterStopped]) (by rw [hw]; exact enterStopped_fits s) hsound hnone hreacted hlaw hselected
  next v hw =>
    exact State.moves_of_fits (enterRamp_moves _ _ _ s) (by simp [enterRamp]) (by simp [enterRamp])
      (by simp [enterRamp]) (by rw [hw]; exact enterRamp_fits (by decide) rfl 0 s) hsound hnone hreacted hlaw hselected
  next d v hw =>
    rw [hw] at hsound
    exact State.moves_of_fits (enterRamp_moves _ _ _ s) (by simp [enterRamp]) (by simp [enterRamp])
      (by simp [enterRamp]) (by rw [hw]; exact enterRamp_fits hsound rfl 0 s) (by rw [hw]; exact hsound) hnone hreacted
      hlaw hselected
  next k hpause =>
    have hframe := paused_moves s
    have hnext : s.paused.selected := paused_selected hselected hpause
    have hdrum : s.paused.drum = { s.drum with winner := (advanceWalker s).segmentDemand } := by
      show { (advanceWalker s).drum with winner := (advanceWalker s).segmentDemand } = _
      rw [advanceWalker_moves s]
    have hwinner : s.paused.drum.winner = (advanceWalker s).segmentDemand := rfl
    have hsoundNext : s.paused.drum.winner.sound := segmentDemand_sound _
    have hnoneNext : s.paused.aux.deferred = [] := by
      show (advanceWalker s).aux.deferred = []
      rw [advanceWalker_moves s]
      exact hnone
    have hreactedNext : s.paused.reacted := by
      show (advanceWalker s).aux.drumDeferred = false ∧ (advanceWalker s).aux.airflowWaits = false
      rw [advanceWalker_moves s]
      exact hreacted
    have hlawNext : s.paused.walkerLaw := advanceWalker_walkerLaw s hlaw
    dsimp only
    change (match (advanceWalker s).segmentDemand with
      | .stop => enterStopped s.paused
      | .override v => enterRamp .cw v 0 s.paused
      | .walkerRun d v => enterRamp d v 0 s.paused
      | .walkerPause _ => s.paused.setDrum { s.paused.drum with dwell := some 0 }).moves
    split
    next hw =>
      exact State.moves_of_fits (enterStopped_moves _) (by simp [enterStopped]) (by simp [enterStopped])
        (by simp [enterStopped]) (by rw [hwinner, hw]; exact enterStopped_fits _) hsoundNext hnoneNext hreactedNext
        hlawNext hnext
    next v hw =>
      exact State.moves_of_fits (enterRamp_moves _ _ _ _) (by simp [enterRamp]) (by simp [enterRamp])
        (by simp [enterRamp]) (by rw [hwinner, hw]; exact enterRamp_fits (by decide) rfl 0 _) hsoundNext hnoneNext
        hreactedNext hlawNext hnext
    next d v hw =>
      have hdir : d ≠ .stop := by
        rw [hwinner, hw] at hsoundNext
        exact hsoundNext
      exact State.moves_of_fits (enterRamp_moves _ _ _ _) (by simp [enterRamp]) (by simp [enterRamp])
        (by simp [enterRamp]) (by rw [hwinner, hw]; exact enterRamp_fits hdir rfl 0 _) hsoundNext hnoneNext
        hreactedNext hlawNext hnext
    next j hw =>
      refine State.moves_of_fits (restartDwell_moves _) rfl rfl rfl ⟨?_, ?_⟩ hsoundNext hnoneNext hreactedNext hlawNext
        hnext
      · rw [State.setDrum_drum, hdrum]
        unfold Drum.shape at hshape ⊢
        rw [hdwell] at hshape ⊢
        obtain ⟨hdir, hsetpoint, htarget, hspinup, hcoast, -⟩ := hshape
        exact ⟨hdir, hsetpoint, htarget, hspinup, hcoast, Option.some_ne_none 0⟩
      · rw [State.setDrum_drum, hdrum]
        unfold Drum.meets
        rw [hdwell]
        trivial

theorem drumTenth_moves_on {s : State} (h : s.moves) : (drumTenth s).moves := by
  have hmark : ∀ a b, Steers s (s.setDrum { s.drum with stallMark := a, overrunMark := b }) := fun _ _ =>
    setDrum_steers rfl (fun hd => hd.shape) id
  unfold drumTenth
  split
  · exact ((hmark true s.drum.overrunMark).trans (arise_steers (by decide) _)).moves h
  · split
    · exact ((hmark s.drum.stallMark true).trans (arise_steers (by decide) _)).moves h
    · split
      next hdue =>
        unfold State.dwellDue at hdue
        simp only [Bool.and_eq_true, decide_eq_true_eq] at hdue
        exact endDwell_moves_on hdue.1 h
      · exact h

theorem setKeepalive_steers (s : State) (k : Keepalive) : Steers s (s.setKeepalive k) := setLinks_steers s _

theorem keepaliveTenth_steers (s : State) : Steers s (keepaliveTenth s) := by
  unfold keepaliveTenth
  split
  · exact (setKeepalive_steers s _).trans (arise_steers (by decide) _)
  · split
    · exact setKeepalive_steers s _
    · exact .refl s

theorem reportSecond_steers (s : State) : Steers s (reportSecond s) := by
  have hset : ∀ u n, Steers s ((s.setUpstream u).setAux { s.aux with freeCount := n }) := fun _ _ =>
    Rests.steers ⟨rfl, rfl, rfl, rfl, rfl, rfl⟩ ⟨rfl, rfl, rfl, rfl, rfl, rfl⟩
  unfold reportSecond
  split
  · exact .refl s
  · split
    · exact setUpstream_steers s _
    · exact (hset _ _).trans (joinQueue_moves _ _).steers

theorem notePersist_steers (s : State) : Steers s (notePersist s) := by
  have hnoted : Steers s (s.setWalker { s.walker with persist := true }) := setWalker_steers s rfl rfl rfl rfl rfl
  unfold notePersist
  split
  · exact (hnoted.trans (raiseEvent_steers _ _ _)).trans (forceReduction_steers _)
  · exact .refl s

/-- A tangle is detected outside a pass alone (06 R104, R105). -/
theorem judgeSecond_steers (s : State) : Steers s (judgeSecond s) := by
  have hnew : ∀ t : State, Steers t (t.setDrum { t.drum with currentMin := none, currentMax := none }) := fun _ =>
    setDrum_steers rfl (fun hd => hd.shape) id
  unfold judgeSecond
  dsimp only
  split
  next hdue =>
    obtain ⟨-, -, hpass, -⟩ := (tangleDue_iff s).mp hdue
    have hdetected : Steers s (s.setWalker
        { s.walker with score := 0, count := satSucc 255 s.walker.count, early := true }) :=
      (setWalker_moves s _).steers (walkerLaw_of_noPass rfl rfl hpass) rfl
    exact ((hdetected.trans (raiseEvent_steers _ _ _)).trans (notePersist_steers _)).trans (hnew _)
  · have hscored : Steers s (s.setWalker { s.walker with score := s.scoreNext }) :=
      setWalker_steers s rfl rfl rfl rfl rfl
    exact hscored.trans (hnew _)

theorem countTurning_steers (s : State) : Steers s (countTurning s) := by
  unfold countTurning
  split
  · exact setWalker_steers s rfl rfl rfl rfl rfl
  · exact .refl s

/-- A segment that ends is followed by a naming, which is a selection (06 R99, R100, R107). -/
theorem walkerCount_steers (s : State) : Steers s (walkerCount s) := by
  have hcount := countTurning_steers s
  unfold walkerCount
  dsimp only
  split
  · exact (hcount.toDrives.trans ((endTangled_moves _).drives (endTangled_walkerLaw _))).reselect true
  · split
    · exact (hcount.toDrives.trans ((advanceWalker_moves _).drives (advanceWalker_walkerLaw _))).reselect true
    · exact hcount

theorem countSecond_steers (s : State) : Steers s (countSecond s) := by
  unfold countSecond
  exact setCycle_steers s rfl rfl

theorem activeSecond_steers (s : State) : Steers s (activeSecond s) := by
  unfold activeSecond
  split
  · exact countSecond_steers s
  · exact (countSecond_steers s).trans (endPhase_steers _ _)

theorem cooldownSecond_steers (s : State) : Steers s (cooldownSecond s) := by
  have hcount : Steers s (s.setCycle { s.cycle with cooldown := s.cycle.cooldown.map (· + 1) }) :=
    setCycle_steers s rfl rfl
  unfold cooldownSecond
  dsimp only
  split
  · exact hcount.trans (endCooldown_steers _)
  · exact hcount

theorem cycleTenth_steers (second : Bool) (s : State) : Steers s (cycleTenth second s) := by
  unfold cycleTenth
  split
  · exact setCycle_steers s rfl rfl
  · split
    · exact activeSecond_steers s
    · exact .refl s
  · split
    · exact cooldownSecond_steers s
    · exact .refl s
  · exact .refl s
  · exact .refl s

theorem tenthBlock_moves_on (second : Bool) (b : TenthBlock) {s : State} (h : s.moves) :
    (tenthBlock second b s).moves := by
  have hif : ∀ {u t : State}, Steers u t → Steers u (if second then t else u) := fun ht => by
    split
    · exact ht
    · exact .refl _
  cases b with
  | keepalive => exact (keepaliveTenth_steers s).moves h
  | drum => exact drumTenth_moves_on h
  | moisture => exact (hif (setMoisture_steers s _)).moves h
  | walker => exact ((hif (judgeSecond_steers s)).trans (walkerCount_steers _)).moves h
  | cycle => exact (cycleTenth_steers second s).moves h
  | report => exact (hif (reportSecond_steers s)).moves h

theorem tenthBlocks_moves_on (second : Bool) (order : List TenthBlock) (s : State) :
    s.moves → (tenthBlocks second order s).moves :=
  tenthBlocks_lift (R := fun s t => s.moves → t.moves) (fun _ => id) (fun h k => k ∘ h)
    (fun b _ _ => tenthBlock_moves_on second b) s

theorem tickTenth_steers (s : State) : Steers s (tickTenth s.dropChoice) :=
  Rests.steers ⟨rfl, rfl, rfl, rfl, rfl, rfl⟩ ⟨rfl, rfl, rfl, rfl, rfl, rfl⟩

theorem beginTenth_steers (s : State) : Steers s (beginTenth s.dropChoice) :=
  (tickTenth_steers s).trans (countTenth_steers _)

end Sys2Proof.Machine

/-! # The laws of motion through every event (01, 02, 07 to 10) -/

namespace Sys2Proof.Machine

/-! ### Writes that no block of the motion reads -/

/-- A write of the sample path that leaves the door leaves the selection (02 R20; 05 R77). -/
theorem setPath_steers (s : State) {p : SamplePath} (hdoor : p.door = s.path.door) : Steers s (s.setPath p) :=
  Rests.steers ⟨rfl, rfl, rfl, rfl, rfl, rfl⟩ ⟨hdoor, rfl, rfl, rfl, rfl, rfl⟩

/-- Of the tables the selection reads COOL_SPEED alone (05 R76). -/
theorem setTables_steers (s : State) {b : Tables} (hcool : (s.setTables b).param .coolSpeed = s.param .coolSpeed) :
    Steers s (s.setTables b) :=
  Rests.steers ⟨rfl, rfl, rfl, rfl, rfl, rfl⟩ ⟨rfl, rfl, rfl, rfl, hcool, rfl⟩

theorem setTables_drives (s : State) (b : Tables) : Drives s (s.setTables b) :=
  Rests.drives ⟨rfl, rfl, rfl, rfl, rfl, rfl⟩

/-- A write of the faults that leaves the conditions and the effective action. -/
theorem setFaults_steers (s : State) {f : Faults} (hsilent : (s.setFaults f).silent = s.silent)
    (heffective : f.effective = s.faults.effective) : Steers s (s.setFaults f) :=
  Rests.steers ⟨rfl, rfl, rfl, rfl, rfl, rfl⟩ ⟨rfl, hsilent, heffective, rfl, rfl, rfl⟩

theorem sendDrive_steers (d : Direction) (n : Nat) (h1 h2 : Bool) (s : State) : Steers s (sendDrive d n h1 h2 s) :=
  (setLinks_steers s _).trans (setHeater_steers _ _)

theorem handOnCopy_steers (p : List Byte) (s : State) : Steers s (handOnCopy p s) := (handOnCopy_moves p s).steers

/-! ### The gap timer (02 R27, R29) -/

theorem raiseSilence_steers (s : State) : Steers s (raiseSilence s) := by
  have hselect : Steers s (reselect false (arise .fieldSilent s)) := (arise_drives .fieldSilent s).reselect false
  unfold raiseSilence
  dsimp only
  split
  · exact .refl s
  · split
    next hdecel =>
      refine hselect.trans (setDrum_steers rfl (fun hd => ?_) id)
      have hshape := hd.shape
      unfold Drum.shape at hshape ⊢
      rw [hdecel] at hshape ⊢
      exact hshape
    · exact hselect

theorem gapExpiry_steers (s : State) : Steers s (gapExpiry s) :=
  ((raiseSilence_steers s).trans (sendDrive_steers _ _ _ _ _)).trans (setPath_steers _ rfl)

/-! ### The link level and the keepalive window (01 R2, R7, R10 to R12) -/

theorem portSource_ne_fieldSilent (p : Port) : Port.source p ≠ .fieldSilent := by
  cases p <;> decide

theorem setReceiver_steers (p : Port) (r : Receiver) (s : State) : Steers s (s.setReceiver p r) := by
  cases p <;> exact setLinks_steers s _

theorem setBadCount_steers (p : Port) (n : Nat) (s : State) : Steers s (s.setBadCount p n) := by
  cases p <;> exact setLinks_steers s _

theorem portAfter_steers (p : Port) (n : Nat) (s : State) : Steers s (s.portAfter p n) :=
  (setReceiver_steers p _ s).trans (setBadCount_steers p n _)

theorem badFrame_steers (p : Port) (s : State) : Steers s (badFrame p s) := by
  rw [badFrame_eq]
  split
  · exact (portAfter_steers p _ s).trans (arise_steers (portSource_ne_fieldSilent p) _)
  · exact portAfter_steers p _ s

theorem goodFrame_steers (p : Port) (s : State) : Steers s (goodFrame p s) := by
  rw [goodFrame_eq]
  split
  · exact (portAfter_steers p _ s).trans (goAway_steers (portSource_ne_fieldSilent p) _)
  · exact portAfter_steers p _ s

theorem applyLinkLimit_steers (p : Port) (s : State) : Steers s (applyLinkLimit p s) := by
  unfold applyLinkLimit
  dsimp only
  split
  · exact (setBadCount_steers p _ s).trans (arise_steers (portSource_ne_fieldSilent p) _)
  · exact setBadCount_steers p _ s

theorem restartWindow_steers (s : State) : Steers s (restartWindow s) := by
  unfold restartWindow
  split
  · exact (setKeepalive_steers s _).trans (goAway_steers (by decide) _)
  · exact setKeepalive_steers s _

theorem keepaliveArrives_steers (s : State) : Steers s (keepaliveArrives s) := by
  unfold keepaliveArrives
  split
  · exact .refl s
  · split
    · exact (setKeepalive_steers s _).trans (arise_steers (by decide) _)
    · exact restartWindow_steers s

theorem frameRestarts_steers (s : State) : Steers s (frameRestarts s) := by
  unfold frameRestarts
  split
  · exact .refl s
  · exact restartWindow_steers s

/-! ### Table writes (10 R170 to R175) -/

theorem setParam_steers {p : Param} (hp : p ≠ .coolSpeed) (n : Nat) (s : State) : Steers s (s.setParam p n) :=
  setTables_steers s ((State.param_setParam s p .coolSpeed n).trans (if_neg hp))

theorem applyShortLimit_steers (s : State) : Steers s (applyShortLimit s) := by
  unfold applyShortLimit
  dsimp only
  split
  · exact (setMoisture_steers s _).trans (arise_steers (by decide) _)
  · exact setMoisture_steers s _

theorem paramWritten_steers (p : Param) (s : State) : Steers s (paramWritten p s) := by
  have hkeepalive : Steers s (keepaliveWritten s) := (setKeepalive_steers s _).trans (goAway_steers (by decide) _)
  cases p with
  | shortLimit => exact applyShortLimit_steers s
  | airflowSpeed => exact forceReduction_steers s
  | coolSpeed => exact reselect_steers false s
  | linkErrLimit => exact (applyLinkLimit_steers .field s).trans (applyLinkLimit_steers .controller _)
  | keepaliveUpper => exact hkeepalive
  | keepaliveLower => exact hkeepalive
  | copyDecimation => exact setUpstream_steers s _
  | reportInterval => exact setUpstream_steers s _
  | _ => exact .refl s

/-- A parameter that is stored and acts: a write of COOL_SPEED ends in a selection (05 R76; 10 R171). -/
theorem paramStored_steers (p : Param) (n : Nat) (s : State) : Steers s (paramWritten p (s.setParam p n)) := by
  by_cases hp : p = .coolSpeed
  · subst hp
    exact (setTables_drives s _).reselect false
  · exact (setParam_steers hp n s).trans (paramWritten_steers p _)

theorem admitParam_steers (p : Param) (v : Nat) (s : State) : Steers s (admitParam p v s).1 := by
  by_cases hu : p = .keepaliveUpper
  · subst hu
    unfold admitParam
    dsimp only
    split
    · exact ((setParam_steers (p := .keepaliveUpper) (by decide) _ s).trans
        (setParam_steers (p := .keepaliveLower) (by decide) _ _)).trans (paramWritten_steers .keepaliveUpper _)
    · exact paramStored_steers .keepaliveUpper _ s
  · by_cases hl : p = .keepaliveLower
    · subst hl
      unfold admitParam
      dsimp only
      split <;> exact paramStored_steers .keepaliveLower _ s
    · rw [admitParam_of_free hu hl]
      exact paramStored_steers _ _ s

theorem storeAction_steers (x : Source) (a : Action) (s : State) : Steers s (storeAction x a s) := by
  have hstored : Steers s (s.setAction x a) := setFaults_steers s rfl rfl
  unfold storeAction
  split
  · exact .refl s
  · exact hstored.trans (workOutAction_steers _)

theorem admitWrite_steers (tab : TableId) (i : Nat) (d : List Byte) (s : State) :
    Steers s (admitWrite tab i d s).1 := by
  cases tab with
  | program =>
    unfold admitWrite admitProgram
    dsimp only
    split
    · exact .refl s
    · exact setTables_steers s rfl
    · exact setTables_steers s rfl
  | pattern =>
    unfold admitWrite admitPattern
    dsimp only
    split
    · exact .refl s
    · exact setTables_steers s rfl
    · exact setTables_steers s rfl
  | curve => exact setTables_steers s rfl
  | limits => exact setFaults_steers s rfl rfl
  | actions =>
    unfold admitWrite admitActions
    dsimp only
    split
    · exact storeAction_steers _ _ s
    all_goals exact .refl s
  | config =>
    unfold admitWrite admitConfig
    dsimp only
    split
    · exact .refl s
    · exact admitParam_steers _ _ s

/-! ### The other requests (07, 08, 09, 10) -/

theorem startValues_steers (slot : Nat) (anticrease : Bool) (s : State) : Steers s (startValues slot anticrease s) := by
  have hstart : Steers s (s.setCycle { s.cycle with slot, anticrease, notDry := false, drySeen := false }) :=
    setCycle_steers s rfl rfl
  exact ((hstart.trans (setMoisture_steers _ _)).trans (setHeater_steers _ _)).trans (goAway_steers (by decide) _)

/-- ACTIVE and the begin of the first phase are one event, which ends in a selection (07 R121; log entry 16). -/
theorem startFirst_steers (s : State) : Steers s (startFirst s) := by
  unfold startFirst
  split
  · exact raiseEvent_cycleTo_steers _ _ _ s
  next p r rest hlist =>
    have hactive : Drives s (s.setCycle { s.cycle with state := .active }) :=
      Rests.drives ⟨rfl, rfl, rfl, rfl, rfl, rfl⟩
    exact ⟨hactive.trans (beginPhase_steers p r _).toDrives, fun _ => reselect_selected _ _⟩

theorem requestStart_steers (slot anticrease : Byte) (s : State) : Steers s (requestStart slot anticrease s).1 := by
  unfold requestStart
  split
  · exact .refl s
  · exact (startValues_steers _ _ s).trans (startFirst_steers _)

theorem requestPause_steers (s : State) : Steers s (requestPause s).1 := by
  unfold requestPause
  split
  · exact raiseEvent_cycleTo_steers _ _ _ s
  · exact .refl s

theorem requestResume_steers (s : State) : Steers s (requestResume s).1 := by
  unfold requestResume
  split
  · exact .refl s
  · split
    · exact .refl s
    · split
      · exact .refl s
      · exact (setMoisture_steers s _).trans (raiseEvent_cycleTo_steers _ _ _ _)

theorem requestAbort_steers (s : State) : Steers s (requestAbort s).1 := by
  have habort : Steers s (abortCycle s) := by
    unfold abortCycle
    split <;> exact raiseEvent_cycleTo_steers _ _ _ s
  unfold requestAbort
  split
  · exact habort
  · exact habort
  · exact endCooldown_steers s
  · exact .refl s
  · exact .refl s

theorem clearRecord_steers (x : Source) (s : State) : Steers s (clearRecord x s) := by
  have hrecord : Steers s (s.setRecord x { s.record x with state := .clear }) := setFaults_steers s rfl rfl
  exact (hrecord.trans (raiseEvent_steers _ _ _)).trans (workOutAction_steers _)

/-- A running spinup count restarts, and goes on running (05 R87). -/
theorem restartSpinup_steers {s : State} (hramp : s.drum.state = .ramp) :
    Steers s (s.setDrum { s.drum with spinup := some 0, stallMark := false }) := by
  refine setDrum_steers rfl (fun hd => ?_) id
  have hshape := hd.shape
  unfold Drum.shape at hshape ⊢
  rw [hramp] at hshape ⊢
  obtain ⟨hdir, -, hcoast, hdwell⟩ := hshape
  exact ⟨hdir, Option.some_ne_none 0, hcoast, hdwell⟩

theorem setPresent_steers {x : Source} (hx : x ≠ .fieldSilent) (b : Bool) (s : State) : Steers s (s.setPresent x b) :=
  setFaults_steers s ((State.present_setPresent s x .fieldSilent b).trans (if_neg hx)) rfl

theorem clearMotorStall_steers (s : State) : Steers s (clearMotorStall s) := by
  have hcleared : ∀ t, Steers s t → Steers s
      (if (t.setPresent .motorStall false).counts .motorStall then
        clearRecord .motorStall (t.setPresent .motorStall false)
      else t.setPresent .motorStall false) := fun t ht => by
    have hgone := ht.trans (setPresent_steers (x := .motorStall) (by decide) false t)
    split
    · exact hgone.trans (clearRecord_steers _ _)
    · exact hgone
  refine hcleared _ ?_
  split
  next hramp => exact restartSpinup_steers hramp
  · exact .refl s

theorem clearSource_steers (x : Source) (s : State) : Steers s (clearSource x s) := by
  unfold clearSource
  split
  · exact clearMotorStall_steers s
  · split
    · exact clearRecord_steers x s
    · exact .refl s

theorem clearSources_steers (scope : List Source) (s : State) : Steers s (clearSources scope s) := by
  have hfold : ∀ t, Steers t (scope.foldl (fun t x => clearSource x t) t) := by
    induction scope with
    | nil => exact .refl
    | cons x xs ih => exact fun t => (clearSource_steers x t).trans (ih _)
  unfold clearSources leaveHalted
  split
  · exact (hfold s).trans (cycleTo_steers _ _)
  · exact hfold s

theorem requestFaultClear_steers (b : Byte) (s : State) : Steers s (requestFaultClear b s).1 := by
  unfold requestFaultClear
  split
  · dsimp only
    exact clearSources_steers _ s
  · split
    · exact clearSources_steers _ s
    · exact .refl s

theorem requestTrim_steers (step : Byte) (s : State) : Steers s (requestTrim step s).1 := by
  have hset : ∀ n, Steers s (s.setParam .electrodeTrim n) := fun n => setParam_steers (by decide) n s
  unfold requestTrim
  dsimp only
  split
  · split
    · exact hset _
    · exact .refl s
  · split
    · split
      · exact hset _
      · exact .refl s
    · exact .refl s

theorem requestUnlock_steers (s : State) : Steers s (requestUnlock s).1 := by
  unfold requestUnlock
  split
  · exact setTables_steers s rfl
  · exact .refl s

theorem requestWrite_steers (p : List Byte) (s : State) : Steers s (requestWrite p s).1 := by
  obtain ⟨r, hr⟩ | ⟨tab, -, -, hw⟩ := requestWrite_cases p s
  · rw [hr]; exact .refl s
  · rw [hw]; exact admitWrite_steers tab _ _ s

theorem takeRequest_steers (f : Frame) (s : State) : Steers s (takeRequest f s).1 := by
  unfold takeRequest
  split
  · exact .refl s
  · split
    · exact .refl s
    · unfold actRequest
      split
      · exact requestWrite_steers _ s
      · rw [requestRead_state]; exact .refl s
      · exact requestStart_steers _ _ s
      · exact requestPause_steers s
      · exact requestResume_steers s
      · exact requestAbort_steers s
      · exact requestFaultClear_steers _ s
      · exact setFaults_steers s rfl rfl
      · exact requestTrim_steers _ s
      · exact setTables_steers s rfl
      · exact requestUnlock_steers s
      · exact (setUpstream_steers s _).trans (moveEvents_moves _).steers
      · exact .refl s

/-! ### The handler and the controller port (10 R168, R169; 01 R6) -/

theorem handleRequest_steers (f : Frame) (s : State) : Steers s (handleRequest f s) := by
  have hprogress : ∀ (t : State) o, Steers t (t.setTables { t.tables with inProgress := o }) := fun t _ =>
    setTables_steers t rfl
  exact (((hprogress s _).trans (takeRequest_steers f _)).trans (joinQueue_moves _ _).steers).trans (hprogress _ none)

theorem serve_steers (s : State) : Steers s (serve s) := by
  have hqueue : ∀ n t, Steers t (serveQueue n t) := by
    intro n
    induction n with
    | zero => exact .refl
    | succ n ih =>
      intro t
      unfold serveQueue
      split
      · exact .refl t
      · split
        · exact ((setLinks_steers t _).trans (handleRequest_steers _ _)).trans (ih _)
        · exact .refl t
  exact hqueue _ s

theorem controllerFrame_steers (f : Frame) (s : State) : Steers s (controllerFrame f s) := by
  unfold controllerFrame requestArrives
  split
  · exact badFrame_steers _ s
  · split
    · exact (goodFrame_steers _ s).trans (keepaliveArrives_steers _)
    · split
      · exact (((goodFrame_steers _ s).trans (frameRestarts_steers _)).trans (setLinks_steers _ _)).trans
          (serve_steers _)
      · exact badFrame_steers _ s

/-! ### An accepted SAMPLE (02 R22) -/

/-- With nothing left over, the drum's law holds at the acceptance of a SAMPLE, whatever the door and a silence become;
the drum's reaction now waits. -/
theorem beginSample_driven {s : State} (hd : s.driven) (hreacted : s.reacted) (p : List Byte) :
    (beginSample p s).driven := by
  have hnone := hd.noneLeft hreacted.1
  have hdecoded : ((decodeSample p s).setAux
      { (decodeSample p s).aux with drumDeferred := true, deferred := [], airflowWaits := s.slowRamp }).driven :=
    State.driven_of_fits ⟨hd.shape, hd.meets hnone⟩ hd.sound rfl
  exact (goAway_drives .fieldSilent _).driven hdecoded

theorem beginSample_walkerLaw {s : State} (h : s.walkerLaw) (p : List Byte) : (beginSample p s).walkerLaw :=
  (goAway_drives .fieldSilent ((decodeSample p s).setAux
    { (decodeSample p s).aux with drumDeferred := true, deferred := [], airflowWaits := s.slowRamp })).walker h

theorem goodFrame_dropChoice_steers (s : State) : Steers s (goodFrame .field s).dropChoice :=
  (goodFrame_steers .field s).trans (Rests.steers ⟨rfl, rfl, rfl, rfl, rfl, rfl⟩ ⟨rfl, rfl, rfl, rfl, rfl, rfl⟩)

theorem accepting_driven {s : State} (hd : s.driven) (hreacted : s.reacted) (p : List Byte) : (s.accepting p).driven :=
  beginSample_driven ((goodFrame_dropChoice_steers s).driven hd) ((goodFrame_dropChoice_steers s).reacted hreacted) p

/-- The blocks' work on an accepted SAMPLE begins with a selection, and the drum's turn leaves nothing over. -/
theorem worked_moves_on {s : State} (h : s.moves) (p : List Byte) : (s.worked p).moves := by
  have hdriven := accepting_driven h.driven h.reacted p
  have hlaw : (s.accepting p).walkerLaw := beginSample_walkerLaw ((goodFrame_dropChoice_steers s).walker h.walker) p
  have hselect : Drives (s.accepting p) (reselect false (s.accepting p)) := reselect_drives false _
  have hwork : Steers (reselect false (s.accepting p)) (s.worked p) := sampleWork_steers _ _ _ _ _
  refine ⟨hwork.driven (hselect.driven hdriven), ?_, hwork.walker (hselect.walker hlaw),
    hwork.selected (reselect_selected false _)⟩
  obtain ⟨first, rest, horder, -, -⟩ := sampleOrder_turn s.choice.sample .drum
  rw [worked_turn horder]
  refine (sampleWork_steers _ _ _ _ _).reacted ?_
  have hturn : ∀ t, (drumEndTest (stepSetpoint (reactDrum t))).reacted := fun t =>
    ((stepSetpoint_steers _).trans (drumEndTest_steers _)).reacted (reactDrum_waits t)
  show (drumSample _ _).reacted
  rw [drumSample_eq]
  cases s.choice.overcurrentLate
  · exact hturn _
  · exact (handOvercurrent_steers _ _).reacted (hturn _)

theorem answer_moves_on {s : State} (h : s.moves) (p : List Byte) : (handOnCopy p (answerDrive (s.worked p))).moves :=
  ((sendDrive_steers _ _ _ _ _).trans (handOnCopy_steers p _)).moves (worked_moves_on h p)

/-! ### Every step -/

theorem runTenth_moves_on (first : List TenthBlock) {s : State} (h : s.moves) : (runTenth first s).moves :=
  tenthBlocks_moves_on _ _ _ ((beginTenth_steers s).moves h)

theorem runUncountedTenth_moves_on {s : State} (h : s.moves) : (runUncountedTenth s).moves :=
  tenthBlocks_moves_on _ _ _ ((tickTenth_steers s).moves h)

theorem Event.moves {s t : State} (h : Event s t) (hs : s.moves) : t.moves := by
  cases h with
  | lines b => exact (setLinks_steers s b).moves hs
  | transmit b =>
    exact (((setLinks_steers s b).trans (startTransmission_moves _).steers).trans (serve_steers _)).moves hs
  | receive p r => exact (setReceiver_steers p r s).moves hs
  | bad p => exact (badFrame_steers p s).moves hs
  | good => exact (goodFrame_steers .field s).moves hs
  | sample p _ => exact answer_moves_on hs p
  | request f => exact (controllerFrame_steers f s).moves hs
  | gapTick => exact (setPath_steers s (p := { s.path with gapMillis := s.path.gapMillis + 1 }) rfl).moves hs
  | gapExpiry => exact (gapExpiry_steers s).moves hs
  | tick => exact (setPath_steers s (p := { s.path with millis := s.path.millis + 1 }) rfl).moves hs
  | tenth first => exact runTenth_moves_on first hs
  | uncountedTenth => exact runUncountedTenth_moves_on hs

/-- After a reset the drum is STOPPED, in SAFE_STOP's stead no demand is selected but STOP, and no pass runs (01 R1). -/
theorem resetFrom_moves_on (high : Bool) (s : State) : (startTransmission (resetFrom high s)).moves := by
  refine (startTransmission_moves _).steers.moves ⟨?_, ?_, ?_, ?_⟩
  · exact State.driven_of_fits ⟨⟨rfl, rfl, rfl, rfl, rfl, rfl⟩, rfl⟩ trivial rfl
  · exact ⟨rfl, rfl⟩
  · exact ⟨rfl, fun h => absurd h Bool.false_ne_true⟩
  · rfl

/-- Settles O59: the laws of motion are kept with the law of the effective action not needed. -/
theorem motionLawsAreKept : Obligations.MotionLawsAreKept := by
  intro s t hdrum hwalker hdemand _ h
  obtain ⟨hdriven, hreacted, hselected⟩ := (motionLaws_iff s).mp ⟨hdrum, hdemand⟩
  have htake : ∀ (u : State) (q : List Instr), Steers u { u with pending := q } := fun _ _ =>
    Rests.steers ⟨rfl, rfl, rfl, rfl, rfl, rfl⟩ ⟨rfl, rfl, rfl, rfl, rfl, rfl⟩
  have hmoves : t.moves :=
    step_keeps (P := State.moves) (fun u q => (htake u q).moves)
      (fun u => (refresh_moves u).steers.moves) resetFrom_moves_on Event.moves h ⟨hdriven, hreacted, hwalker, hselected⟩
  obtain ⟨hdrum', hdemand'⟩ := (motionLaws_iff t).mpr ⟨hmoves.driven, hmoves.reacted, hmoves.selected⟩
  exact ⟨hdrum', hmoves.walker, hdemand'⟩

end Sys2Proof.Machine

/-! # The block named first at a tenth (02 R24; 05 R83 to R88; log entry 5) -/

namespace Sys2Proof.Machine

/-! ### Its turn, and the turns that follow -/

/-- The block named first works on the state as the tenth begins, and does not come again. -/
theorem runTenth_first (b : TenthBlock) (s : State) :
    ∃ rest, rest.Nodup ∧ b ∉ rest ∧
      runTenth [b] s = tenthBlocks s.secondNext rest (tenthBlock s.secondNext b (beginTenth s.dropChoice)) := by
  obtain ⟨rest, hrest, hnot, hnodup, -⟩ := fillOrder_cons nodup_tenthBlocks b s.choice.tenth
  refine ⟨rest, hnodup, hnot, ?_⟩
  show tenthBlocks s.secondNext (fillOrder TenthBlock.all (b :: s.choice.tenth)) (beginTenth s.dropChoice) = _
  rw [hrest, tenthBlocks_cons]

/-- A timer row whose event is due is the tenth that brings it (log entry 2). -/
theorem done_dueTenth_of_due {due : Bool} (h : due = true) (b : TenthBlock) (s : State) :
    done (dueTenth due b s) = .next (runTenth [b] s).refresh := by
  rw [dueTenth, if_pos h]
  rfl

/-! ### MOTOR_STALL and DRUM_OVERRUN (05 R86, R88; 09 R158) -/

/-- A source's record and condition stand. -/
def KeepsRecord (x : Source) (s t : State) : Prop := t.record x = s.record x ∧ t.present x = s.present x

theorem KeepsRecord.refl (x : Source) (s : State) : KeepsRecord x s s := ⟨rfl, rfl⟩

theorem KeepsRecord.trans {x : Source} {s t u : State} (h : KeepsRecord x s t) (k : KeepsRecord x t u) :
    KeepsRecord x s u := ⟨k.1.trans h.1, k.2.trans h.2⟩

/-- At a tenth the conditions but KEEPALIVE's are the drum's own. -/
theorem tenthBlock_keepsRecord {b : TenthBlock} (hb : b ≠ .drum) {x : Source} (hx : x ≠ .keepalive) (second : Bool)
    (s : State) : KeepsRecord x s (tenthBlock second b s) := by
  by_cases hk : b = .keepalive
  · subst hk
    have harise : ∀ t, KeepsRecord x t (arise .keepalive t) := fun t =>
      ⟨by rw [arise_record, if_neg fun h => hx h.1.symm], by simp [hx.symm]⟩
    show KeepsRecord x s (keepaliveTenth s)
    unfold keepaliveTenth
    split
    · exact harise _
    · split
      · exact ⟨rfl, rfl⟩
      · exact .refl x s
  · have hphase := tenthBlock_movesPhase hk hb second s
    exact ⟨hphase.record_eq x, hphase.present x⟩

theorem tenthBlocks_keepsRecord {order : List TenthBlock} (hdrum : .drum ∉ order) {x : Source} (hx : x ≠ .keepalive)
    (second : Bool) (s : State) : KeepsRecord x s (tenthBlocks second order s) :=
  tenthBlocks_lift (.refl x) .trans
    (fun _ hb t => tenthBlock_keepsRecord (fun e => hdrum (e ▸ hb)) hx second t) s

theorem arise_record_self (x : Source) (s : State) :
    (arise x s).record x =
      if s.present x = true then s.record x else ⟨.active, true, satSucc 255 (s.record x).count⟩ := by
  rw [arise_record]
  cases s.present x <;> simp

/-- A condition of the drum that arises at the drum's turn, which is the first, stands at the end of the tenth. -/
theorem runTenth_arise {s : State} {x : Source} {d : Drum} (hx : x ≠ .keepalive)
    (hturn : drumTenth (beginTenth s.dropChoice) = arise x ((beginTenth s.dropChoice).setDrum d)) :
    (runTenth [.drum] s).present x = true ∧
      (runTenth [.drum] s).record x =
        if s.present x = true then s.record x else ⟨.active, true, satSucc 255 (s.record x).count⟩ := by
  obtain ⟨rest, -, hnot, heq⟩ := runTenth_first .drum s
  obtain ⟨hrecord, hpresent⟩ :=
    tenthBlocks_keepsRecord hnot hx s.secondNext (tenthBlock s.secondNext .drum (beginTenth s.dropChoice))
  rw [← heq, tenthBlock, hturn] at hrecord hpresent
  have hfaults : ((beginTenth s.dropChoice).setDrum d).faults = s.faults := beginTenth_faults _
  have hrecord' : ((beginTenth s.dropChoice).setDrum d).record x = s.record x := by rw [State.record, hfaults]; rfl
  have hpresent' : ((beginTenth s.dropChoice).setDrum d).present x = s.present x := by rw [State.present, hfaults]; rfl
  refine ⟨hpresent.trans (by simp), hrecord.trans ?_⟩
  rw [arise_record_self, hrecord', hpresent']

/-- Settles O22: the drum's turn is the first at the tenth of its condition, and the other blocks leave both
conditions. -/
theorem stallAndOverrunAriseAtTheirLimits : Obligations.StallAndOverrunAriseAtTheirLimits := by
  intro s n
  constructor
  · intro hramp hspinup hlimit hmark
    have hdrum : (beginTenth s).drum = { s.drum with spinup := some (n + 1) } := by
      rw [beginTenth_drum]
      simp [hramp, hspinup]
    have hstall : (beginTenth s).stallDue = true := by
      simp [State.stallDue, hdrum, hramp, hlimit, hmark]
    have hturn : drumTenth (beginTenth s.dropChoice) = arise .motorStall ((beginTenth s.dropChoice).setDrum
        { (beginTenth s.dropChoice).drum with stallMark := true }) := by
      refine if_pos ?_
      rw [beginTenth_dropChoice]
      exact hstall
    obtain ⟨hpresent, hrecord⟩ := runTenth_arise (by decide) hturn
    exact ⟨_, done_dueTenth_of_due hstall .drum s, runTenth_tenthFrame _ s, hpresent, hrecord⟩
  · intro hdecel hcoast hlimit hmark hsilent
    have hdrum : (beginTenth s).drum = { s.drum with coast := some (n + 1) } := by
      rw [beginTenth_drum]
      simp [hdecel, hcoast, hsilent]
    have hoverrun : (beginTenth s).overrunDue = true := by
      simp [State.overrunDue, hdrum, hdecel, hlimit, hmark, hsilent]
    have hturn : drumTenth (beginTenth s.dropChoice) = arise .drumOverrun ((beginTenth s.dropChoice).setDrum
        { (beginTenth s.dropChoice).drum with overrunMark := true }) := by
      have hstate : (beginTenth s.dropChoice).drum.state = .decel := (beginTenth_drumState _).trans hdecel
      have hstall : (beginTenth s.dropChoice).stallDue = false := by
        rw [State.stallDue, hstate]
        rfl
      rw [drumTenth, hstall, if_neg Bool.false_ne_true, if_pos]
      rw [beginTenth_dropChoice]
      exact hoverrun
    obtain ⟨hpresent, hrecord⟩ := runTenth_arise (by decide) hturn
    exact ⟨_, done_dueTenth_of_due hoverrun .drum s, runTenth_tenthFrame _ s, hpresent, hrecord⟩

end Sys2Proof.Machine

/-! # The end of a DWELL span (05 R83, R84; 06 R101) -/

namespace Sys2Proof.Machine

/-! ### The walk reads the walker and the tables alone (06 R98 to R101, R108) -/

section
variable {s t : State}

theorem patternAt_of_tables (htables : t.tables = s.tables) (i : Nat) : t.patternAt i = s.patternAt i := by
  rw [State.patternAt, State.patternAt, htables]

theorem usable_of_tables (htables : t.tables = s.tables) (i : Nat) : t.usable i = s.usable i := by
  rw [State.usable, State.usable, patternAt_of_tables htables]

theorem stepFrom_of_tables (htables : t.tables = s.tables) (base size n i : Nat) :
    stepFrom t base size n i = stepFrom s base size n i := by
  induction n generalizing i with
  | zero => rfl
  | succ n ih => rw [stepFrom, stepFrom, usable_of_tables htables, ih]

theorem passFind_of_tables (htables : t.tables = s.tables) (base n i : Nat) :
    passFind t base n i = passFind s base n i := by
  induction n generalizing i with
  | zero => rfl
  | succ n ih => rw [passFind, passFind, usable_of_tables htables, ih]

theorem nextMain_of_same (htables : t.tables = s.tables) (hmain : t.walker.main = s.walker.main) (i : Nat) :
    t.nextMain i = s.nextMain i := by
  rw [State.nextMain, State.nextMain, hmain]
  cases s.walker.main with
  | none => rfl
  | some w => exact stepFrom_of_tables htables _ _ _ _

/-- The walker as it names an entry, whole (06 R99). -/
def State.naming (s : State) (i : Nat) (w : Walker) : Walker :=
  { w with index := some i, segment := some (s.patternAt i), turning := 0, early := false }

theorem nameEntry_walker (i : Nat) (s : State) : (nameEntry i s).walker = s.naming i s.walker := rfl

theorem naming_of_tables (htables : t.tables = s.tables) (i : Nat) (w : Walker) : t.naming i w = s.naming i w := by
  rw [State.naming, State.naming, patternAt_of_tables htables]

theorem endPass_walker_of_same (htables : t.tables = s.tables) (hwalker : t.walker = s.walker) :
    (endPass t).walker = (endPass s).walker := by
  unfold endPass
  rw [hwalker]
  cases s.walker.ret with
  | none => rfl
  | some i => exact naming_of_tables htables _ _

theorem passAt_walker_of_same (htables : t.tables = s.tables) (hwalker : t.walker = s.walker) (base n i : Nat) :
    (passAt base n i t).walker = (passAt base n i s).walker := by
  unfold passAt
  rw [passFind_of_tables htables, hwalker]
  cases passFind s base n i with
  | none => exact endPass_walker_of_same htables hwalker
  | some r => exact naming_of_tables htables _ _

theorem advanceWalker_walker_of_same (htables : t.tables = s.tables) (hwalker : t.walker = s.walker) :
    (advanceWalker t).walker = (advanceWalker s).walker := by
  unfold advanceWalker
  rw [hwalker]
  cases s.walker.index with
  | none => exact hwalker
  | some i =>
    dsimp only
    split
    · cases s.walker.untangle with
      | none => exact endPass_walker_of_same htables hwalker
      | some b => exact passAt_walker_of_same htables hwalker _ _ _
    · rw [nameEntry_walker, nameEntry_walker, nextMain_of_same htables (by rw [hwalker]), hwalker]
      exact naming_of_tables htables _ _

end

theorem segmentDemand_of_walker {s t : State} (h : t.walker = s.walker) : t.segmentDemand = s.segmentDemand := by
  rw [State.segmentDemand, State.segmentDemand, h]

/-! ### The quiet turns (01 R10; 07 R128 to R131; 08 R146) -/

/-- What the keepalive timer and the cycle controller read at a tenth stands. -/
structure KeepsQuiet (s t : State) : Prop where
  keepalive : t.links.keepalive = s.links.keepalive
  path      : t.path = s.path
  cycle     : t.cycle = s.cycle
  faults    : t.faults = s.faults
  tables    : t.tables = s.tables

theorem KeepsQuiet.trans {s t u : State} (h : KeepsQuiet s t) (k : KeepsQuiet t u) : KeepsQuiet s u :=
  ⟨k.keepalive.trans h.keepalive, k.path.trans h.path, k.cycle.trans h.cycle, k.faults.trans h.faults,
    k.tables.trans h.tables⟩

theorem MovesDrum.keepsQuiet {s t : State} (h : MovesDrum s t) : KeepsQuiet s t := by
  constructor <;> rw [h]

theorem KeepsQuiet.lateDue {s t : State} (h : KeepsQuiet s t) : t.lateDue = s.lateDue := by
  rw [State.lateDue, State.lateDue, State.param, State.param, h.keepalive, h.tables]

theorem KeepsQuiet.spanReached {s t : State} (h : KeepsQuiet s t) : t.spanReached = s.spanReached := by
  rw [Bool.eq_iff_iff, spanReached_iff, spanReached_iff, State.silent, State.silent, State.present, State.present,
    h.cycle, h.faults]

theorem KeepsQuiet.phaseEndDue {s t : State} (h : KeepsQuiet s t) : t.phaseEndDue = s.phaseEndDue := by
  have hsilent : t.silent = s.silent := by rw [State.silent, State.silent, State.present, State.present, h.faults]
  have hexhaust : t.exhaust? = s.exhaust? := by rw [State.exhaust?, State.exhaust?, h.path, hsilent]
  rw [State.phaseEndDue, State.phaseEndDue, State.settleNext, State.settleNext, h.spanReached, h.cycle, hexhaust]

/-- At a quiet tenth the keepalive timer and the cycle controller are calm, whatever of the others came first. -/
theorem KeepsQuiet.calm {s u : State} (h : KeepsQuiet (beginTenth s.dropChoice) u) (hquiet : s.quietTenth) :
    TenthBlock.keepalive.calm s.secondNext u ∧ TenthBlock.cycle.calm s.secondNext u := by
  obtain ⟨hlate, hphase⟩ := hquiet
  refine ⟨h.lateDue.trans ((beginTenth_lateDue _).trans hlate), fun hsecond => ?_⟩
  obtain ⟨hend, hcooldown⟩ := hphase hsecond
  have hcycle : u.cycle = s.cycle := h.cycle.trans (beginTenth_cycle _)
  rw [hcycle, h.phaseEndDue, beginTenth_phaseEndDue]
  refine ⟨hcooldown, fun hactive => ?_⟩
  rw [State.endNext, if_pos ⟨hsecond, hactive⟩, beginTenth_phaseEndDue] at hend
  exact hend

/-- The walker counts and judges nothing while the drum is not TURNING (06 R100, R104). -/
theorem walker_calm_of_notTurning {s : State} (h : s.drum.state ≠ .turning) (second : Bool) :
    TenthBlock.walker.calm second s := by
  refine ⟨fun _ => ?_, fun hturning => absurd hturning h⟩
  rw [← Bool.not_eq_true, tangleDue_iff]
  rintro ⟨-, -, -, -, hsettled, -⟩
  simp only [State.turningSettled, Bool.and_eq_true, decide_eq_true_eq] at hsettled
  exact h hsettled.1

/-! ### The drum at the end of its span (05 R84; 06 R101) -/

theorem endDwell_stop {s : State} (h : s.drum.winner = .stop) : endDwell s = enterStopped s := by
  unfold endDwell
  rw [h]

theorem endDwell_override {s : State} {v : Nat} (h : s.drum.winner = .override v) :
    endDwell s = enterRamp .cw v 0 s := by
  unfold endDwell
  rw [h]

theorem endDwell_run {s : State} {d : Direction} {v : Nat} (h : s.drum.winner = .walkerRun d v) :
    endDwell s = enterRamp d v 0 s := by
  unfold endDwell
  rw [h]

/-- Under the walker's PAUSE the drum acts on the segment that follows, and one more PAUSE is one more span. -/
theorem endDwell_pause {s : State} {k : Nat} (h : s.drum.winner = .walkerPause k) :
    endDwell s =
      match (advanceWalker s).segmentDemand with
      | .stop => enterStopped s.paused
      | .override v => enterRamp .cw v 0 s.paused
      | .walkerRun d v => enterRamp d v 0 s.paused
      | .walkerPause _ => s.paused.setDrum { s.paused.drum with dwell := some 0 } := by
  unfold endDwell
  rw [h]
  rfl

/-- After a PAUSE the winner is the segment named, and the walker stands at it. -/
theorem endDwell_pause_named {s : State} {k : Nat} (h : s.drum.winner = .walkerPause k) :
    (endDwell s).walker = s.paused.walker ∧ (endDwell s).drum.winner = s.paused.drum.winner := by
  rw [endDwell_pause h]
  split
  · exact ⟨forceReduction_walker _, by rw [enterStopped_drum]⟩
  · exact ⟨forceReduction_walker _, by rw [enterRamp_drum]⟩
  · exact ⟨forceReduction_walker _, by rw [enterRamp_drum]⟩
  · exact ⟨rfl, rfl⟩

/-- No span ends in TURNING. -/
theorem endDwell_notTurning {s : State} (h : s.drum.state = .dwell) : (endDwell s).drum.state ≠ .turning := by
  have hstopped : ∀ u, (enterStopped u).drum.state ≠ .turning := fun u => by
    rw [enterStopped_drum]
    exact DrumState.noConfusion
  have hramp : ∀ d v u, (enterRamp d v 0 u).drum.state ≠ .turning := fun d v u => by
    rw [enterRamp_drum]
    exact DrumState.noConfusion
  cases hw : s.drum.winner with
  | stop => rw [endDwell_stop hw]; exact hstopped s
  | override v => rw [endDwell_override hw]; exact hramp _ _ s
  | walkerRun d v => rw [endDwell_run hw]; exact hramp _ _ s
  | walkerPause k =>
    rw [endDwell_pause hw]
    split
    · exact hstopped _
    · exact hramp _ _ _
    · exact hramp _ _ _
    · have hstate : s.paused.drum.state = .dwell := by
        show (advanceWalker s).drum.state = .dwell
        rw [advanceWalker_moves s]
        exact h
      show s.paused.drum.state ≠ .turning
      rw [hstate]
      exact DrumState.noConfusion

/-! ### After the drum's turn -/

theorem MovesCalm.drum_eq {s t : State} (h : MovesCalm s t) :
    t.drum = { s.drum with currentMin := t.drum.currentMin, currentMax := t.drum.currentMax } := by rw [h]

theorem MovesCalm.walker_eq {s t : State} (h : MovesCalm s t) :
    t.walker = { s.walker with turning := t.walker.turning, score := t.walker.score } := by rw [h]

theorem MovesCalm.cycleState {s t : State} (h : MovesCalm s t) : t.cycle.state = s.cycle.state := by rw [h]

/-- A drum in RAMP from 0. -/
def Drum.starts (m : Drum) (d : Direction) (v : Nat) : Prop :=
  m.state = .ramp ∧ m.dir = d ∧ m.target = v ∧ m.setpoint = 0

theorem MovesCalm.starts {u t : State} {d : Direction} {v : Nat} (h : MovesCalm (enterRamp d v 0 u) t) :
    t.drum.starts d v := by
  have hdrum := h.drum_eq
  rw [enterRamp_drum] at hdrum
  rw [hdrum]
  exact ⟨rfl, rfl, rfl, rfl⟩

/-- The span's end is the drum's turn, which is the first; the turns of the others are calm. -/
theorem runTenth_dwellEnd {s : State} (hdwell : s.drum.state = .dwell) (hdue : (beginTenth s).dwellDue = true)
    (hquiet : s.quietTenth) : MovesCalm (endDwell (beginTenth s.dropChoice)) (runTenth [.drum] s) := by
  obtain ⟨rest, hnodup, hnot, heq⟩ := runTenth_first .drum s
  have hstate : (beginTenth s.dropChoice).drum.state = .dwell := (beginTenth_drumState _).trans hdwell
  have hturn : drumTenth (beginTenth s.dropChoice) = endDwell (beginTenth s.dropChoice) := by
    have hstall : (beginTenth s.dropChoice).stallDue = false := by rw [State.stallDue, hstate]; rfl
    have hoverrun : (beginTenth s.dropChoice).overrunDue = false := by rw [State.overrunDue, hstate]; rfl
    rw [drumTenth, hstall, if_neg Bool.false_ne_true, hoverrun, if_neg Bool.false_ne_true, if_pos]
    rw [beginTenth_dropChoice]
    exact hdue
  rw [heq, tenthBlock, hturn]
  obtain ⟨hkeepalive, hcycle⟩ := (endDwell_moves (beginTenth s.dropChoice)).keepsQuiet.calm hquiet
  refine (tenthBlocks_calm hnodup fun b hb => ?_).1
  cases b with
  | keepalive => exact hkeepalive
  | drum => exact absurd hb hnot
  | moisture => trivial
  | walker => exact walker_calm_of_notTurning (endDwell_notTurning hstate) _
  | cycle => exact hcycle
  | report => trivial

/-- What the walker names at a tenth is what it would have named before it. -/
theorem beginTenth_advanceWalker (s : State) :
    (advanceWalker (beginTenth s.dropChoice)).walker = (advanceWalker s).walker := by
  refine advanceWalker_walker_of_same ?_ (beginTenth_walker s.dropChoice)
  rw [beginTenth_eq]
  rfl

/-- Settles O21: the drum's turn is the first at the tenth of its span's end, and acts on the winner as it stands; the
turns that follow leave the drum but for the second's extremes. -/
theorem dwellSpanEndActsOnTheWinner : Obligations.DwellSpanEndActsOnTheWinner := by
  refine ⟨fun s => ⟨fun k hw => ?_, fun hw => ?_⟩, fun s n hdwell hcount hspan hquiet => ?_⟩
  · rw [State.dwellSpan, hw]
  · unfold State.dwellSpan
    split
    next k h => exact absurd h (hw k)
    all_goals rfl
  · have hdue : (beginTenth s).dwellDue = true := by
      have hdrum : (beginTenth s).drum.dwell = some (n + 1) := by
        rw [beginTenth_drum]
        simp [hdwell, hcount]
      simp [State.dwellDue, hdwell, hdrum, hspan]
    have hcalm := runTenth_dwellEnd hdwell hdue hquiet
    have hwinner : (beginTenth s.dropChoice).drum.winner = s.drum.winner := beginTenth_winner _
    refine ⟨_, done_dueTenth_of_due hdue .drum s, runTenth_tenthFrame _ s, ?_, fun v hw => ?_, fun d v hw => ?_,
      fun hw => ?_, fun k hw => ?_⟩
    · show (runTenth [.drum] s).cycle.state = s.cycle.state
      have hcycle : (endDwell (beginTenth s.dropChoice)).cycle = s.cycle :=
        (endDwell_moves _).keepsQuiet.cycle.trans (beginTenth_cycle _)
      exact hcalm.cycleState.trans (congrArg Cycle.state hcycle)
    · rw [endDwell_override (hwinner.trans hw)] at hcalm
      exact hcalm.starts
    · rw [endDwell_run (hwinner.trans hw)] at hcalm
      exact hcalm.starts
    · rw [endDwell_stop (hwinner.trans hw)] at hcalm
      have hdrum := hcalm.drum_eq
      rw [enterStopped_drum] at hdrum
      show (runTenth [.drum] s).drum.state = .stopped ∧ (runTenth [.drum] s).drum.dir = .stop ∧
        (runTenth [.drum] s).drum.setpoint = 0
      rw [hdrum]
      exact ⟨rfl, rfl, rfl⟩
    · have hnext := beginTenth_advanceWalker s
      have hdemand := segmentDemand_of_walker hnext
      obtain ⟨hwalker, hnamed⟩ := endDwell_pause_named (hwinner.trans hw)
      have hstands : (runTenth [.drum] s).walker =
          { (advanceWalker s).walker with
            turning := (runTenth [.drum] s).walker.turning, score := (runTenth [.drum] s).walker.score } := by
        rw [← hnext]
        exact hcalm.walker_eq.trans (by rw [hwalker]; rfl)
      have hdrum := hcalm.drum_eq
      have hsegment := congrArg Walker.segment hstands
      have hindex := congrArg Walker.index hstands
      refine ⟨hsegment, hindex, ?_, fun d v hrun => ?_, fun j hpause => ?_⟩
      · rw [← hdemand]
        exact (congrArg Drum.winner hdrum).trans hnamed
      · rw [endDwell_pause (hwinner.trans hw), hdemand, hrun] at hcalm
        exact hcalm.starts
      · have hstate : (beginTenth s.dropChoice).paused.drum.state = .dwell := by
          show (advanceWalker (beginTenth s.dropChoice)).drum.state = .dwell
          rw [advanceWalker_moves]
          exact (beginTenth_drumState _).trans hdwell
        rw [endDwell_pause (hwinner.trans hw), hdemand, hpause] at hdrum
        exact ⟨(congrArg Drum.state hdrum).trans hstate, congrArg Drum.dwell hdrum⟩

end Sys2Proof.Machine

/-! # The end of a segment (06 R98 to R100, R108; 05 R78) -/

namespace Sys2Proof.Machine

/-! ### What the walker names (06 R98, R100, R108) -/

/-- What the walker names at an index of its walk, and how its pass goes on or ends. -/
structure NamesNext (s : State) (i j : Nat) (t : State) : Prop where
  stands  : t.walker.standsAt s j
  main    : s.walker.pass = false → j = s.nextMain i ∧ t.walker.pass = false
  goesOn  : ∀ b k r, s.walker.pass = true → s.walker.untangle = some b →
    passFind s b s.walker.remaining (nextIn b 4 i) = some (k, r) →
    j = k ∧ t.walker.pass = true ∧ t.walker.remaining = r
  returns : ∀ b, s.walker.pass = true → s.walker.untangle = some b →
    passFind s b s.walker.remaining (nextIn b 4 i) = none → s.walker.ret = some j ∧ t.walker.pass = false

/-- Under the walker's law an advance names an entry: of the main window, or of the pass, or at the return index. -/
theorem advanceWalker_names {s : State} {i : Nat} (hlaw : s.walkerLaw) (hindex : s.walker.index = some i) :
    ∃ j, NamesNext s i j (advanceWalker s) := by
  unfold advanceWalker
  rw [hindex]
  dsimp only
  cases hpass : s.walker.pass with
  | false =>
    refine ⟨s.nextMain i, ⟨rfl, rfl, rfl, rfl⟩, fun _ => ⟨rfl, hpass⟩, fun b k r h => ?_, fun b h => ?_⟩
    · cases hpass.symm.trans h
    · cases hpass.symm.trans h
  | true =>
    obtain ⟨hblock, hreturn, -⟩ := hlaw.2 hpass
    obtain ⟨b, hb⟩ := Option.ne_none_iff_exists'.mp hblock
    obtain ⟨ret, hret⟩ := Option.ne_none_iff_exists'.mp hreturn
    have hnot : s.walker.pass ≠ false := by rw [hpass]; exact Bool.noConfusion
    simp only [hb, if_true, passAt]
    cases hfind : passFind s b s.walker.remaining (nextIn b 4 i) with
    | none =>
      simp only [endPass, hret]
      refine ⟨ret, ⟨rfl, rfl, rfl, rfl⟩, fun h => absurd h hnot, fun b' k r _ hb' h => ?_, fun _ _ _ _ => ⟨hret, rfl⟩⟩
      rw [Option.some.inj (hb.symm.trans hb'), h] at hfind
      cases hfind
    | some f =>
      obtain ⟨k, r⟩ := f
      refine ⟨k, ⟨rfl, rfl, rfl, rfl⟩, fun h => absurd h hnot, fun b' k' r' _ hb' h => ?_, fun b' _ hb' h => ?_⟩
      · rw [Option.some.inj (hb.symm.trans hb'), h] at hfind
        cases hfind
        exact ⟨rfl, hpass, rfl⟩
      · rw [Option.some.inj (hb.symm.trans hb'), h] at hfind
        cases hfind

/-! ### What a TURNING drum takes (05 R78) -/

/-- A naming under the walker is met at once, be it of the same segment anew (06 R99). -/
theorem reselect_naming {s : State} (hholds : s.holds = true) (hturn : s.walkerTurn = true)
    (hready : s.aux.drumDeferred = false) :
    reselect true s = actOn s.segmentDemand (s.setDrum { s.drum with winner := s.segmentDemand }) := by
  have hhand : handWalker s = s := handWalker_of_turn (hholds.trans hturn.symm)
  have hacts : s.segmentDemand ≠ s.drum.winner ∨ (s.segmentDemand.fromWalker ∧ (true ∨ !s.holds)) := by
    by_cases hsame : s.segmentDemand = s.drum.winner
    · refine .inr ⟨?_, .inl rfl⟩
      rw [hsame]
      exact hholds
    · exact .inl hsame
  unfold reselect
  simp only [hhand, selectDemand_of_turn hturn, meetWinner, State.setDrum_aux, hready]
  rw [if_pos (by simpa using hacts), if_neg Bool.false_ne_true]

/-- A count that has begun anew, in a state that is not DWELL. -/
def Drum.fresh (d : Drum) : Prop :=
  d.state ≠ .dwell ∧ (d.state = .ramp → d.spinup = some 0) ∧ (d.state = .decel → d.coast = some 0)

theorem actOn_turning {w : Demand} {s : State} (h : s.drum.state = .turning) :
    (actOn w s).drum.state = turningTakes s.drum.dir s.drum.target w ∧ (actOn w s).drum.fresh := by
  unfold actOn turningTakes
  rw [h]
  have hdecel : (enterDecel s).drum.state = .decel ∧ (enterDecel s).drum.fresh := by
    rw [enterDecel_drum]
    exact ⟨rfl, DrumState.noConfusion, fun h => DrumState.noConfusion h, fun _ => rfl⟩
  cases w.run? with
  | none => exact hdecel
  | some f =>
    obtain ⟨d, v⟩ := f
    dsimp only
    split
    · split
      · exact ⟨h, by rw [h]; exact DrumState.noConfusion, fun hramp => DrumState.noConfusion (h.symm.trans hramp),
          fun hdecel => DrumState.noConfusion (h.symm.trans hdecel)⟩
      · rw [enterRamp_drum]
        exact ⟨rfl, DrumState.noConfusion, fun _ => rfl, fun h => DrumState.noConfusion h⟩
    · exact hdecel

/-- A count that has begun anew is short of its limit, which is of 2 seconds or more (10 R174; 05 R86, R88). -/
theorem drum_calm_of_fresh {s : State} (hlaw : s.paramLaw) (h : s.drum.fresh) (second : Bool) :
    TenthBlock.drum.calm second s := by
  obtain ⟨hdwell, hramp, hdecel⟩ := h
  have hspinup : 2 ≤ s.param .spinupLimit := (hlaw.1 .spinupLimit).1
  have hcoast : 2 ≤ s.param .coastLimit := (hlaw.1 .coastLimit).1
  refine ⟨?_, ?_, ?_⟩
  · by_cases hstate : s.drum.state = .ramp
    · simp only [State.stallDue, hramp hstate, Option.getD_some]
      simp
      omega
    · simp [State.stallDue, hstate]
  · by_cases hstate : s.drum.state = .decel
    · simp only [State.overrunDue, hdecel hstate, Option.getD_some]
      simp
      omega
    · simp [State.overrunDue, hstate]
  · simp [State.dwellDue, hdwell]

/-! ### The walker's turn (06 R100) -/

theorem CalmWork.keepsQuiet {s t : State} (h : CalmWork .walker s t) : KeepsQuiet s t := by
  refine ⟨h.sees .keepalive TenthBlock.noConfusion, ?_, h.sees .cycle TenthBlock.noConfusion, ?_, ?_⟩ <;> rw [h.moves]

/-- With no tangle the walker's counting is calm work. -/
theorem walkerCounted_calmWork {s : State} (h : s.secondNext = true → (beginTenth s).tangleDue = false) :
    CalmWork .walker (beginTenth s) s.walkerCounted := by
  have hjudge : (if s.secondNext then judgeSecond (beginTenth s) else beginTenth s) =
      if s.secondNext then (beginTenth s).judgedCalm else beginTenth s := by
    cases hsecond : s.secondNext with
    | false => rfl
    | true =>
      unfold judgeSecond
      rw [h hsecond]
      rfl
  rw [State.walkerCounted, hjudge]
  exact ((judgedCalm_calmWork _).ite _).trans (countTurning_calmWork _)

/-- A segment that is timed has this tenth added to it. -/
theorem walkerCounted_timed {s : State} (hturning : s.drum.state = .turning) (hholds : s.holds = true) :
    s.walkerCounted.segmentTimed = true ∧ s.walkerCounted.walker.turning = satSucc 2550 s.walker.turning := by
  have hjudged := beginTenth_judged s
  have htimed : (if s.secondNext then judgeSecond (beginTenth s) else beginTenth s).segmentTimed = true := by
    refine (segmentTimed_iff _).mpr ⟨hjudged.drumState.trans ?_, hjudged.holds.trans ?_, hjudged.fresh.trans ?_⟩
    · exact (beginTenth_drumState s).trans hturning
    · exact (beginTenth_holds s).trans hholds
    · exact beginTenth_segFresh s
  refine ⟨(countTurning_segmentTimed _).trans htimed, ?_⟩
  rw [State.walkerCounted, countTurning_of_timed htimed, State.setWalker_walker, hjudged.turning, beginTenth_walker]

/-- The drum is TURNING under the walker, and the coming tenth completes its segment without a tangle (06 R100). -/
structure State.endsSegment (s : State) : Prop where
  turning : s.drum.state = .turning
  holds   : s.holds = true
  turn    : s.walkerTurn = true
  tangle  : s.secondNext = true → (beginTenth s).tangleDue = false
  early   : s.walker.early = false
  length  : s.segmentLength ≤ satSucc 2550 s.walker.turning

theorem State.endsSegment.dropChoice {s : State} (h : s.endsSegment) : s.dropChoice.endsSegment :=
  ⟨h.turning, h.holds, h.turn, by rw [beginTenth_dropChoice]; exact h.tangle, h.early, h.length⟩

theorem State.endsSegment.due {s : State} (h : s.endsSegment) :
    s.walkerCounted.segmentDue = true ∧ s.walkerCounted.earlyDue = false := by
  obtain ⟨htimed, hcount⟩ := walkerCounted_timed h.turning h.holds
  have hmoves := (walkerCounted_calmWork h.tangle).moves
  have hearly : s.walkerCounted.walker.early = false := by
    rw [hmoves, beginTenth_walker]
    exact h.early
  have hlength : s.walkerCounted.segmentLength = s.segmentLength := by
    rw [← beginTenth_segmentLength s, hmoves]
    rfl
  simp [State.segmentDue, State.earlyDue, htimed, hearly, hlength, hcount, h.length]

/-- The state as the walker names what follows a segment that ends by its length, before the drum takes it. -/
def State.advanced (s : State) : State := advanceWalker s.dropChoice.walkerCounted

/-- That state with what the walker names as the winner. -/
def State.advancedNamed (s : State) : State :=
  s.advanced.setDrum { s.advanced.drum with winner := s.advanced.segmentDemand }

namespace State.endsSegment

variable {s : State}

theorem counted_moves (h : s.endsSegment) : MovesCalm (beginTenth s.dropChoice) s.dropChoice.walkerCounted :=
  (walkerCounted_calmWork h.dropChoice.tangle).moves

theorem advanced_keepsQuiet (h : s.endsSegment) : KeepsQuiet (beginTenth s.dropChoice) s.advanced :=
  (walkerCounted_calmWork h.dropChoice.tangle).keepsQuiet.trans (advanceWalker_moves _).drum.keepsQuiet

/-- Up to the naming nothing of the drum has moved but the second's extremes. -/
theorem advanced_drum (h : s.endsSegment) :
    s.advanced.drum.state = .turning ∧ s.advanced.drum.dir = s.drum.dir ∧ s.advanced.drum.target = s.drum.target ∧
      s.advanced.drum.winner = s.drum.winner := by
  have hcounted := h.counted_moves.drum_eq
  rw [beginTenth_drum] at hcounted
  have hstands : s.advanced.drum = s.dropChoice.walkerCounted.drum := by
    rw [State.advanced, advanceWalker_moves s.dropChoice.walkerCounted]
  rw [hstands, hcounted]
  exact ⟨h.turning, rfl, rfl, rfl⟩

/-- What the walker names is the winner, and the drum takes it at once (05 R78; 06 R99). -/
theorem walkerTenth_eq (h : s.endsSegment) (hready : s.aux.drumDeferred = false) :
    tenthBlock s.secondNext .walker (beginTenth s.dropChoice) = actOn s.advanced.segmentDemand s.advancedNamed := by
  obtain ⟨hdue, hearly⟩ := h.dropChoice.due
  obtain ⟨-, -, -, hwinner⟩ := h.advanced_drum
  have hturn : s.advanced.walkerTurn = s.walkerTurn := by
    rw [State.advanced, advanceWalker_moves s.dropChoice.walkerCounted, h.counted_moves, beginTenth_eq]
    rfl
  have hdeferred : s.advanced.aux.drumDeferred = s.aux.drumDeferred := by
    rw [State.advanced, advanceWalker_moves s.dropChoice.walkerCounted, h.counted_moves, beginTenth_eq]
    rfl
  refine Eq.trans ?_ (reselect_naming ?_ (hturn.trans h.turn) (hdeferred.trans hready))
  · show (if s.dropChoice.walkerCounted.earlyDue then reselect true (endTangled s.dropChoice.walkerCounted)
      else if s.dropChoice.walkerCounted.segmentDue then reselect true s.advanced
      else s.dropChoice.walkerCounted) = _
    rw [hearly, if_neg Bool.false_ne_true, if_pos hdue]
  · rw [State.holds, hwinner]
    exact h.holds

/-- The walker's turn is the first, and the turns of the others are calm: what the walker names and what the drum takes
stand at the end of the tenth. -/
theorem runTenth_eq (h : s.endsSegment) (hlaw : s.paramLaw) (hready : s.aux.drumDeferred = false)
    (hquiet : s.quietTenth) :
    (runTenth [.walker] s).walker = s.advanced.walker ∧
      (runTenth [.walker] s).drum.winner = s.advanced.segmentDemand ∧
      (runTenth [.walker] s).drum.state = turningTakes s.drum.dir s.drum.target s.advanced.segmentDemand := by
  obtain ⟨rest, hnodup, hnot, heq⟩ := runTenth_first .walker s
  obtain ⟨hturning, hdir, htarget, -⟩ := h.advanced_drum
  obtain ⟨htakes, hfresh⟩ := actOn_turning (w := s.advanced.segmentDemand) (s := s.advancedNamed) hturning
  have hnamed : KeepsQuiet s.advanced s.advancedNamed := ⟨rfl, rfl, rfl, rfl, rfl⟩
  have hquiets := (h.advanced_keepsQuiet.trans hnamed).trans (actOn_moves s.advanced.segmentDemand _).keepsQuiet
  obtain ⟨hkeepalive, hcycle⟩ := hquiets.calm hquiet
  have htables : (actOn s.advanced.segmentDemand s.advancedNamed).tables = s.tables := by
    rw [hquiets.tables, beginTenth_eq]
    rfl
  have hlaw' : (actOn s.advanced.segmentDemand s.advancedNamed).paramLaw := by
    unfold State.paramLaw State.param at hlaw ⊢
    rw [htables]
    exact hlaw
  rw [heq, h.walkerTenth_eq hready]
  have hsees := (tenthBlocks_calm (second := s.secondNext) (s := actOn s.advanced.segmentDemand s.advancedNamed) hnodup
    fun b hb => ?_).2 .walker hnot
  · obtain ⟨hwalker, hdrum⟩ := hsees
    rw [hwalker, hdrum, actOn_walker, actOn_winner, htakes]
    refine ⟨rfl, rfl, ?_⟩
    show turningTakes s.advanced.drum.dir s.advanced.drum.target _ = _
    rw [hdir, htarget]
  · cases b with
    | keepalive => exact hkeepalive
    | drum => exact drum_calm_of_fresh hlaw' hfresh _
    | moisture => trivial
    | walker => exact absurd hb hnot
    | cycle => exact hcycle
    | report => trivial

/-- What the walker names once this tenth is counted is what it would have named before. -/
theorem advanced_names (h : s.endsSegment) (hlaw : s.walkerLaw) {i : Nat} (hindex : s.walker.index = some i) :
    ∃ j, NamesNext s i j s.advanced ∧ s.advanced.segmentDemand = (s.patternAt j).demand := by
  have hwalker := h.counted_moves.walker_eq
  rw [beginTenth_walker] at hwalker
  have htables : s.dropChoice.walkerCounted.tables = s.tables := by
    rw [h.counted_moves, beginTenth_eq]
    rfl
  have hcycle : s.dropChoice.walkerCounted.cycle.record = s.cycle.record := by
    rw [h.counted_moves, beginTenth_cycle]
    rfl
  have hlaw' : s.dropChoice.walkerCounted.walkerLaw := by
    rw [State.walkerLaw, hcycle, hwalker]
    exact hlaw
  obtain ⟨j, hnames⟩ := advanceWalker_names (i := i) hlaw' (by rw [hwalker]; exact hindex)
  have hpattern : s.dropChoice.walkerCounted.patternAt j = s.patternAt j := patternAt_of_tables htables j
  have hmain : s.dropChoice.walkerCounted.nextMain i = s.nextMain i :=
    nextMain_of_same htables (by rw [hwalker]; rfl) i
  obtain ⟨⟨hj, hsegment, hturning, hearly⟩, hnext, hgoes, hreturns⟩ := hnames
  rw [hpattern] at hsegment
  have hpass : s.dropChoice.walkerCounted.walker.pass = s.walker.pass := by rw [hwalker]; rfl
  have hblock : s.dropChoice.walkerCounted.walker.untangle = s.walker.untangle := by rw [hwalker]; rfl
  have hremaining : s.dropChoice.walkerCounted.walker.remaining = s.walker.remaining := by rw [hwalker]; rfl
  have hret : s.dropChoice.walkerCounted.walker.ret = s.walker.ret := by rw [hwalker]; rfl
  simp only [passFind_of_tables htables, hmain, hpass, hblock, hremaining, hret] at hnext hgoes hreturns
  refine ⟨j, ⟨⟨hj, hsegment, hturning, hearly⟩, hnext, hgoes, hreturns⟩, ?_⟩
  rw [State.segmentDemand, show s.advanced.walker.segment = _ from hsegment]

end State.endsSegment

/-- Settles O23: the segment ends at the walker's turn, which is the first; the walker advances and the drum takes
what it names. -/
theorem segmentEndNamesTheNextEntry : Obligations.SegmentEndNamesTheNextEntry := by
  intro s i hlaw hdrum hwalker hquiet htangle hturning hholds hturn hindex hearly hlength
  have h : s.endsSegment := ⟨hturning, hholds, hturn, htangle, hearly, hlength⟩
  obtain ⟨-, -, hready, -, -⟩ := hdrum
  obtain ⟨hstands, hwinner, hstate⟩ := h.runTenth_eq hlaw hready hquiet
  obtain ⟨j, ⟨hnames, hmain, hgoes, hreturns⟩, hdemand⟩ := h.advanced_names hwalker hindex
  rw [← hstands] at hnames hmain hgoes hreturns
  rw [hdemand] at hwinner hstate
  refine ⟨_, j, done_dueTenth_of_due h.due.1 .walker s, runTenth_tenthFrame _ s, hnames, hwinner, hstate, hmain,
    fun b hpass hblock => ?_⟩
  split
  next k r hfind => exact hgoes b k r hpass hblock hfind
  next hfind => exact hreturns b hpass hblock hfind

end Sys2Proof.Machine

/-! # The drum's steps on a SAMPLE (05 R78 to R82, R85) -/

namespace Sys2Proof.Machine

/-! ### What a drum in DECEL or DWELL keeps (05 R78) -/

/-- A drum in DECEL takes a winner and goes on; one in DWELL takes a winner, and at most begins its span again. -/
structure KeepsSlowing (s t : State) : Prop where
  decel : s.drum.state = .decel → t.drum = { s.drum with winner := t.drum.winner }
  dwell : s.drum.state = .dwell →
    t.drum = { s.drum with winner := t.drum.winner, dwell := t.drum.dwell } ∧
      (t.drum.dwell = s.drum.dwell ∨ t.drum.dwell = some 0)

theorem KeepsSlowing.of_drum {s t : State} (h : t.drum = s.drum) : KeepsSlowing s t := by
  constructor
  · intro _
    rw [h]
  · intro _
    rw [h]
    exact ⟨rfl, .inl rfl⟩

theorem KeepsSlowing.refl (s : State) : KeepsSlowing s s := .of_drum rfl

theorem KeepsSlowing.trans {s t u : State} (h : KeepsSlowing s t) (k : KeepsSlowing t u) : KeepsSlowing s u := by
  constructor
  · intro hs
    have ht := h.decel hs
    have hu := k.decel (by rw [ht]; exact hs)
    rw [ht] at hu
    exact hu
  · intro hs
    obtain ⟨ht, hspan⟩ := h.dwell hs
    obtain ⟨hu, kspan⟩ := k.dwell (by rw [ht]; exact hs)
    refine ⟨?_, ?_⟩
    · rw [ht] at hu
      exact hu
    · rcases kspan with kspan | kspan
      · rw [kspan]; exact hspan
      · exact .inr kspan

theorem actOn_of_decel {s : State} (h : s.drum.state = .decel) (w : Demand) : actOn w s = s := by
  unfold actOn
  rw [h]

theorem actOn_of_dwell {s : State} (h : s.drum.state = .dwell) (w : Demand) :
    actOn w s = s ∨ actOn w s = s.setDrum { s.drum with dwell := some 0 } := by
  unfold actOn
  rw [h]
  cases w with
  | walkerPause k => exact .inr rfl
  | _ => exact .inl rfl

theorem actOn_keepsSlowing (w : Demand) (s : State) : KeepsSlowing s (actOn w s) := by
  constructor
  · intro h
    rw [actOn_of_decel h]
  · intro h
    obtain heq | heq := actOn_of_dwell h w
    · rw [heq]
      exact ⟨rfl, .inl rfl⟩
    · rw [heq]
      exact ⟨rfl, .inr rfl⟩

theorem named_keepsSlowing (s : State) : KeepsSlowing s s.named := by
  constructor
  · exact fun _ => named_drum s
  · intro _
    have h := named_drum s
    refine ⟨?_, .inl ?_⟩
    · rw [h]
    · rw [h]

theorem Act.keepsSlowing {s t : State} (h : Act s t) : KeepsSlowing s t := by
  cases h with
  | force => exact .of_drum (forceReduction_drum s)
  | reselect n =>
    rw [reselect_eq]
    split
    · unfold meetWinner
      split
      · exact (named_keepsSlowing s).trans (.of_drum rfl)
      · exact (named_keepsSlowing s).trans (actOn_keepsSlowing _ _)
    · exact named_keepsSlowing s
  | walk h => exact .of_drum (by rw [h])
  | tell k a => exact .of_drum (raiseEvent_drum k a s)
  | cycle => exact .of_drum rfl
  | fault => exact .of_drum rfl
  | estimate => exact .of_drum rfl

theorem Acts.keepsSlowing {s t : State} (h : Acts s t) : KeepsSlowing s t := h.lift .refl .trans Act.keepsSlowing

/-! ### What a drum whose reaction waits keeps (05 R85) -/

/-- While the drum's reaction waits, the drum takes a winner and nothing else. -/
def KeepsDrumWaiting (s t : State) : Prop :=
  s.aux.drumDeferred = true → t.aux.drumDeferred = true ∧ t.drum = { s.drum with winner := t.drum.winner }

theorem KeepsDrumWaiting.of_same {s t : State} (hdrum : t.drum = s.drum)
    (hready : t.aux.drumDeferred = s.aux.drumDeferred) : KeepsDrumWaiting s t :=
  fun h => ⟨hready.trans h, by rw [hdrum]⟩

theorem KeepsDrumWaiting.refl (s : State) : KeepsDrumWaiting s s := .of_same rfl rfl

theorem KeepsDrumWaiting.trans {s t u : State} (h : KeepsDrumWaiting s t) (k : KeepsDrumWaiting t u) :
    KeepsDrumWaiting s u := fun hs => by
  obtain ⟨hready, hdrum⟩ := h hs
  obtain ⟨kready, kdrum⟩ := k hready
  rw [hdrum] at kdrum
  exact ⟨kready, kdrum⟩

theorem Act.keepsDrumWaiting {s t : State} (h : Act s t) : KeepsDrumWaiting s t := fun hwait => by
  refine ⟨h.acts.frame.drumDeferred.trans hwait, ?_⟩
  cases h with
  | force => rw [forceReduction_drum]
  | reselect n => exact reselect_deferred n s hwait
  | walk h => rw [h]
  | tell k a => rw [raiseEvent_drum]
  | cycle => rfl
  | fault => rfl
  | estimate => rfl

theorem Acts.keepsDrumWaiting {s t : State} (h : Acts s t) : KeepsDrumWaiting s t :=
  h.lift .refl .trans Act.keepsDrumWaiting

/-! ### The other blocks' work on a SAMPLE (02 R22) -/

/-- What every act keeps, and every move of the contact runs and of the heater, the blocks but the drum keep. -/
theorem sampleBlock_lift {R : State → State → Prop} (htrans : ∀ {s t u}, R s t → R t u → R s u)
    (hacts : ∀ {s t}, Acts s t → R s t) (hheater : ∀ {s t}, MovesHeater s t → R s t) {b : SampleBlock} (hb : b ≠ .drum)
    (s0 : State) (opening late : Bool) (s : State) : R s (sampleBlock s0 opening late b s) := by
  cases b with
  | limits => exact hacts (limitsSample_acts s)
  | moisture => exact hacts (moistureSample_acts s0 s)
  | contacts =>
    have hstep : MovesHeater s (stepContacts s) := by
      unfold stepContacts
      split <;> exact rfl
    exact htrans (hheater hstep) (hacts ((handCondition_acts _ _ _).trans (handCondition_acts _ _ _)))
  | heater => exact hheater (heaterSample_movesHeater s)
  | drum => exact absurd rfl hb
  | cycle => exact hacts (cycleSample_acts opening s)

theorem sampleWork_keepsSlowing {order : List SampleBlock} (h : .drum ∉ order) (s0 : State) (opening late : Bool)
    (s : State) : KeepsSlowing s (sampleWork s0 opening late order s) :=
  sampleWork_lift .refl .trans (fun _ hb t => sampleBlock_lift .trans Acts.keepsSlowing
    (fun h => .of_drum (by rw [h])) (fun e => h (e ▸ hb)) s0 opening late t) s

theorem sampleWork_keepsDrumWaiting {order : List SampleBlock} (h : .drum ∉ order) (s0 : State) (opening late : Bool)
    (s : State) : KeepsDrumWaiting s (sampleWork s0 opening late order s) :=
  sampleWork_lift .refl .trans (fun _ hb t => sampleBlock_lift .trans Acts.keepsDrumWaiting
    (fun h => .of_same (by rw [h]) (by rw [h])) (fun e => h (e ▸ hb)) s0 opening late t) s

/-! ### One step of the setpoint (05 R80) -/

theorem moveToward_eq (step target setpoint : Nat) :
    moveToward step target setpoint =
      if setpoint ≤ target then min target (setpoint + step) else max target (setpoint - step) := by
  unfold moveToward
  split <;> split <;> split <;> omega

theorem moveToward_zero (step setpoint : Nat) : moveToward step 0 setpoint = setpoint - step := by
  rw [moveToward_eq]
  split <;> omega

theorem stepSetpoint_of_ramp {s : State} (h : s.drum.state = .ramp) :
    stepSetpoint s =
      s.setDrum { s.drum with setpoint := moveToward (s.param .rampStep) s.drum.target s.drum.setpoint } := by
  unfold stepSetpoint
  rw [h]

theorem stepSetpoint_of_decel {s : State} (h : s.drum.state = .decel) :
    stepSetpoint s = s.setDrum { s.drum with setpoint := s.drum.setpoint - s.param .rampStep } := by
  unfold stepSetpoint
  rw [h, moveToward_zero]

theorem stepSetpoint_of_dwell {s : State} (h : s.drum.state = .dwell) : stepSetpoint s = s := by
  unfold stepSetpoint
  rw [h]

theorem stepSetpoint_of_decel_state {s : State} (h : s.drum.state = .decel) : (stepSetpoint s).drum.state = .decel := by
  rw [stepSetpoint_of_decel h]
  exact h

/-! ### The end tests (05 R81, R82) -/

theorem drumEndTest_of_dwell {s : State} (h : s.drum.state = .dwell) : drumEndTest s = s := by
  unfold drumEndTest
  rw [h]

/-- A drum in DWELL at speed 0, its span just begun. -/
def Drum.dwellsAnew (m : Drum) : Prop :=
  m.state = .dwell ∧ m.dir = .stop ∧ m.setpoint = 0 ∧ m.target = 0 ∧ m.spinup = none ∧ m.dwell = some 0

theorem enterDwell_dwellsAnew (s : State) : (enterDwell s).drum.dwellsAnew := by
  rw [enterDwell_drum]
  exact ⟨rfl, rfl, rfl, rfl, rfl, rfl⟩

theorem KeepsSlowing.dwellsAnew {s t : State} (h : KeepsSlowing s t) (hs : s.drum.dwellsAnew) : t.drum.dwellsAnew := by
  obtain ⟨hstate, hdir, hsetpoint, htarget, hspinup, hspan⟩ := hs
  obtain ⟨hdrum, hcount⟩ := h.dwell hstate
  have hspan' : t.drum.dwell = some 0 := by
    rcases hcount with hcount | hcount
    · exact hcount.trans hspan
    · exact hcount
  rw [hdrum]
  exact ⟨hstate, hdir, hsetpoint, htarget, hspinup, hspan'⟩

/-- A DECEL that is at rest enters DWELL, and DRUM_OVERRUN goes (05 R82, R88). -/
theorem drumEndTest_of_rest {s : State} (h : s.drum.state = .decel) (hsetpoint : s.drum.setpoint = 0)
    (hslow : s.speed ≤ s.param .stopSpeed) :
    (drumEndTest s).drum.dwellsAnew ∧ (drumEndTest s).present .drumOverrun = false := by
  have heq : drumEndTest s = goAway .drumOverrun (enterDwell s) := by
    unfold drumEndTest
    rw [h]
    exact if_pos (by simp [State.decelDone, hsetpoint, hslow])
  rw [heq]
  exact ⟨(goAway_acts _ _).keepsSlowing.dwellsAnew (enterDwell_dwellsAnew s), by simp⟩

theorem drumEndTest_of_motion {s : State} (h : s.drum.state = .decel)
    (hmoves : ¬(s.drum.setpoint = 0 ∧ s.speed ≤ s.param .stopSpeed)) : drumEndTest s = s := by
  unfold drumEndTest
  rw [h]
  refine if_neg ?_
  simpa [State.decelDone] using hmoves

/-! ### The entry into TURNING (05 R81, R87) -/

/-- The drum as it enters TURNING, before MOTOR_STALL goes. -/
def State.turned (s : State) : State :=
  forceReduction ((s.setDrum { s.drum with state := .turning, turningEntry := some s.now, spinup := none }).setWalker
    { s.walker with score := 0 })

theorem turned_drum (s : State) :
    s.turned.drum = { s.drum with state := .turning, turningEntry := some s.now, spinup := none } :=
  forceReduction_drum _

theorem turned_present (s : State) (x : Source) : s.turned.present x = s.present x := by
  rw [State.turned, State.present, forceReduction_faults]
  rfl

theorem drumEndTest_of_done {s : State} (h : s.drum.state = .ramp) (hdone : s.rampDone = true) :
    drumEndTest s = goAway .motorStall s.turned := by
  unfold drumEndTest
  rw [h]
  exact if_pos hdone

theorem drumEndTest_of_ramping {s : State} (h : s.drum.state = .ramp) (hnot : s.rampDone = false) :
    drumEndTest s = s := by
  unfold drumEndTest
  rw [h]
  exact if_neg (by rw [hnot]; exact Bool.false_ne_true)

theorem rampDone_iff (s : State) :
    s.rampDone = true ↔
      s.drum.setpoint = s.drum.target ∧ (s.tacho - s.signedTarget).natAbs ≤ s.param .speedTolerance := by
  simp [State.rampDone]

/-- The entry is stamped and MOTOR_STALL goes; where it was absent the drum runs on as it ran. -/
theorem enterTurning_of_done {s : State} (h : s.drum.state = .ramp) (hdone : s.rampDone = true) :
    (drumEndTest s).drum.turningEntry = some s.path.timeBase ∧ (drumEndTest s).present .motorStall = false ∧
      (s.present .motorStall = false → (drumEndTest s).drum = s.turned.drum) := by
  rw [drumEndTest_of_done h hdone]
  refine ⟨?_, by simp, fun habsent => ?_⟩
  · rw [goAway_moves .motorStall s.turned]
    exact congrArg Drum.turningEntry (turned_drum s)
  · rw [goAway_of_absent ((turned_present s _).trans habsent)]

/-! ### Leaving RAMP and TURNING (05 R78) -/

theorem atRest_iff (s : State) : s.atRest = true ↔ s.drum.setpoint = 0 ∧ s.speed ≤ s.param .stopSpeed := by
  simp [State.atRest]

/-- STOP, PAUSE and a RUN of the other direction end a RAMP or a TURNING. -/
theorem actOn_of_away {w : Demand} {s : State} (hstate : s.drum.state = .ramp ∨ s.drum.state = .turning)
    (haway : ∀ d v, w.run? = some (d, v) → d ≠ s.drum.dir) :
    actOn w s = if s.drum.state = .ramp ∧ s.drum.setpoint = 0 ∧ s.speed ≤ s.param .stopSpeed then enterDwell s
      else enterDecel s := by
  have hleave : leaveRamp s = if s.drum.setpoint = 0 ∧ s.speed ≤ s.param .stopSpeed then enterDwell s
      else enterDecel s := if_congr (atRest_iff s) rfl rfl
  unfold actOn
  rcases hstate with hramp | hturning
  · rw [hramp]
    simp only [hleave, true_and]
    split
    next d v hrun => exact if_neg (haway d v hrun)
    · rfl
  · rw [hturning, if_neg (fun h => DrumState.noConfusion h.1)]
    dsimp only
    split
    next d v hrun => exact if_neg (haway d v hrun)
    · rfl

end Sys2Proof.Machine

/-! # A SAMPLE in DECEL (05 R80, R82, R85, R88) -/

namespace Sys2Proof.Machine

/-! ### The drum's turn (05 R85) -/

/-- Steps 2 to 4 of the drum's turn. -/
def drumSteps (s : State) : State := drumEndTest (stepSetpoint (reactDrum s))

/-- The drum's turn up to its step 2. -/
def State.drumReady (late : Bool) (s : State) : State :=
  if late then s.currentNoted else handOvercurrent s.overcurrentStep.2 s.currentNoted

/-- After step 4 the drum's turn is at its end, or OVERCURRENT is handed over. -/
theorem drumSample_cases (late : Bool) (s : State) :
    drumSample late s = drumSteps (s.drumReady late) ∨
      drumSample late s = handOvercurrent s.overcurrentStep.2 (drumSteps (s.drumReady late)) := by
  rw [drumSample_eq]
  cases late
  · exact .inl rfl
  · exact .inr rfl

theorem handOvercurrent_acts (h : Option Bool) (s : State) : Acts s (handOvercurrent h s) := by
  cases h with
  | none => exact .refl s
  | some b => exact handCondition_acts _ b s

theorem handOvercurrent_present_of_ne {x : Source} (hx : x ≠ .overcurrent) (h : Option Bool) (s : State) :
    (handOvercurrent h s).present x = s.present x := by
  cases h with
  | none => rfl
  | some b => exact (handCondition_present _ _ b s).trans (if_neg hx.symm)

theorem currentNoted_drum (s : State) :
    s.currentNoted.drum =
      { s.drum with
        ocRun := s.currentNoted.drum.ocRun, currentMin := s.currentNoted.drum.currentMin,
        currentMax := s.currentNoted.drum.currentMax } := rfl

theorem drumReady_acts (late : Bool) (s : State) : Acts s.currentNoted (s.drumReady late) := by
  cases late
  · exact handOvercurrent_acts _ _
  · exact .refl _

theorem drumReady_moves (late : Bool) (s : State) : MovesBlocks s (s.drumReady late) := by
  have hnote : MovesBlocks s s.currentNoted := rfl
  cases late
  · exact hnote.trans (handOvercurrent_moves _ _)
  · exact hnote

theorem drumReady_present {x : Source} (hx : x ≠ .overcurrent) (late : Bool) (s : State) :
    (s.drumReady late).present x = s.present x := by
  cases late
  · exact handOvercurrent_present_of_ne hx _ _
  · rfl

/-- What the drum's steps read of the SAMPLE's readings and of the tables. -/
theorem reactDrum_reads (s : State) : (reactDrum s).path = s.path ∧ (reactDrum s).tables = s.tables := by
  rw [reactDrum_moves s]
  exact ⟨rfl, rfl⟩

theorem speed_of_path {s t : State} (h : t.path = s.path) : t.speed = s.speed := by
  rw [State.speed, State.speed, State.tacho, State.tacho, h]

theorem param_of_tables {s t : State} (h : t.tables = s.tables) (p : Param) : t.param p = s.param p := by
  rw [State.param, State.param, h]

/-- A drum in DECEL does nothing at step 2. -/
theorem foldl_actOn_of_decel {s : State} (h : s.drum.state = .decel) (l : List Demand) :
    l.foldl (fun t w => actOn w t) s = s := by
  induction l with
  | nil => rfl
  | cons w ws ih => rw [List.foldl_cons, actOn_of_decel h, ih]

theorem reactDrum_of_decel {s : State} (h : s.drum.state = .decel) : (reactDrum s).drum = s.drum := by
  have hmarked : ∀ a : Aux, (s.setAux a).drum.state = .decel := fun _ => h
  unfold reactDrum
  rw [foldl_actOn_of_decel (hmarked _)]
  rfl

/-- In DECEL one step down, and then DWELL at rest or DECEL on (05 R80, R82, R88). -/
theorem drumSteps_of_decel {s : State} (h : (reactDrum s).drum.state = .decel) :
    if (reactDrum s).drum.setpoint - s.param .rampStep = 0 ∧ s.speed ≤ s.param .stopSpeed then
      (drumSteps s).drum.dwellsAnew ∧ (drumSteps s).present .drumOverrun = false
    else
      (drumSteps s).drum =
        { (reactDrum s).drum with setpoint := (reactDrum s).drum.setpoint - s.param .rampStep } ∧
        (drumSteps s).present .drumOverrun = s.present .drumOverrun := by
  obtain ⟨hpath, htables⟩ := reactDrum_reads s
  have hstep := stepSetpoint_of_decel h
  rw [param_of_tables htables] at hstep
  have hstate : (stepSetpoint (reactDrum s)).drum.state = .decel := stepSetpoint_of_decel_state h
  have hsetpoint : (stepSetpoint (reactDrum s)).drum.setpoint = (reactDrum s).drum.setpoint - s.param .rampStep := by
    rw [hstep]
    rfl
  have hmoves := stepSetpoint_moves (reactDrum s)
  have hspeed : (stepSetpoint (reactDrum s)).speed = s.speed :=
    speed_of_path (by rw [hmoves, ← hpath])
  have hstop : (stepSetpoint (reactDrum s)).param .stopSpeed = s.param .stopSpeed :=
    param_of_tables (by rw [hmoves, ← htables]) _
  split
  next hrest =>
    exact drumEndTest_of_rest hstate (hsetpoint.trans hrest.1) (by rw [hspeed, hstop]; exact hrest.2)
  next hmotion =>
    have heq : drumSteps s = stepSetpoint (reactDrum s) :=
      drumEndTest_of_motion hstate (by rw [hsetpoint, hspeed, hstop]; exact hmotion)
    rw [heq]
    refine ⟨by rw [hstep]; rfl, ?_⟩
    exact (hmoves.hands []).present _ (List.not_mem_nil) |>.trans ((reactDrum_hands s []).present _ (List.not_mem_nil))

/-! ### Up to the drum's turn (02 R22) -/

theorem goodFrame_keepsSlowing (p : Port) (s : State) : KeepsSlowing s (goodFrame p s) := by
  have hport : ∀ n, KeepsSlowing s (s.portAfter p n) := fun n => by cases p <;> exact .of_drum rfl
  rw [goodFrame_eq]
  split
  · exact (hport _).trans (goAway_acts _ _).keepsSlowing
  · exact hport _

theorem accepting_keepsSlowing (s : State) (p : List Byte) : KeepsSlowing s (s.accepting p) := by
  have hdecode : ∀ (t : State) a, KeepsSlowing t ((decodeSample p t).setAux a) := fun _ _ => .of_drum rfl
  have hdrop : KeepsSlowing (goodFrame .field s) (goodFrame .field s).dropChoice := .of_drum rfl
  exact (((goodFrame_keepsSlowing .field s).trans hdrop).trans (hdecode _ _)).trans (goAway_acts _ _).keepsSlowing

theorem workedBy_keepsSlowing {first : List SampleBlock} (h : .drum ∉ first) (s : State) (p : List Byte) :
    KeepsSlowing s (s.workedBy p first) :=
  ((accepting_keepsSlowing s p).trans (reselect_acts false _).keepsSlowing).trans
    (sampleWork_keepsSlowing h _ _ _ _)

/-- After the drum's step 4 a drum in DECEL or DWELL keeps its motion to the end of the SAMPLE. -/
theorem worked_keepsSlowing {s : State} {first rest : List SampleBlock} (p : List Byte)
    (h : fillOrder SampleBlock.all s.choice.sample = first ++ .drum :: rest) (hrest : .drum ∉ rest) :
    KeepsSlowing (drumSteps ((s.workedBy p first).drumReady s.choice.overcurrentLate)) (s.worked p) := by
  have hturn : KeepsSlowing (drumSteps ((s.workedBy p first).drumReady s.choice.overcurrentLate))
      (drumSample s.choice.overcurrentLate (s.workedBy p first)) := by
    obtain heq | heq := drumSample_cases s.choice.overcurrentLate (s.workedBy p first)
    · rw [heq]
      exact .refl _
    · rw [heq]
      exact (handOvercurrent_acts _ _).keepsSlowing
  rw [worked_turn h]
  exact hturn.trans (sampleWork_keepsSlowing hrest _ _ _ _)

theorem worked_drumOverrun {s : State} {first rest : List SampleBlock} (p : List Byte)
    (h : fillOrder SampleBlock.all s.choice.sample = first ++ .drum :: rest) (hrest : .drum ∉ rest) :
    (s.worked p).present .drumOverrun =
      (drumSteps ((s.workedBy p first).drumReady s.choice.overcurrentLate)).present .drumOverrun := by
  rw [worked_present h hrest (by decide)]
  show (drumSample _ _).present _ = _
  obtain heq | heq := drumSample_cases s.choice.overcurrentLate (s.workedBy p first)
  · rw [heq]
  · rw [heq, handOvercurrent_present_of_ne (by decide)]

/-- What the drum reads at its turn: the SAMPLE's tacho, and the tables. -/
theorem drumReady_reads (s : State) (p : List Byte) (first : List SampleBlock) (late : Bool) :
    ((s.workedBy p first).drumReady late).tacho = (decodeReadings p).tacho ∧
      ∀ q, ((s.workedBy p first).drumReady late).param q = s.param q := by
  have hpath : ((s.workedBy p first).drumReady late).path = s.decodedPath p := by
    rw [drumReady_moves late _, ← workedBy_path s p first]
  have htables : ((s.workedBy p first).drumReady late).tables = s.tables := by
    rw [drumReady_moves late _, workedBy_moves s p first, ← accepting_tables s p]
  refine ⟨?_, param_of_tables htables⟩
  rw [State.tacho, hpath]
  rfl

/-- At the end of a SAMPLE that finds the drum in DECEL. -/
theorem worked_of_decel {s : State} (h : s.drum.state = .decel) (p : List Byte) :
    (s.worked p).drum.setpoint = s.drum.setpoint - s.param .rampStep ∧
      (if (s.worked p).drum.setpoint = 0 ∧ (decodeReadings p).tacho.natAbs ≤ s.param .stopSpeed then
        (s.worked p).drum.state = .dwell ∧ (s.worked p).drum.dir = .stop ∧
          (s.worked p).present .drumOverrun = false
      else (s.worked p).drum.state = .decel ∧ (s.worked p).drum.dir = s.drum.dir ∧
        (s.worked p).present .drumOverrun = s.present .drumOverrun) := by
  obtain ⟨first, rest, horder, hfirst, hrest⟩ := sampleOrder_turn s.choice.sample .drum
  have hoverrun := worked_drumOverrun p horder hrest
  have hafter := worked_keepsSlowing p horder hrest
  obtain ⟨htacho, hparam⟩ := drumReady_reads s p first s.choice.overcurrentLate
  have hbefore := (workedBy_keepsSlowing hfirst s p).decel h
  have hpresent := workedBy_present (x := .drumOverrun) hfirst (by decide) s p
  rw [← drumReady_present (by decide) s.choice.overcurrentLate] at hpresent
  have hready := (drumReady_acts s.choice.overcurrentLate (s.workedBy p first)).keepsSlowing.decel
    (by rw [currentNoted_drum, hbefore]; exact h)
  rw [currentNoted_drum, hbefore] at hready
  generalize (s.workedBy p first).drumReady s.choice.overcurrentLate = u at *
  have hreact : (reactDrum u).drum = u.drum := reactDrum_of_decel (by rw [hready]; exact h)
  have hstate : (reactDrum u).drum.state = .decel := by rw [hreact, hready]; exact h
  have hsetpoint : (reactDrum u).drum.setpoint = s.drum.setpoint := by rw [hreact, hready]
  have hdir : (reactDrum u).drum.dir = s.drum.dir := by rw [hreact, hready]
  have hsteps := drumSteps_of_decel hstate
  rw [hsetpoint, hparam, hparam, State.speed, htacho] at hsteps
  split at hsteps
  next hstops =>
    obtain ⟨hdwells, hgone⟩ := hsteps
    obtain ⟨hdwell, hstop, hzero, -⟩ := hafter.dwellsAnew hdwells
    refine ⟨hzero.trans hstops.1.symm, ?_⟩
    rw [if_pos ⟨hzero, hstops.2⟩]
    exact ⟨hdwell, hstop, hoverrun.trans hgone⟩
  next hmoves =>
    obtain ⟨hdrum, hstands⟩ := hsteps
    have hend := hafter.decel (by rw [hdrum]; exact hstate)
    rw [hdrum] at hend
    have hstep : (s.worked p).drum.setpoint = s.drum.setpoint - s.param .rampStep := congrArg Drum.setpoint hend
    refine ⟨hstep, ?_⟩
    rw [if_neg (by rw [hstep]; exact hmoves)]
    exact ⟨(congrArg Drum.state hend).trans hstate, (congrArg Drum.dir hend).trans hdir,
      hoverrun.trans (hstands.trans hpresent)⟩

end Sys2Proof.Machine

/-! # A SAMPLE in RAMP on which no record changes (05 R80, R81, R85) -/

namespace Sys2Proof.Machine

/-! ### What a running drum says of the demands (05 R75 to R77) -/

theorem running_demands {s : State} (hlaw : s.demandLaw) (hstate : s.drum.state = .ramp ∨ s.drum.state = .turning) :
    s.drum.winner = s.selectDemand ∧ s.drum.winner.run? = some (s.drum.dir, s.drum.target) ∧ s.stopDemand = false ∧
      s.path.door ≠ .isOpen ∧ s.silent = false := by
  obtain ⟨hwinner, hmeets⟩ := (demandLaw_iff s).mp hlaw
  have hrun : s.drum.winner.run? = some (s.drum.dir, s.drum.target) := by
    unfold Drum.meets at hmeets
    rcases hstate with h | h <;> rw [h] at hmeets <;> exact hmeets
  have hstop : s.stopDemand = false := by
    rw [← Bool.not_eq_true]
    intro hstop
    rw [hwinner, State.selectDemand, if_pos hstop] at hrun
    cases hrun
  have hparts := hstop
  simp only [State.stopDemand, Bool.or_eq_false_iff, decide_eq_false_iff_not] at hparts
  exact ⟨hwinner, hrun, hstop, hparts.1.1.1, hparts.1.1.2⟩

/-- The selection asks of the door whether it is open alone (02 R20; 05 R77). -/
theorem selectDemand_of_closed {s t : State} (hs : s.path.door ≠ .isOpen) (ht : t.path.door ≠ .isOpen)
    (h : SelectsAlike (s.setPath t.path) t) : t.selectDemand = s.selectDemand := by
  have hstop : (s.setPath t.path).stopDemand = s.stopDemand := by
    have hopen : decide (t.path.door = .isOpen) = decide (s.path.door = .isOpen) := by
      rw [decide_eq_false hs, decide_eq_false ht]
    rw [State.stopDemand, State.stopDemand, State.setPath_path, hopen]
    rfl
  rw [h.selectDemand, State.selectDemand, hstop]
  rfl

/-- Without FIELD_SILENT the drum's reaction waits from the acceptance on, with no winner to meet yet. -/
theorem accepting_waits {s : State} (h : s.silent = false) (p : List Byte) :
    (s.accepting p).aux.drumDeferred = true ∧ (s.accepting p).aux.deferred = [] := by
  have hbegin : s.accepting p =
      ((decodeSample p (goodFrame .field s).dropChoice).setAux
        { (decodeSample p (goodFrame .field s).dropChoice).aux with
          drumDeferred := true, deferred := [], airflowWaits := (goodFrame .field s).dropChoice.slowRamp }) := by
    refine goAway_of_absent ?_
    show (goodFrame .field s).present .fieldSilent = false
    rw [goodFrame_present, show s.present .fieldSilent = false from h]
    rfl
  rw [hbegin]
  exact ⟨rfl, rfl⟩

/-! ### The blocks whose records stand (09 R157) -/

theorem MovesHeater.refl (s : State) : MovesHeater s s := rfl

theorem MovesHeater.trans {s t u : State} (h : MovesHeater s t) (k : MovesHeater t u) : MovesHeater s u := by
  unfold MovesHeater at *
  rw [k, h]

theorem lawful_of_faults {s t : State} (h : t.faults = s.faults) {x : Source} (hlaw : s.lawful x) : t.lawful x := by
  unfold State.lawful State.present State.record at *
  rw [h]
  exact hlaw

/-- With the door closed and the estimator at rest, a block but the drum moves the heater alone where its records
stand. -/
theorem sampleBlock_movesHeater {b : SampleBlock} (hb : b ≠ .drum) {s0 s : State} {late : Bool}
    (hestimates : ¬s0.estimates = true) (hlaw : ∀ x, s.lawful x)
    (h : ∀ x ∈ b.sources, (sampleBlock s0 false late b s).record x = s.record x) :
    MovesHeater s (sampleBlock s0 false late b s) := by
  cases b with
  | limits =>
    have hstill : sampleBlock s0 false late .limits s = s := limitsSample_still (fun x _ => hlaw x) h
    rw [hstill]
    exact .refl s
  | moisture =>
    have hstill : sampleBlock s0 false late .moisture s = s := if_neg hestimates
    rw [hstill]
    exact .refl s
  | contacts =>
    have hstill : sampleBlock s0 false late .contacts s = stepContacts s := contactsSample_still (fun x _ => hlaw x) h
    rw [hstill]
    unfold stepContacts
    split <;> exact rfl
  | heater => exact heaterSample_movesHeater s
  | drum => exact absurd rfl hb
  | cycle => exact .refl s

theorem sampleWork_movesHeater {order : List SampleBlock} {s0 s : State} {late : Bool} (hnodup : order.Nodup)
    (hdrum : .drum ∉ order) (hestimates : ¬s0.estimates = true) (hlaw : ∀ x, s.lawful x)
    (h : ∀ b ∈ order, ∀ x ∈ b.sources, (sampleWork s0 false late order s).record x = s.record x) :
    MovesHeater s (sampleWork s0 false late order s) := by
  induction order generalizing s with
  | nil => exact .refl s
  | cons b bs ih =>
    obtain ⟨hb, hbs⟩ := List.nodup_cons.mp hnodup
    have hblock : MovesHeater s (sampleBlock s0 false late b s) := by
      refine sampleBlock_movesHeater (fun e => hdrum (by simp [e])) hestimates hlaw fun x hx => ?_
      rw [← sampleWork_record hb hx s0 false late]
      exact h b List.mem_cons_self x hx
    have hfaults : (sampleBlock s0 false late b s).faults = s.faults := by rw [hblock]
    rw [sampleWork_cons] at h ⊢
    refine hblock.trans (ih hbs (fun hmem => hdrum (List.mem_cons_of_mem b hmem))
      (fun x => lawful_of_faults hfaults (hlaw x)) fun c hc x hx => ?_)
    rw [h c (List.mem_cons_of_mem b hc) x hx, State.record, State.record, hfaults]

/-- Where OVERCURRENT's record stands, the drum's turn is its steps 2 to 4 (05 R85, R89). -/
theorem drumSample_still {late : Bool} {s : State} (hlaw : s.lawful .overcurrent)
    (h : (drumSample late s).record .overcurrent = s.record .overcurrent) :
    drumSample late s = drumSteps s.currentNoted := by
  rw [drumSample_eq] at h ⊢
  cases late with
  | false =>
    have hsteps := drumSteps_hands (handOvercurrent s.overcurrentStep.2 s.currentNoted)
    have hhand : handOvercurrent s.overcurrentStep.2 s.currentNoted = s.currentNoted :=
      handOvercurrent_still (s := s.currentNoted) hlaw ((hsteps.record .overcurrent (by decide)).symm.trans h)
    exact congrArg drumSteps hhand
  | true =>
    have hsteps := drumSteps_hands s.currentNoted
    have hrecord : (drumSteps s.currentNoted).record .overcurrent = s.record .overcurrent :=
      hsteps.record .overcurrent (by decide)
    refine handOvercurrent_still (s := drumSteps s.currentNoted) ?_ (h.trans hrecord.symm)
    unfold State.lawful
    rw [hrecord, show (drumSteps s.currentNoted).present .overcurrent = s.present .overcurrent from
      hsteps.present .overcurrent (by decide)]
    exact hlaw

/-! ### The drum's steps in RAMP (05 R80, R81) -/

/-- With no winner to meet, step 2 leaves the drum. -/
theorem reactDrum_of_none {s : State} (h : s.aux.deferred = []) :
    reactDrum s = s.setAux { s.aux with drumDeferred := false, deferred := [], airflowWaits := false } := by
  unfold reactDrum
  rw [h]
  rfl

/-- The state after a RAMP's move of the setpoint, with no winner met before it. -/
def State.ramped (s : State) : State :=
  (s.setAux { s.aux with drumDeferred := false, deferred := [], airflowWaits := false }).setDrum
    { s.drum with setpoint := moveToward (s.param .rampStep) s.drum.target s.drum.setpoint }

theorem drumSteps_of_ramp {s : State} (hramp : s.drum.state = .ramp) (hnone : s.aux.deferred = []) :
    drumSteps s = drumEndTest s.ramped := by
  rw [drumSteps, reactDrum_of_none hnone, stepSetpoint_of_ramp (by exact hramp)]
  rfl

/-- Where MOTOR_STALL's record stands, a RAMP that has reached its speed is TURNING, and any other goes on. -/
theorem drumSteps_of_still {s : State} (hramp : s.drum.state = .ramp) (hnone : s.aux.deferred = [])
    (hlaw : s.lawful .motorStall) (h : (drumSteps s).record .motorStall = s.record .motorStall) :
    (s.ramped.rampDone = true → drumSteps s = s.ramped.turned ∧ s.present .motorStall = false) ∧
      (s.ramped.rampDone = false → drumSteps s = s.ramped) := by
  rw [drumSteps_of_ramp hramp hnone] at h ⊢
  refine ⟨fun hdone => ?_, fun hnot => drumEndTest_of_ramping hramp hnot⟩
  have hfaults : s.ramped.turned.faults = s.faults := forceReduction_faults _
  rw [drumEndTest_of_done (s := s.ramped) hramp hdone] at h ⊢
  have hstill : goAway .motorStall s.ramped.turned = s.ramped.turned := by
    refine goAway_still (lawful_of_faults hfaults hlaw) (h.trans ?_)
    rw [State.record, State.record, hfaults]
  refine ⟨hstill, ?_⟩
  have hpresent : s.ramped.turned.present .motorStall = s.present .motorStall := turned_present s.ramped _
  rw [← hpresent, ← hstill]
  simp

/-! ### The whole of the SAMPLE -/

section Ramp

variable {s : State} {p : List Byte}

/-- The acceptance moves the path, the field port and the marks of a SAMPLE's work alone. -/
theorem accepting_of_ramp (h : s.unrecorded p) (hdemand : s.demandLaw) (hramp : s.drum.state = .ramp) :
    s.accepting p = { s with links := (s.accepting p).links, path := s.decodedPath p, aux := (s.accepting p).aux } := by
  obtain ⟨-, -, -, -, hsilent⟩ := running_demands hdemand (.inl hramp)
  have haccepting := accepting_of_heard hsilent p
  rw [h.goodFrame_eq] at haccepting
  rw [haccepting]
  rfl

/-- The winner stands through the acceptance, so the selection before the blocks' work is nothing. -/
theorem reselect_of_ramp (h : s.unrecorded p) (hdemand : s.demandLaw) (hramp : s.drum.state = .ramp) :
    reselect false (s.accepting p) = s.accepting p := by
  obtain ⟨hwinner, hrun, -, hdoor, -⟩ := running_demands hdemand (.inl hramp)
  have hframe := accepting_of_ramp h hdemand hramp
  have hclosed : (s.accepting p).path.door ≠ .isOpen := by
    rw [accepting_path, decodedPath_eq]
    show (if (decodeFlags p).doorClosed = true then Door.isClosed else .isOpen) ≠ .isOpen
    rw [if_pos (show (decodeFlags p).doorClosed = true from h.closed)]
    exact Door.noConfusion
  have hdrum : (s.accepting p).drum = s.drum := by rw [hframe]
  have hselect : (s.accepting p).selectDemand = s.selectDemand := by
    refine selectDemand_of_closed hdoor hclosed ⟨rfl, ?_, ?_, ?_, ?_, ?_⟩ <;> rw [hframe] <;> rfl
  refine reselect_of_selected (by rw [hdrum, hselect, hwinner]) ?_
  rw [hdrum, hrun]
  exact Option.some_ne_none _

/-- Up to the drum's turn the blocks have moved the heater alone. -/
theorem workedBy_of_ramp (h : s.unrecorded p) (hdemand : s.demandLaw) (hramp : s.drum.state = .ramp)
    {first rest : List SampleBlock} (horder : fillOrder SampleBlock.all s.choice.sample = first ++ .drum :: rest)
    (hfirst : .drum ∉ first) : MovesHeater (s.accepting p) (s.workedBy p first) := by
  have hnodup := nodup_fillOrder nodup_sampleBlocks s.choice.sample
  rw [horder, List.nodup_append] at hnodup
  obtain ⟨hone, -, hdisjoint⟩ := hnodup
  have hfaults : (s.accepting p).faults = s.faults := by rw [accepting_of_ramp h hdemand hramp]
  have hestimates : ¬(s.accepting p).estimates = true := by
    rw [estimates_iff]
    rintro ⟨-, hturning, -⟩
    exact accepting_notTurning (by rw [hramp]; exact DrumState.noConfusion) p hturning
  have hwork : s.workedBy p first =
      sampleWork (s.accepting p) false s.choice.overcurrentLate first (s.accepting p) := by
    rw [State.workedBy, h.doorOpening, reselect_of_ramp h hdemand hramp]
  have hlater : ∀ b ∈ first, ∀ x ∈ b.sources, (s.workedBy p first).record x = s.record x := fun b hb x hx => by
    have hrest : b ∉ SampleBlock.drum :: rest := fun hmem => hdisjoint b hb b hmem rfl
    rw [← h.worked_record, worked_turn horder, ← sampleWork_cons, sampleWork_record hrest hx]
  rw [hwork] at hlater ⊢
  refine sampleWork_movesHeater hone hfirst hestimates (fun x => lawful_of_faults hfaults (h.lawful x))
    fun b hb x hx => ?_
  rw [hlater b hb x hx, State.record, State.record, hfaults]

/-- At its turn the drum takes its steps with the SAMPLE's readings, and with nothing of its own moved before. -/
structure RampTurn (s : State) (p : List Byte) (u : State) : Prop where
  drum    : u.drum =
    { s.drum with ocRun := u.drum.ocRun, currentMin := u.drum.currentMin, currentMax := u.drum.currentMax }
  faults  : u.faults = s.faults
  none    : u.aux.deferred = []
  reads   : u.tacho = (decodeReadings p).tacho ∧ ∀ q, u.param q = s.param q
  now     : u.path.timeBase = s.path.timeBase

theorem drumTurn_of_ramp (h : s.unrecorded p) (hdemand : s.demandLaw) (hramp : s.drum.state = .ramp)
    {first rest : List SampleBlock} (horder : fillOrder SampleBlock.all s.choice.sample = first ++ .drum :: rest)
    (hfirst : .drum ∉ first) : RampTurn s p (s.workedBy p first).currentNoted := by
  obtain ⟨-, -, -, -, hsilent⟩ := running_demands hdemand (.inl hramp)
  obtain ⟨-, hnone⟩ := accepting_waits hsilent p
  have hbefore := workedBy_of_ramp h hdemand hramp horder hfirst
  have hframe := accepting_of_ramp h hdemand hramp
  have hdrum : (s.workedBy p first).drum = s.drum := by rw [hbefore, hframe]
  have hpath : (s.workedBy p first).path = s.decodedPath p := workedBy_path s p first
  refine ⟨?_, ?_, ?_, drumReady_reads s p first true, ?_⟩
  · rw [currentNoted_drum, hdrum]
  · show (s.workedBy p first).faults = s.faults
    rw [hbefore, hframe]
  · show (s.workedBy p first).aux.deferred = []
    rw [hbefore]
    exact hnone
  · show (s.workedBy p first).path.timeBase = s.path.timeBase
    rw [hpath]
    rfl

/-- After the drum's turn the blocks move the heater alone. -/
theorem worked_of_rampTurn (h : s.unrecorded p) (hdemand : s.demandLaw) (hramp : s.drum.state = .ramp)
    {first rest : List SampleBlock} (horder : fillOrder SampleBlock.all s.choice.sample = first ++ .drum :: rest)
    (hfirst : .drum ∉ first) (hrest : .drum ∉ rest) :
    (drumSteps (s.workedBy p first).currentNoted).record .motorStall = s.record .motorStall ∧
      (s.worked p).present .motorStall = (drumSteps (s.workedBy p first).currentNoted).present .motorStall ∧
      ((drumSteps (s.workedBy p first).currentNoted).faults = s.faults →
        (s.worked p).drum = (drumSteps (s.workedBy p first).currentNoted).drum) := by
  have hturn := drumTurn_of_ramp h hdemand hramp horder hfirst
  have hfaults : (s.workedBy p first).faults = s.faults := hturn.faults
  have hrecord : ∀ x ∈ SampleBlock.drum.sources,
      (drumSample s.choice.overcurrentLate (s.workedBy p first)).record x = s.record x := fun x hx => by
    rw [← h.worked_record, worked_turn horder, sampleWork_record hrest hx]
    rfl
  have hsteps : drumSample s.choice.overcurrentLate (s.workedBy p first) =
      drumSteps (s.workedBy p first).currentNoted := by
    refine drumSample_still (lawful_of_faults hfaults (h.lawful _)) ?_
    rw [hrecord _ (by decide), State.record, State.record, hfaults]
  rw [hsteps] at hrecord
  have hpresent := worked_present horder hrest (x := .motorStall) (by decide) p
  refine ⟨hrecord _ (by decide), by rw [← hsteps]; exact hpresent, fun hstands => ?_⟩
  have hnodup := nodup_fillOrder nodup_sampleBlocks s.choice.sample
  rw [horder, List.nodup_append, List.nodup_cons] at hnodup
  obtain ⟨-, ⟨-, hone⟩, -⟩ := hnodup
  have hestimates : ¬(s.accepting p).estimates = true := by
    rw [estimates_iff]
    rintro ⟨-, hturning, -⟩
    exact accepting_notTurning (by rw [hramp]; exact DrumState.noConfusion) p hturning
  have hwork : s.worked p = sampleWork (s.accepting p) false s.choice.overcurrentLate rest
      (drumSteps (s.workedBy p first).currentNoted) := by
    rw [worked_turn horder, h.doorOpening, ← hsteps]
    rfl
  have hafter := sampleWork_movesHeater (s0 := s.accepting p) (late := s.choice.overcurrentLate) hone hrest hestimates
    (fun x => lawful_of_faults hstands (h.lawful x)) fun b hb x hx => by
      rw [← hwork, h.worked_record, State.record, State.record, hstands]
  rw [← hwork] at hafter
  rw [hafter]

/-- At the end of a SAMPLE that finds the drum in RAMP and changes no record. -/
theorem worked_of_ramp (h : s.unrecorded p) (hdemand : s.demandLaw) (hramp : s.drum.state = .ramp) :
    (s.worked p).drum.setpoint = moveToward (s.param .rampStep) s.drum.target s.drum.setpoint ∧
      (s.worked p).drum.dir = s.drum.dir ∧ (s.worked p).drum.target = s.drum.target ∧
      (s.worked p).drum.winner = s.drum.winner ∧
      (if (s.worked p).drum.setpoint = s.drum.target ∧
          ((decodeReadings p).tacho - s.signedTarget).natAbs ≤ s.param .speedTolerance then
        (s.worked p).drum.state = .turning ∧ (s.worked p).drum.turningEntry = some s.path.timeBase ∧
          (s.worked p).drum.spinup = none ∧ (s.worked p).present .motorStall = false
      else (s.worked p).drum.state = .ramp ∧ (s.worked p).drum.turningEntry = s.drum.turningEntry ∧
        (s.worked p).drum.spinup = s.drum.spinup) := by
  obtain ⟨first, rest, horder, hfirst, hrest⟩ := sampleOrder_turn s.choice.sample .drum
  obtain ⟨hdrum, hfaults, hnone, ⟨htacho, hparam⟩, hnow⟩ := drumTurn_of_ramp h hdemand hramp horder hfirst
  obtain ⟨hrecord, hpresent, hafter⟩ := worked_of_rampTurn h hdemand hramp horder hfirst hrest
  generalize (s.workedBy p first).currentNoted = u at *
  have hstate : u.drum.state = .ramp := by rw [hdrum]; exact hramp
  have hstill := drumSteps_of_still hstate hnone (lawful_of_faults hfaults (h.lawful _))
    (hrecord.trans (by rw [State.record, State.record, hfaults]))
  have hramped : u.ramped.drum =
      { s.drum with
        setpoint := moveToward (s.param .rampStep) s.drum.target s.drum.setpoint, ocRun := u.drum.ocRun,
        currentMin := u.drum.currentMin, currentMax := u.drum.currentMax } := by
    rw [State.ramped, State.setDrum_drum, hparam, hdrum]
  have hsigned : u.ramped.signedTarget = s.signedTarget := by
    rw [State.signedTarget, State.signedTarget, hramped]
  have hdone := rampDone_iff u.ramped
  rw [hsigned, hramped, show u.ramped.tacho = (decodeReadings p).tacho from htacho,
    show u.ramped.param .speedTolerance = s.param .speedTolerance from hparam _] at hdone
  cases hcase : u.ramped.rampDone with
  | true =>
    obtain ⟨hsteps, habsent⟩ := hstill.1 hcase
    rw [hsteps] at hafter hpresent
    have hend := hafter ((forceReduction_faults _).trans hfaults)
    rw [turned_drum, hramped, show u.ramped.now = s.path.timeBase from hnow] at hend
    refine ⟨by rw [hend], by rw [hend], by rw [hend], by rw [hend], ?_⟩
    rw [if_pos (by rw [hend]; exact hdone.mp hcase), hend]
    exact ⟨rfl, rfl, rfl, hpresent.trans ((turned_present u.ramped _).trans habsent)⟩
  | false =>
    rw [hstill.2 hcase] at hafter
    have hend := hafter hfaults
    rw [hramped] at hend
    refine ⟨by rw [hend], by rw [hend], by rw [hend], by rw [hend], ?_⟩
    rw [if_neg (by rw [hend]; exact fun hreached => Bool.false_ne_true (hcase.symm.trans (hdone.mpr hreached))), hend]
    exact ⟨hramp, rfl, rfl⟩

end Ramp

end Sys2Proof.Machine

/-! # FUSE_OPEN and its action (09 R155, R159, R161) -/

namespace Sys2Proof.Machine

/-! ### The highest action (09 R159) -/

theorem Action.code_le (a : Action) : a.code ≤ Action.safeStop.code := by cases a <;> decide

/-- A source that counts holds the highest action up. -/
theorem le_highestAction {x : Source} {s : State} (h : s.counts x = true) :
    (s.action x).code ≤ s.highestAction.code := by
  have hmono : ∀ (l : List Source) (a : Action),
      a.code ≤ (l.foldl (fun a x => if s.counts x then a.higher (s.action x) else a) a).code := by
    intro l
    induction l with
    | nil => exact fun _ => le_rfl
    | cons y ys ih =>
      intro a
      refine le_trans ?_ (ih _)
      dsimp only
      split
      · rw [Action.higher_code]
        exact le_max_left _ _
      · exact le_rfl
  have hfold : ∀ (l : List Source) (a : Action), x ∈ l →
      (s.action x).code ≤ (l.foldl (fun a x => if s.counts x then a.higher (s.action x) else a) a).code := by
    intro l
    induction l with
    | nil => exact fun _ hmem => absurd hmem List.not_mem_nil
    | cons y ys ih =>
      intro a hmem
      rcases List.mem_cons.mp hmem with rfl | hmem
      · refine le_trans ?_ (hmono ys _)
        dsimp only
        rw [if_pos h, Action.higher_code]
        exact le_max_right _ _
      · exact ih _ hmem
  exact hfold Source.all .note (by cases x <;> decide)

theorem highestAction_of_counts {x : Source} {s : State} (h : s.counts x = true) (haction : s.action x = .safeStop) :
    s.highestAction = .safeStop := by
  have hle := le_highestAction h
  rw [haction] at hle
  exact Action.code_inj (le_antisymm (Action.code_le _) hle)

theorem cycleTo_faults (c : CycleState) (s : State) : (cycleTo c s).faults = s.faults := by
  unfold cycleTo
  simp

theorem workOutAction_effective (s : State) : (workOutAction s).faults.effective = s.highestAction := by
  unfold workOutAction enterHalted
  dsimp only
  split
  next h => exact h.symm
  next =>
    split
    · split
      · simp
      · rw [cycleTo_faults]
        simp
    · simp

/-! ### FUSE_OPEN in force -/

/-- FUSE_OPEN's record counts, its action is SAFE_STOP, and so is the effective action. -/
structure State.fused (s : State) : Prop where
  effective : s.faults.effective = .safeStop
  counts    : s.counts .fuseOpen = true
  action    : s.action .fuseOpen = .safeStop

theorem State.fused.stopDemand {s : State} (h : s.fused) : s.stopDemand = true := by
  simp [State.stopDemand, h.effective]

theorem State.fused.of_faults {s t : State} (h : s.fused) (hfaults : t.faults = s.faults) : t.fused := by
  obtain ⟨heffective, hcounts, haction⟩ := h
  refine ⟨by rw [hfaults]; exact heffective, ?_, ?_⟩
  · rw [State.counts, State.record, hfaults]
    exact hcounts
  · rw [State.action, hfaults]
    exact haction

/-- With SAFE_STOP held by FUSE_OPEN there is no other effective action to work out. -/
theorem State.fused.workOutAction {s : State} (h : s.fused) : workOutAction s = s :=
  if_pos ((highestAction_of_counts h.counts h.action).trans h.effective.symm)

theorem Rerecords.fused {x : Source} {s t : State} (h : Rerecords x s t) (hx : x ≠ .fuseOpen) (hs : s.fused) :
    t.fused := by
  refine ⟨h.effective.trans hs.effective, ?_, ?_⟩
  · rw [State.counts, h.others _ hx.symm]
    exact hs.counts
  · rw [State.action, h.actions]
    exact hs.action

theorem State.fused.arise {s : State} (h : s.fused) {x : Source} (hx : x ≠ .fuseOpen) : (arise x s).fused := by
  obtain heq | ⟨t, hrecord, heq⟩ := arise_cases x s
  · rw [heq]; exact h
  · rw [heq, (hrecord.fused hx h).workOutAction]
    exact hrecord.fused hx h

theorem State.fused.goAway {s : State} (h : s.fused) {x : Source} (hx : x ≠ .fuseOpen) : (goAway x s).fused := by
  obtain ⟨t, hrecord, heq⟩ := goAway_cases x s
  have ht : t.fused := by
    rcases hrecord with rfl | hrecord
    · exact h
    · exact hrecord.fused hx h
  rcases heq with heq | heq
  · rw [heq]; exact ht
  · rw [heq, ht.workOutAction]; exact ht

theorem State.fused.handCondition {s : State} (h : s.fused) {x : Source} (hx : x ≠ .fuseOpen) (b : Bool) :
    (handCondition x b s).fused := by
  unfold Machine.handCondition
  split
  · exact h.arise hx
  · exact h.goAway hx

/-- The arising of FUSE_OPEN puts it in force. -/
theorem arise_fused {s : State} (habsent : s.present .fuseOpen = false) (haction : s.action .fuseOpen = .safeStop) :
    (arise .fuseOpen s).fused := by
  have hrecord := arise_record_self .fuseOpen s
  rw [habsent, if_neg Bool.false_ne_true] at hrecord
  obtain heq | ⟨t, hmoved, heq⟩ := arise_cases .fuseOpen s
  · have hpresent := arise_present .fuseOpen .fuseOpen s
    rw [heq, habsent] at hpresent
    simp at hpresent
  · have hmoves := workOutAction_moves t
    rw [heq] at hrecord ⊢
    have hcounts : (workOutAction t).counts .fuseOpen = true := by
      rw [State.counts, hrecord]
      rfl
    have hactions : t.action .fuseOpen = .safeStop := by
      rw [State.action, hmoved.actions]
      exact haction
    have hcounts' : t.counts .fuseOpen = true := by
      rw [State.counts, ← hmoves.record_eq]
      exact hcounts
    refine ⟨(workOutAction_effective t).trans (highestAction_of_counts hcounts' hactions), hcounts, ?_⟩
    rw [hmoves]
    exact hactions

/-! ### The other blocks leave it in force (02 R22) -/

theorem beginPhase_faults (n : Nat) (r : PhaseRecord) (s : State) : (beginPhase n r s).faults = s.faults := by
  have hwalker : ∀ t : State, (walkerPhaseBegin r t).faults = t.faults := fun t => by
    rw [walkerPhaseBegin_moves r t]
  unfold beginPhase
  simp [hwalker]

theorem endPhase_faults (e : EndReason) (s : State) : (endPhase e s).faults = s.faults := by
  unfold endPhase completeCycle
  dsimp only
  split
  · simp [beginPhase_faults]
  · simp [cycleTo_faults]

theorem takeDry_faults (s : State) : (takeDry s).faults = s.faults := by
  unfold takeDry
  split
  · exact endPhase_faults _ s
  · rfl

theorem cycleSample_faults (opening : Bool) (s : State) : (cycleSample opening s).faults = s.faults := by
  unfold cycleSample completeCycle suspend endCooldown
  split
  · split
    · split <;> simp [cycleTo_faults]
    · simp [cycleTo_faults]
    all_goals rfl
  · rfl

theorem moistureSample_fused (s0 : State) {s : State} (h : s.fused) : (moistureSample s0 s).fused := by
  have hset : ∀ m, (s.setMoisture m).fused := fun _ => h.of_faults rfl
  unfold moistureSample
  split
  · split
    · unfold allShortWork
      dsimp only
      split
      · exact (hset _).arise (by decide)
      · exact hset _
    · rw [contactWork_eq]
      have htaken : (contactTaken s0 s).fused := (hset _).goAway (by decide)
      split
      · exact htaken.of_faults (takeDry_faults _)
      · exact htaken
  · exact h

theorem contactsSample_fused {s : State} (h : s.fused) : (contactsSample s).fused := by
  have hstep : (stepContacts s).fused := by
    unfold stepContacts
    split
    · exact h
    · exact h.of_faults rfl
  exact (hstep.handCondition (by decide) _).handCondition (by decide) _

theorem handOvercurrent_fused (o : Option Bool) {s : State} (h : s.fused) : (handOvercurrent o s).fused := by
  cases o with
  | none => exact h
  | some b => exact h.handCondition (by decide) b

theorem drumReady_fused (late : Bool) {s : State} (h : s.fused) : (s.drumReady late).fused := by
  have hnoted : s.currentNoted.fused := h.of_faults rfl
  cases late
  · exact handOvercurrent_fused _ hnoted
  · exact hnoted

theorem drumSteps_fused {s : State} (h : s.fused) : (drumSteps s).fused := by
  have hreact : (stepSetpoint (reactDrum s)).fused := by
    obtain ⟨-, -, -, hmoves⟩ := foldl_actOn_frame s.aux.deferred
      (s.setAux { s.aux with drumDeferred := false, deferred := [], airflowWaits := false })
    exact (h.of_faults (t := reactDrum s) hmoves.keepsQuiet.faults).of_faults (stepSetpoint_moves _).keepsQuiet.faults
  unfold drumSteps drumEndTest
  split
  · split
    · exact (hreact.of_faults (t := State.turned _) (forceReduction_faults _)).goAway (by decide)
    · exact hreact
  · split
    · exact (hreact.of_faults (enterDwell_moves _).keepsQuiet.faults).goAway (by decide)
    · exact hreact
  all_goals exact hreact

theorem sampleBlock_fused {b : SampleBlock} (hb : b ≠ .limits) (s0 : State) (opening late : Bool) {s : State}
    (h : s.fused) : (sampleBlock s0 opening late b s).fused := by
  cases b with
  | limits => exact absurd rfl hb
  | moisture => exact moistureSample_fused s0 h
  | contacts => exact contactsSample_fused h
  | heater => exact h.of_faults (by rw [show sampleBlock s0 opening late .heater s = heaterSample s from rfl,
      heaterSample_movesHeater s])
  | drum =>
    show (drumSample late s).fused
    have hsteps := drumSteps_fused (drumReady_fused late h)
    obtain heq | heq := drumSample_cases late s
    · rw [heq]; exact hsteps
    · rw [heq]; exact handOvercurrent_fused _ hsteps
  | cycle => exact h.of_faults (cycleSample_faults opening s)

theorem sampleWork_fused {order : List SampleBlock} (h : .limits ∉ order) (s0 : State) (opening late : Bool)
    (s : State) :
    s.fused → (sampleWork s0 opening late order s).fused :=
  sampleWork_lift (R := fun s t => s.fused → t.fused) (fun _ => id) (fun h k => k ∘ h)
    (fun _ hb _ => sampleBlock_fused (fun e => h (e ▸ hb)) s0 opening late) s

/-- A SAMPLE with the fuse open puts FUSE_OPEN in force at the turn of the limit checks (09 R155). -/
theorem limitsSample_fused {s : State} {r : Readings} {f : FieldFlags} (hreadings : s.path.readings = some r)
    (hflags : s.path.flags = some f) (hfuse : f.fuseIntact = false) (habsent : s.present .fuseOpen = false)
    (haction : s.action .fuseOpen = .safeStop) : (limitsSample s).fused := by
  rw [limitsSample_eq hreadings hflags, limitsChecks, hfuse]
  refine arise_fused ?_ ?_
  · simpa [handCondition_present, thresholdCheck_present] using habsent
  · have hmoves := (((thresholdCheck_moves .exhaustHigh (s.limitAt 0) r.exhaust s).trans
      (thresholdCheck_moves .inletHigh (s.limitAt 1) r.inlet _)).trans
      (handCondition_moves .exhaustSensor (!r.exhaust.valid) _)).trans
        (handCondition_moves .inletSensor (!r.inlet.valid) _)
    rw [hmoves]
    exact haction

end Sys2Proof.Machine

/-! # A SAMPLE that stops the drum (05 R77, R78, R85; 09 R155, R159) -/

namespace Sys2Proof.Machine

/-! ### Acting on the winners in turn (05 R78, R85) -/

/-- A drum in DECEL that has just left a motion: its direction and setpoint are those of that motion. -/
def Drum.brakesFrom (d m : Drum) : Prop :=
  m.state = .decel ∧ m.dir = d.dir ∧ m.setpoint = d.setpoint ∧ m.target = 0 ∧ m.spinup = none ∧ m.coast = some 0 ∧
    m.overrunMark = false

/-- What acting on winners can make of a drum in RAMP or TURNING: it runs on in its direction from its setpoint, or it
brakes from there, or it was at rest and dwells. -/
inductive Drum.Slowed (d : Drum) (slow : Prop) (m : Drum) : Prop
  | runs (hstate : m.state = .ramp ∨ m.state = .turning) (hdir : m.dir = d.dir) (hsetpoint : m.setpoint = d.setpoint)
      (hturning : m.state = .turning → m.setpoint = m.target)
  | brakes (h : d.brakesFrom m)
  | dwells (h : m.dwellsAnew) (hrest : d.setpoint = 0 ∧ slow)

/-- A RUN of the same direction keeps a RAMP or a TURNING running. -/
theorem actOn_of_along {w : Demand} {s : State} {v : Nat} (hstate : s.drum.state = .ramp ∨ s.drum.state = .turning)
    (hrun : w.run? = some (s.drum.dir, v)) :
    actOn w s = s.setDrum { s.drum with target := v } ∧ s.drum.state = .ramp ∨
      actOn w s = s ∨ actOn w s = enterRamp s.drum.dir v s.drum.target s ∧ s.drum.state = .turning := by
  unfold actOn
  rcases hstate with hramp | hturning
  · rw [hramp, hrun]
    simp
  · rw [hturning, hrun]
    by_cases hv : v = s.drum.target
    · simp [hv]
    · simp [hv]

theorem actOn_slowed {d : Drum} {slow : Prop} {s : State} (hslow : s.speed ≤ s.param .stopSpeed ↔ slow)
    (h : d.Slowed slow s.drum) (w : Demand) : d.Slowed slow (actOn w s).drum := by
  cases h with
  | runs hstate hdir hsetpoint hturning =>
    by_cases haway : ∀ d' v, w.run? = some (d', v) → d' ≠ s.drum.dir
    · rw [actOn_of_away hstate haway]
      split
      next hrest => exact .dwells (enterDwell_dwellsAnew s) ⟨hsetpoint ▸ hrest.2.1, hslow.mp hrest.2.2⟩
      next =>
        refine .brakes ?_
        rw [enterDecel_drum]
        exact ⟨rfl, hdir, hsetpoint, rfl, rfl, rfl, rfl⟩
    · simp only [not_forall, not_not] at haway
      obtain ⟨d', v, hrun, rfl⟩ := haway
      obtain ⟨heq, hramp⟩ | heq | ⟨heq, hturns⟩ := actOn_of_along hstate hrun
      · rw [heq]
        exact .runs (.inl hramp) hdir hsetpoint fun hturns => DrumState.noConfusion (hramp.symm.trans hturns)
      · rw [heq]
        exact .runs hstate hdir hsetpoint hturning
      · rw [heq, enterRamp_drum]
        exact .runs (.inl rfl) hdir ((hturning hturns).symm.trans hsetpoint) fun h => DrumState.noConfusion h
  | brakes hbrakes =>
    rw [actOn_of_decel hbrakes.1]
    exact .brakes hbrakes
  | dwells hdwells hrest => exact .dwells ((actOn_keepsSlowing w s).dwellsAnew hdwells) hrest

theorem foldl_actOn_slowed {d : Drum} {slow : Prop} (l : List Demand) {s : State}
    (hslow : s.speed ≤ s.param .stopSpeed ↔ slow) (h : d.Slowed slow s.drum) :
    d.Slowed slow (l.foldl (fun t w => actOn w t) s).drum := by
  induction l generalizing s with
  | nil => exact h
  | cons w ws ih =>
    have hreads := (actOn_moves w s).keepsQuiet
    refine ih ?_ (actOn_slowed hslow h w)
    rw [speed_of_path hreads.path, param_of_tables hreads.tables]
    exact hslow

/-! ### The drum's steps under STOP (05 R80, R82, R85) -/

/-- A drum that has been stopped from a motion, with one step down: it is at rest in DWELL, or on its way in DECEL. -/
def Drum.stoppedFrom (d : Drum) (slow : Prop) (step : Nat) (m : Drum) : Prop :=
  m.dwellsAnew ∧ d.setpoint - step = 0 ∧ slow ∨
    Drum.brakesFrom { d with setpoint := d.setpoint - step } m ∧ ¬(d.setpoint - step = 0 ∧ slow)

theorem KeepsSlowing.stoppedFrom {s t : State} {d : Drum} {slow : Prop} {step : Nat} (h : KeepsSlowing s t)
    (hs : d.stoppedFrom slow step s.drum) : d.stoppedFrom slow step t.drum := by
  rcases hs with ⟨hdwells, hrest⟩ | ⟨hbrakes, hmoves⟩
  · exact .inl ⟨h.dwellsAnew hdwells, hrest⟩
  · refine .inr ⟨?_, hmoves⟩
    rw [h.decel hbrakes.1]
    exact hbrakes

/-- Once STOP is met the drum takes its step down, or dwells. -/
theorem drumSteps_stoppedFrom {d : Drum} {slow : Prop} {s : State} (hslow : s.speed ≤ s.param .stopSpeed ↔ slow)
    (h : d.Slowed slow s.drum) (hmet : (reactDrum s).drum.meets .stop) :
    d.stoppedFrom slow (s.param .rampStep) (drumSteps s).drum := by
  have hreact : d.Slowed slow (reactDrum s).drum :=
    foldl_actOn_slowed _ (s := s.setAux { s.aux with drumDeferred := false, deferred := [], airflowWaits := false })
      hslow h
  obtain ⟨hramp, hturning⟩ := Drum.meets_stop hmet
  cases hreact with
  | runs hstate => exact absurd hstate (not_or.mpr ⟨hramp, hturning⟩)
  | brakes hbrakes =>
    obtain ⟨hstate, hdir, hsetpoint, htarget, hspinup, hcoast, hmark⟩ := hbrakes
    have hsteps := drumSteps_of_decel hstate
    rw [hsetpoint] at hsteps
    split at hsteps
    next hrest => exact .inl ⟨hsteps.1, hrest.1, hslow.mp hrest.2⟩
    next hmoves =>
      refine .inr ⟨?_, fun hrest => hmoves ⟨hrest.1, hslow.mpr hrest.2⟩⟩
      rw [hsteps.1]
      exact ⟨hstate, hdir, rfl, htarget, hspinup, hcoast, hmark⟩
  | dwells hdwells hrest =>
    have hstep := stepSetpoint_of_dwell hdwells.1
    have hend : drumSteps s = reactDrum s := by rw [drumSteps, hstep, drumEndTest_of_dwell hdwells.1]
    rw [hend]
    exact .inl ⟨hdwells, by rw [hrest.1, Nat.zero_sub], hrest.2⟩

/-! ### From the acceptance to the drum's turn (02 R22) -/

section Stop

variable {s : State} {p : List Byte} {first rest : List SampleBlock}

/-- A running drum, and a good frame at which no condition goes. -/
structure State.runsOn (s : State) : Prop where
  running : s.drum.state = .ramp ∨ s.drum.state = .turning
  drum    : s.drumLaw
  demand  : s.demandLaw
  link    : s.present .fieldLink = false ∨ 1 < s.badCount .field

/-- At its turn the drum stands as it did, but for the winner and its notes. -/
theorem drumReady_of_runsOn (h : s.runsOn) (hfirst : .drum ∉ first) (late : Bool) :
    ((s.workedBy p first).drumReady late).drum =
      { s.drum with
        winner := ((s.workedBy p first).drumReady late).drum.winner
        ocRun := ((s.workedBy p first).drumReady late).drum.ocRun
        currentMin := ((s.workedBy p first).drumReady late).drum.currentMin
        currentMax := ((s.workedBy p first).drumReady late).drum.currentMax } := by
  obtain ⟨-, -, -, -, hsilent⟩ := running_demands h.demand h.running
  obtain ⟨hready, -⟩ := accepting_waits hsilent p
  have hdrum : (s.accepting p).drum = s.drum := by rw [accepting_of_kept hsilent h.link p]
  have hwork : KeepsDrumWaiting (s.accepting p) (s.workedBy p first) :=
    (reselect_acts false _).keepsDrumWaiting.trans (sampleWork_keepsDrumWaiting hfirst _ _ _ _)
  obtain ⟨hwaits, hbefore⟩ := hwork hready
  obtain ⟨-, hturn⟩ := (drumReady_acts late (s.workedBy p first)).keepsDrumWaiting hwaits
  rw [currentNoted_drum, hbefore, hdrum] at hturn
  rw [hturn]

/-- At its turn the drum has the last of the winners it has still to meet as its winner, and that is the selected one.
-/
theorem drumReady_steered (h : s.runsOn) (first : List SampleBlock) (late : Bool) :
    ((s.workedBy p first).drumReady late).driven ∧ ((s.workedBy p first).drumReady late).selected := by
  obtain ⟨hdriven, hreacted, -⟩ := (motionLaws_iff s).mp ⟨h.drum, h.demand⟩
  have hselect := (reselect_drives false (s.accepting p)).driven (accepting_driven hdriven hreacted p)
  have hwork : Steers (reselect false (s.accepting p)) (s.workedBy p first) := sampleWork_steers _ _ _ _ _
  have hturn : Steers (s.workedBy p first) ((s.workedBy p first).drumReady late) := by
    cases late
    · exact (currentNoted_steers _).trans (handOvercurrent_steers _ _)
    · exact currentNoted_steers _
  exact ⟨(hwork.trans hturn).driven hselect, (hwork.trans hturn).selected (reselect_selected false _)⟩

theorem selected_stop {t : State} (h : t.selected) (hstop : t.stopDemand = true) : t.drum.winner = .stop := by
  rw [show t.drum.winner = t.selectDemand from h, State.selectDemand, if_pos hstop]

/-- Where the selected winner at the drum's turn is STOP, and stays it, the SAMPLE stops the drum. -/
theorem worked_of_stop (h : s.runsOn)
    (horder : fillOrder SampleBlock.all s.choice.sample = first ++ .drum :: rest) (hfirst : .drum ∉ first)
    (hrest : .drum ∉ rest)
    (hturn : ((s.workedBy p first).drumReady s.choice.overcurrentLate).stopDemand = true)
    (hend : (s.worked p).stopDemand = true) :
    (s.worked p).drum.winner = .stop ∧
      s.drum.stoppedFrom ((decodeReadings p).tacho.natAbs ≤ s.param .stopSpeed) (s.param .rampStep)
        (s.worked p).drum := by
  obtain ⟨hdriven, hselected⟩ := drumReady_steered (p := p) h first s.choice.overcurrentLate
  obtain ⟨htacho, hparam⟩ := drumReady_reads s p first s.choice.overcurrentLate
  have hdrum := drumReady_of_runsOn (p := p) h hfirst s.choice.overcurrentLate
  have hafter := worked_keepsSlowing p horder hrest
  have hwinner : (s.worked p).drum.winner = .stop := by
    refine selected_stop ?_ hend
    exact (sampleWork_steers _ _ _ _ _).selected (reselect_selected false _)
  generalize (s.workedBy p first).drumReady s.choice.overcurrentLate = u at *
  have hmet : (reactDrum u).drum.meets .stop := by
    have hreacted := reactDrum_driven hdriven
    have hstop := (reactDrum_steers u).selected hselected
    have hdemand : (reactDrum u).stopDemand = u.stopDemand := by
      obtain ⟨-, hwalker, -, hmoves⟩ := foldl_actOn_frame u.aux.deferred
        (u.setAux { u.aux with drumDeferred := false, deferred := [], airflowWaits := false })
      exact (hmoves.selectsAlike hwalker).stopDemand
    rw [← selected_stop hstop (hdemand.trans hturn)]
    exact hreacted.meets (hreacted.noneLeft (reactDrum_waits u).1)
  have hslowed : s.drum.Slowed ((decodeReadings p).tacho.natAbs ≤ s.param .stopSpeed) u.drum := by
    rw [hdrum]
    refine .runs h.running rfl rfl fun hturning => ?_
    have hshape := h.drum.1
    unfold Drum.shape at hshape
    rw [show s.drum.state = .turning from hturning] at hshape
    exact hshape.2.1
  have hsteps := drumSteps_stoppedFrom (by rw [State.speed, htacho, hparam]) hslowed hmet
  rw [hparam] at hsteps
  exact ⟨hwinner, hafter.stoppedFrom hsteps⟩

/-! ### The two SAMPLEs that stop a drum (02 R20; 09 R155) -/

theorem stopDemand_of_open {t : State} (h : t.path.door = .isOpen) : t.stopDemand = true := by
  simp [State.stopDemand, h]

/-- A SAMPLE with the door open stops a running drum. -/
theorem worked_of_open (h : s.runsOn) (hopen : (byteAt p 1).getLsbD 0 = false) :
    (s.worked p).drum.winner = .stop ∧
      s.drum.stoppedFrom ((decodeReadings p).tacho.natAbs ≤ s.param .stopSpeed) (s.param .rampStep)
        (s.worked p).drum := by
  obtain ⟨first, rest, horder, hfirst, hrest⟩ := sampleOrder_turn s.choice.sample .drum
  have hdoor : (s.decodedPath p).door = .isOpen := by
    rw [decodedPath_eq]
    exact if_neg (by rw [hopen]; exact Bool.false_ne_true)
  refine worked_of_stop h horder hfirst hrest (stopDemand_of_open ?_) (stopDemand_of_open ?_)
  · rw [drumReady_moves s.choice.overcurrentLate _, ← hdoor, ← workedBy_path s p first]
  · rw [worked_path]
    exact hdoor

/-- FUSE_OPEN's action is SAFE_STOP, the floor of its row (09 R161). -/
theorem fuseOpen_action (h : s.recordLaw) : s.action .fuseOpen = .safeStop :=
  Action.code_inj (le_antisymm (Action.code_le _) (h .fuseOpen).2)

/-- A SAMPLE that brings FUSE_OPEN before the drum's turn stops a running drum. -/
theorem worked_of_fuse (h : s.runsOn) (hrecord : s.recordLaw) (habsent : s.present .fuseOpen = false)
    (hfuse : (byteAt p 1).getLsbD 3 = false)
    (horder : fillOrder SampleBlock.all s.choice.sample = first ++ .limits :: rest) (hdrum : .drum ∈ rest) :
    (s.worked p).drum.winner = .stop ∧
      s.drum.stoppedFrom ((decodeReadings p).tacho.natAbs ≤ s.param .stopSpeed) (s.param .rampStep)
        (s.worked p).drum := by
  obtain ⟨between, after, rfl⟩ := List.append_of_mem hdrum
  have hnodup := nodup_fillOrder nodup_sampleBlocks s.choice.sample
  have hsplit : fillOrder SampleBlock.all s.choice.sample = (first ++ .limits :: between) ++ .drum :: after := by
    rw [horder, List.append_assoc, List.cons_append]
  have hnodup' := hnodup
  rw [horder, List.nodup_append, List.nodup_cons] at hnodup
  obtain ⟨-, ⟨hlimits, -⟩, hdisjoint⟩ := hnodup
  rw [hsplit, List.nodup_append, List.nodup_cons] at hnodup'
  obtain ⟨-, ⟨hafter, -⟩, hdisjoint'⟩ := hnodup'
  have hbefore : .limits ∉ first := fun hmem => hdisjoint _ hmem _ List.mem_cons_self rfl
  have hfirst : SampleBlock.drum ∉ first ++ .limits :: between := fun hmem =>
    hdisjoint' _ hmem _ List.mem_cons_self rfl
  have haction : (s.workedBy p first).action .fuseOpen = .safeStop := by
    have hactions : (s.workedBy p first).faults.actions = s.faults.actions := by
      rw [workedBy_moves s p first, ← (accepting_faults s p).2]
    rw [State.action, hactions]
    exact fuseOpen_action hrecord
  have hchecked : (limitsSample (s.workedBy p first)).fused :=
    limitsSample_fused (workedBy_readings s p first) (workedBy_flags s p first) hfuse
      ((workedBy_present hbefore (by decide) s p).trans habsent) haction
  have hturn : (s.workedBy p (first ++ .limits :: between)).fused := by
    have heq : s.workedBy p (first ++ .limits :: between) =
        sampleWork (s.accepting p) (s.doorOpening p) s.choice.overcurrentLate between
          (limitsSample (s.workedBy p first)) := sampleWork_append _ _ _ _ _ _
    rw [heq]
    exact sampleWork_fused (fun hmem => hlimits (List.mem_append_left _ hmem)) _ _ _ _ hchecked
  have hend : (s.worked p).fused := by
    rw [worked_turn horder]
    exact sampleWork_fused hlimits _ _ _ _ hchecked
  exact worked_of_stop h hsplit hfirst hafter (drumReady_fused _ hturn).stopDemand hend.stopDemand

end Stop

end Sys2Proof.Machine

/-! # The drum steps toward its target (05 R78, R80 to R82, R85, R87, R88) -/

namespace Sys2Proof.Machine

/-- After the blocks' work the command leaves the drum and the conditions. -/
theorem sampleAnswer_drum (s : State) (p : List Byte) :
    (handOnCopy p (answerDrive (s.worked p))).refresh.drum = (s.worked p).drum := by
  rw [answer_moves s p]
  rfl

theorem sampleAnswer_present (s : State) (p : List Byte) (x : Source) :
    (handOnCopy p (answerDrive (s.worked p))).refresh.present x = (s.worked p).present x :=
  (answer_moves s p).present x

/-- A SAMPLE in RAMP with the door closed is an unrecorded one where its command leaves the records as they were. -/
theorem unrecorded_of_ramp {s t : State} {p : List Byte} (haccepts : s.accepts p) (hramp : s.drum.state = .ramp)
    (hrecord : s.recordLaw) (hclosed : (byteAt p 1).getLsbD 0 = true) (h : exec (.sample p) s = .next t)
    (hkept : t.faults.records = s.faults.records) : s.unrecorded p := by
  rw [exec_sample_of_accepts haccepts] at h
  have hmoves := answer_moves s p
  rw [Host.Outcome.next.inj h] at hmoves
  have hfaults : t.faults = (s.worked p).faults := by rw [hmoves]; rfl
  refine ⟨hclosed, fun x => (hrecord x).1, ?_, by rw [← hfaults]; exact hkept⟩
  rintro ⟨-, hturning, -⟩
  exact accepting_notTurning (by rw [hramp]; exact DrumState.noConfusion) p hturning

/-- A drum that a SAMPLE has stopped, with the two ways into DWELL told apart (05 R78, R82, R85). -/
theorem Drum.stoppedFrom.steps {d m : Drum} {slow : Prop} [Decidable slow] {step : Nat}
    (h : d.stoppedFrom slow step m) :
    m.target = 0 ∧ m.spinup = none ∧
      if d.state = .ramp ∧ d.setpoint = 0 ∧ slow then
        m.state = .dwell ∧ m.dir = .stop ∧ m.setpoint = 0 ∧ m.dwell = some 0
      else m.setpoint = d.setpoint - step ∧
        if m.setpoint = 0 ∧ slow then m.state = .dwell ∧ m.dir = .stop ∧ m.dwell = some 0
        else m.state = .decel ∧ m.dir = d.dir ∧ m.coast = some 0 ∧ m.overrunMark = false := by
  rcases h with ⟨⟨hstate, hdir, hzero, htarget, hspinup, hspan⟩, hrest, hslow⟩ | ⟨hbrakes, hmoves⟩
  · refine ⟨htarget, hspinup, ?_⟩
    split
    · exact ⟨hstate, hdir, hzero, hspan⟩
    · refine ⟨hzero.trans hrest.symm, ?_⟩
      rw [if_pos ⟨hzero, hslow⟩]
      exact ⟨hstate, hdir, hspan⟩
  · obtain ⟨hstate, hdir, hsetpoint, htarget, hspinup, hcoast, hmark⟩ := hbrakes
    replace hsetpoint : m.setpoint = d.setpoint - step := hsetpoint
    refine ⟨htarget, hspinup, ?_⟩
    rw [if_neg fun ⟨_, hzero, hslow⟩ => hmoves ⟨by rw [hzero, Nat.zero_sub], hslow⟩, hsetpoint, if_neg hmoves]
    exact ⟨rfl, hstate, hdir, hcoast, hmark⟩

/-- STOP, PAUSE and a RUN of the other direction take the drum out of RAMP and TURNING. -/
theorem actOn_drum_of_away {w : Demand} {s : State} (hstate : s.drum.state = .ramp ∨ s.drum.state = .turning)
    (haway : ∀ d v, w.run? = some (d, v) → d ≠ s.drum.dir) :
    (actOn w s).drum =
      if s.drum.state = .ramp ∧ s.drum.setpoint = 0 ∧ s.speed ≤ s.param .stopSpeed then
        { s.drum with
          state := .dwell, dir := .stop, setpoint := 0, target := 0, spinup := none, coast := none, dwell := some 0 }
      else
        { s.drum with
          state := .decel, target := 0, spinup := none, coast := some 0, overrunMark := false, dwell := none } := by
  rw [actOn_of_away hstate haway]
  split
  · exact enterDwell_drum s
  · exact enterDecel_drum s

/-- Settles O38, from the drum's turn at a SAMPLE in DECEL, in RAMP with the records as they were, and under STOP, and
from the equations of the operations. -/
theorem drumStepsTowardItsTarget : Obligations.DrumStepsTowardItsTarget := by
  refine ⟨fun s p haccepts hdecel => ?_, fun s t p haccepts hramp hdemand _ hrecord hclosed hexec hkept => ?_,
    fun s p haccepts hstate hdrum hdemand hrecord hlink hcause => ?_, fun s w hstate haway =>
    actOn_drum_of_away hstate haway, fun s hramp hreached hspeed => ?_, moveToward_eq⟩
  case refine_1 =>
    refine ⟨_, exec_sample_of_accepts haccepts, ?_⟩
    rw [sampleAnswer_drum, sampleAnswer_present]
    exact worked_of_decel hdecel p
  case refine_2 =>
    have hworked := worked_of_ramp (unrecorded_of_ramp haccepts hramp hrecord hclosed hexec hkept) hdemand hramp
    rw [exec_sample_of_accepts haccepts] at hexec
    rw [← Host.Outcome.next.inj hexec, sampleAnswer_drum, sampleAnswer_present, ← moveToward_eq]
    exact hworked
  case refine_3 =>
    have hruns : s.runsOn := ⟨hstate, hdrum, hdemand, hlink⟩
    refine ⟨_, exec_sample_of_accepts haccepts, ?_⟩
    rw [sampleAnswer_drum]
    have hstops : (s.worked p).drum.winner = .stop ∧
        s.drum.stoppedFrom ((decodeReadings p).tacho.natAbs ≤ s.param .stopSpeed) (s.param .rampStep)
          (s.worked p).drum := by
      rcases hcause with hopen | ⟨habsent, hfuse, first, rest, horder, hturn⟩
      · exact worked_of_open hruns hopen
      · exact worked_of_fuse hruns hrecord habsent hfuse horder hturn
    obtain ⟨hwinner, hstopped⟩ := hstops
    exact ⟨hwinner, hstopped.steps⟩
  case refine_4 =>
    obtain ⟨hentry, hgone, hruns⟩ := enterTurning_of_done hramp ((rampDone_iff s).mpr ⟨hreached, hspeed⟩)
    refine ⟨hentry, hgone, fun habsent => ?_⟩
    rw [hruns habsent, turned_drum]
    exact ⟨rfl, rfl, rfl, rfl, rfl⟩

end Sys2Proof.Machine

/-! # The walk, and the walker without the drum (06 R97, R98, R102, R105, R108, R110; 05 R77) -/

namespace Sys2Proof.Machine

/-! ### Positions of a block in walking order (06 R98) -/

/-- The position that so many steps from an index reach inside a block. -/
def walkAt (b n i k : Nat) : Nat := b + (i - b + k) % n

theorem walkAt_nextIn (b n i k : Nat) : walkAt b n (nextIn b n i) k = walkAt b n i (k + 1) := by
  have hoffset : nextIn b n i - b = (i - b + 1) % n := Nat.add_sub_cancel_left b _
  rw [walkAt, walkAt, hoffset, Nat.mod_add_mod, Nat.add_assoc, Nat.add_comm 1]

theorem walkAt_zero {b n i : Nat} (hlo : b ≤ i) (hhi : i < b + n) : walkAt b n i 0 = i := by
  rw [walkAt, Nat.add_zero, Nat.mod_eq_of_lt (by omega)]
  omega

/-- As many steps as a block has entries come back to the index. -/
theorem walkAt_size {b n i : Nat} (hlo : b ≤ i) (hhi : i < b + n) : walkAt b n i n = i := by
  rw [walkAt, Nat.add_mod_right]
  exact walkAt_zero hlo hhi

/-- Each entry of a block is reached within as many steps as it has entries. -/
theorem exists_walkAt {b n i k : Nat} (hhi : i < b + n) (hk : k < n) :
    ∃ m, 1 ≤ m ∧ m ≤ n ∧ walkAt b n i m = b + k := by
  by_cases h : i - b < k
  · refine ⟨k - (i - b), by omega, by omega, ?_⟩
    rw [walkAt, Nat.add_sub_cancel' (by omega), Nat.mod_eq_of_lt hk]
  · refine ⟨n - (i - b) + k, by omega, by omega, ?_⟩
    have hround : i - b + (n - (i - b) + k) = k + n := by omega
    rw [walkAt, hround, Nat.add_mod_right, Nat.mod_eq_of_lt hk]

/-! ### The first entry that is not EMPTY (06 R98, R108) -/

theorem usable_iff {s : State} {i : Nat} : s.usable i = true ↔ (s.patternAt i).dir ≠ .empty := decide_eq_true_iff

theorem usable_eq_false {s : State} {i : Nat} : s.usable i = false ↔ (s.patternAt i).dir = .empty := by
  rw [← Bool.not_eq_true, usable_iff, not_not]

/-- The first usable entry from an index on is so many steps away, the steps being counted from `first`. -/
structure FirstUsable (s : State) (b n i first m : Nat) : Prop where
  reached : first ≤ m
  usable  : s.usable (walkAt b n i m) = true
  before  : ∀ k, first ≤ k → k < m → s.usable (walkAt b n i k) = false

section
variable {s : State} {b n i first m : Nat}

theorem FirstUsable.dir_ne_empty (h : FirstUsable s b n i first m) {j : Nat} (hj : j = walkAt b n i m) :
    (s.patternAt j).dir ≠ .empty := by
  rw [hj]
  exact usable_iff.mp h.usable

theorem FirstUsable.dir_eq_empty (h : FirstUsable s b n i first m) {k : Nat} (hk : first ≤ k) (hlt : k < m) :
    (s.patternAt (b + (i - b + k) % n)).dir = .empty := usable_eq_false.mp (h.before k hk hlt)

/-- A step toward the first usable entry. -/
theorem FirstUsable.step (h : FirstUsable s b n (nextIn b n i) first m)
    (hempty : s.usable (walkAt b n i first) = false) : FirstUsable s b n i first (m + 1) where
  reached := Nat.le_succ_of_le h.reached
  usable := walkAt_nextIn b n i m ▸ h.usable
  before k hk hlt := by
    obtain rfl | hk := Nat.eq_or_lt_of_le hk
    · exact hempty
    · obtain ⟨k, rfl⟩ := Nat.exists_eq_succ_of_ne_zero (Nat.ne_zero_of_lt hk)
      rw [Nat.succ_eq_add_one, ← walkAt_nextIn]
      exact h.before k (Nat.le_of_lt_succ hk) (Nat.lt_of_succ_lt_succ hlt)

end

/-- Stepping within as many steps as given stands at the first usable entry, if one of them reaches any. -/
theorem stepFrom_first {s : State} {b n fuel i k : Nat} (hlo : 1 ≤ k) (hhi : k ≤ fuel)
    (husable : s.usable (walkAt b n i k) = true) :
    ∃ m ≤ fuel, stepFrom s b n fuel i = walkAt b n i m ∧ FirstUsable s b n i 1 m := by
  induction fuel generalizing i k with
  | zero => omega
  | succ fuel ih =>
    rw [stepFrom]
    cases hnext : s.usable (nextIn b n i) with
    | true => exact ⟨1, by omega, rfl, le_rfl, hnext, fun _ _ _ => by omega⟩
    | false =>
      obtain ⟨k, rfl⟩ := Nat.exists_eq_succ_of_ne_zero (Nat.ne_zero_of_lt hlo)
      have hk : 1 ≤ k := Nat.one_le_iff_ne_zero.mpr fun h => by
        rw [h] at husable
        exact Bool.false_ne_true (hnext.symm.trans husable)
      obtain ⟨m, hm, hstands, hfirst⟩ := ih hk (by omega) (by rwa [walkAt_nextIn])
      exact ⟨m + 1, by omega, hstands.trans (walkAt_nextIn b n i m), hfirst.step hnext⟩

/-- Stepping through a block that is not all EMPTY stands at its first usable entry after the index. -/
theorem stepFrom_block {s : State} {b n i : Nat} (hhi : i < b + n)
    (hfilled : ∃ k, k < n ∧ (s.patternAt (b + k)).dir ≠ .empty) :
    ∃ m ≤ n, stepFrom s b n n i = walkAt b n i m ∧ FirstUsable s b n i 1 m := by
  obtain ⟨k, hk, hdir⟩ := hfilled
  obtain ⟨m, hlo, hle, hat⟩ := exists_walkAt hhi hk
  exact stepFrom_first hlo hle (by rw [hat]; exact usable_iff.mpr hdir)

theorem nextMain_of_main {s : State} {b n : Nat} (h : s.walker.main = some ⟨b, n⟩) (i : Nat) :
    s.nextMain i = stepFrom s b n n i := by
  rw [State.nextMain, h]

/-- The first entry of a phase is its start, or the first usable one after it. -/
theorem firstEntry_first {s : State} {r : PhaseRecord} {b : Nat} (hwrap : 0 < r.wrap)
    (hb : b = r.start - r.start % r.wrap) (hfilled : ∃ k, k < r.wrap ∧ (s.patternAt (b + k)).dir ≠ .empty) :
    ∃ m < r.wrap, s.firstEntry r = walkAt b r.wrap r.start m ∧ FirstUsable s b r.wrap r.start 0 m := by
  have hrest : r.start % r.wrap < r.wrap := Nat.mod_lt _ hwrap
  have hle : r.start % r.wrap ≤ r.start := Nat.mod_le _ _
  have hlo : b ≤ r.start := by omega
  have hhi : r.start < b + r.wrap := by omega
  cases hstart : s.usable r.start with
  | true =>
    refine ⟨0, hwrap, ?_, le_rfl, ?_, fun _ _ h => absurd h (Nat.not_lt_zero _)⟩
    · rw [State.firstEntry, if_pos hstart, walkAt_zero hlo hhi]
    · rw [walkAt_zero hlo hhi]
      exact hstart
  | false =>
    obtain ⟨m, hm, hstands, -, husable, hbefore⟩ := stepFrom_block hhi hfilled
    have hne : m ≠ r.wrap := by
      rintro rfl
      rw [walkAt_size hlo hhi, hstart] at husable
      exact Bool.false_ne_true husable
    refine ⟨m, by omega, ?_, Nat.zero_le m, husable, fun k _ hk => ?_⟩
    · rw [State.firstEntry, if_neg (by rw [hstart]; exact Bool.false_ne_true), windowOf, ← hb]
      exact hstands
    · obtain rfl | hk0 := Nat.eq_zero_or_pos k
      · rw [walkAt_zero hlo hhi]
        exact hstart
      · exact hbefore k hk0 hk

theorem nextIn_in_block (b i : Nat) : b ≤ nextIn b 4 i ∧ nextIn b 4 i < b + 4 := by
  rw [nextIn]
  omega

/-- What is left of a pass goes to its first usable position. -/
theorem passFind_some {s : State} {b left i j r : Nat} (hlo : b ≤ i) (hhi : i < b + 4)
    (h : passFind s b left i = some (j, r)) :
    ∃ m < left, r = left - 1 - m ∧ j = walkAt b 4 i m ∧ FirstUsable s b 4 i 0 m := by
  induction left generalizing i with
  | zero => cases h
  | succ left ih =>
    have hhere := walkAt_zero hlo hhi
    rw [passFind] at h
    cases husable : s.usable i with
    | true =>
      rw [if_pos husable] at h
      cases h
      exact ⟨0, Nat.succ_pos _, rfl, hhere.symm, le_rfl, by rwa [hhere], fun _ _ hk => absurd hk (Nat.not_lt_zero _)⟩
    | false =>
      rw [husable, if_neg Bool.false_ne_true] at h
      obtain ⟨m, hm, hr, hj, hfirst⟩ := ih (nextIn_in_block b i).1 (nextIn_in_block b i).2 h
      exact ⟨m + 1, by omega, by omega, hj.trans (walkAt_nextIn b 4 i m), hfirst.step (by rwa [hhere])⟩

theorem passFind_none {s : State} {b left i : Nat} (hlo : b ≤ i) (hhi : i < b + 4)
    (h : passFind s b left i = none) {k : Nat} (hk : k < left) : s.usable (walkAt b 4 i k) = false := by
  induction left generalizing i k with
  | zero => exact absurd hk (Nat.not_lt_zero k)
  | succ left ih =>
    rw [passFind] at h
    cases husable : s.usable i with
    | true => simp [husable] at h
    | false =>
      rw [husable, if_neg Bool.false_ne_true] at h
      cases k with
      | zero => rwa [walkAt_zero hlo hhi]
      | succ k =>
        rw [← walkAt_nextIn]
        exact ih (nextIn_in_block b i).1 (nextIn_in_block b i).2 h (Nat.lt_of_succ_lt_succ hk)

/-! ### Losing and regaining the drum (06 R102, R105, R110; 05 R77) -/

theorem loseDrum_of_pass {s : State} (h : s.walker.pass = true) :
    loseDrum s = s.setWalker
      { s.walker with
        turning := 0, score := 0, pass := false, remaining := 0, early := false, index := s.walker.ret } := if_pos h

theorem loseDrum_of_early {s : State} (hpass : s.walker.pass = false) (hearly : s.walker.early = true) :
    loseDrum s = s.setWalker
      { s.walker with turning := 0, score := 0, early := false, index := s.walker.index.map s.nextMain } :=
  (if_neg (Bool.eq_false_iff.mp hpass)).trans (if_pos hearly)

theorem loseDrum_of_plain {s : State} (hpass : s.walker.pass = false) (hearly : s.walker.early = false) :
    loseDrum s = s.setWalker { s.walker with turning := 0, score := 0 } :=
  (if_neg (Bool.eq_false_iff.mp hpass)).trans (if_neg (Bool.eq_false_iff.mp hearly))

/-- What a loss leaves of the walker is worked out from the walker and the entries that it steps to. -/
theorem loseDrum_walker_of_same {s t : State} (hwalker : t.walker = s.walker)
    (hnext : ∀ i, t.nextMain i = s.nextMain i) : (loseDrum t).walker = (loseDrum s).walker := by
  unfold loseDrum
  rw [hwalker, funext hnext]
  dsimp only
  split
  · rfl
  · split <;> rfl

theorem handWalker_of_loss {s : State} (hholds : s.holds = true) (hturn : s.walkerTurn = false) :
    handWalker s = loseDrum s := by
  rw [handWalker, hholds, hturn]
  rfl

theorem handWalker_of_regain {s : State} {i : Nat} (hholds : s.holds = false) (hturn : s.walkerTurn = true)
    (hindex : s.walker.index = some i) : handWalker s = nameEntry i s := by
  have hregain : handWalker s = regainDrum s := by
    rw [handWalker, hholds, hturn]
    rfl
  rw [hregain, regainDrum, hindex]

/-- A regain makes the entry at the current index the winner. -/
theorem reselect_of_regain {s : State} {i : Nat} (named : Bool) (hholds : s.holds = false)
    (hturn : s.walkerTurn = true) (hindex : s.walker.index = some i) :
    (reselect named s).walker = s.naming i s.walker ∧ (reselect named s).drum.winner = (s.patternAt i).demand := by
  have hhand := handWalker_of_regain hholds hturn hindex
  refine ⟨by rw [reselect_walker, hhand]; rfl, ?_⟩
  rw [reselect_winner, State.named, hhand]
  exact selectDemand_of_turn (s := nameEntry i s) hturn

/-! ### CYCLE_PAUSE (08 R137, R139) -/

theorem stepFrom_setProgress (s : State) (o : Option Frame) (b n fuel i : Nat) :
    stepFrom (s.setProgress o) b n fuel i = stepFrom s b n fuel i := by
  induction fuel generalizing i with
  | zero => rfl
  | succ fuel ih =>
    rw [stepFrom, stepFrom, ih]
    rfl

theorem nextMain_setProgress (s : State) (o : Option Frame) (i : Nat) :
    (s.setProgress o).nextMain i = s.nextMain i := by
  have hwalker : (s.setProgress o).walker = s.walker := rfl
  rw [State.nextMain, State.nextMain, hwalker]
  cases s.walker.main with
  | none => rfl
  | some w => exact stepFrom_setProgress s o _ _ _ _

/-- A stop demand takes the drum from the walker that holds it. -/
theorem reselect_of_stopDemand {s : State} (named : Bool) (hholds : s.holds = true) (hstop : s.stopDemand = true) :
    (reselect named s).walker = (loseDrum s).walker ∧ (reselect named s).drum.winner = .stop := by
  have hhand : handWalker s = loseDrum s := handWalker_of_loss hholds (by rw [State.walkerTurn, hstop]; rfl)
  have hstands : (loseDrum s).stopDemand = true := by
    rw [loseDrum_moves]
    exact hstop
  refine ⟨by rw [reselect_walker, hhand], ?_⟩
  rw [reselect_winner, State.named, hhand]
  exact if_pos hstands

/-- Without the override of a COOL_RUN a suspended cycle is a stop demand (05 R76). -/
theorem stopDemand_of_suspended {s : State} (h : s.cycle.state = .suspended) (haction : s.faults.effective ≠ .coolRun) :
    s.stopDemand = true := by
  simp [State.stopDemand, State.overrides, CycleState.stops, h, haction]

/-- A suspension takes the drum from the walker that holds it, and stops it. -/
theorem suspend_loses (c : SuspendCause) {s : State} (hholds : s.holds = true)
    (haction : s.faults.effective ≠ .coolRun) :
    (suspend c s).walker = (loseDrum s).walker ∧ (suspend c s).drum.winner = .stop := by
  have hstop : (forceReduction (s.setCycle (s.cycle.to .suspended))).stopDemand = true :=
    stopDemand_of_suspended (by rw [forceReduction_cycle]; rfl) (by rw [forceReduction_faults]; exact haction)
  have hnext : ∀ i, (forceReduction (s.setCycle (s.cycle.to .suspended))).nextMain i = s.nextMain i :=
    nextMain_of_same (forceReduction_tables _) (by rw [forceReduction_walker]; rfl)
  obtain ⟨hwalker, hwinner⟩ := reselect_of_stopDemand false
    (by rw [State.holds, forceReduction_drum]; exact hholds) hstop
  rw [suspend, raiseEvent_walker, raiseEvent_drum]
  exact ⟨hwalker.trans (loseDrum_walker_of_same (forceReduction_walker _) hnext), hwinner⟩

/-- A quiet part answers a CYCLE_PAUSE in ACTIVE from the suspended cycle. -/
theorem exec_cyclePause_of_active {s : State} (hquiet : s.quiet) (hactive : s.cycle.state = .active) :
    exec (.cyclePause []) s =
      .next (answered 0x44 (.plain .ok)
        ((suspend .pause (s.heard.setProgress (some ⟨0x44, []⟩))).setProgress none)) := by
  obtain ⟨hserves, hlink, hkeep⟩ := hquiet
  have htake : takeRequest ⟨0x44, []⟩ (s.heardFrame.setProgress (some ⟨0x44, []⟩)) =
      (suspend .pause (s.heard.setProgress (some ⟨0x44, []⟩)), .plain .ok) := by
    rw [heardFrame_of_absent hlink hkeep]
    exact if_pos hactive
  exact done_controllerFrame_of_serves (f := ⟨0x44, []⟩) hserves (by decide) (by simp) htake

/-- Settles O16: the walk by induction on its steps, and the walker at a selection by whether it holds the drum and has
its turn. -/
theorem walkStepsToTheNextNonEmptyEntry : Obligations.WalkStepsToTheNextNonEmptyEntry := by
  refine ⟨fun s b n i hmain _ hhi hfilled => ?_, fun s r b hwrap hb hfilled => ?_, fun s b left i hlo hhi => ?_, ?_,
    fun s named => ⟨fun hholds hturn => ?_, fun hsame => ?_, fun i hholds hturn hindex => ?_⟩,
    fun s hquiet hactive hholds hover => ?_⟩
  · obtain ⟨m, hm, hstands, hfirst⟩ := stepFrom_block hhi hfilled
    rw [← nextMain_of_main hmain] at hstands
    exact ⟨m, hfirst.reached, hm, hstands, hfirst.dir_ne_empty hstands, fun k => hfirst.dir_eq_empty⟩
  · obtain ⟨m, hm, hstands, hfirst⟩ := firstEntry_first hwrap hb hfilled
    exact ⟨m, hm, hstands, hfirst.dir_ne_empty hstands, fun k => hfirst.dir_eq_empty (Nat.zero_le k)⟩
  · split
    next j r hfind =>
      obtain ⟨m, hm, hr, hj, hfirst⟩ := passFind_some hlo hhi hfind
      exact ⟨m, hm, hr, hj, hfirst.dir_ne_empty hj, fun k => hfirst.dir_eq_empty (Nat.zero_le k)⟩
    next hfind => exact fun k hk => usable_eq_false.mp (passFind_none hlo hhi hfind hk)
  · rintro s w rfl
    exact ⟨loseDrum_of_pass, loseDrum_of_early, loseDrum_of_plain⟩
  · rw [reselect_walker, handWalker_of_loss hholds hturn]
  · rw [reselect_walker, handWalker_of_turn hsame]
  · exact reselect_of_regain named hholds hturn hindex
  · have hcool : s.faults.effective ≠ .coolRun := fun h => by simp [State.overrides, h] at hover
    obtain ⟨hwalker, hwinner⟩ := suspend_loses .pause (s := s.heard.setProgress (some ⟨0x44, []⟩)) hholds hcool
    refine ⟨_, exec_cyclePause_of_active hquiet hactive, ?_, ?_⟩
    · rw [answered_moves]
      exact hwalker.trans (loseDrum_walker_of_same rfl fun i =>
        (nextMain_setProgress s.heard _ i).trans (nextMain_of_same (s := s) (t := s.heard) rfl rfl i))
    · rw [answered_moves]
      exact hwinner

end Sys2Proof.Machine

/-! # The end of a tangled segment (06 R106 to R108; 05 R78) -/

namespace Sys2Proof.Machine

/-! ### What the walker names (06 R107, R108) -/

theorem naming_standsAt (s : State) (i : Nat) (w : Walker) : (s.naming i w).standsAt s i := ⟨rfl, rfl, rfl, rfl⟩

theorem segmentDemand_of_naming {s t : State} {i : Nat} {w : Walker} (h : t.walker = s.naming i w) :
    t.segmentDemand = (s.patternAt i).demand := by
  rw [State.segmentDemand, h]
  rfl

theorem passFind_setWalker (s : State) (w : Walker) (b left i : Nat) :
    passFind (s.setWalker w) b left i = passFind s b left i :=
  passFind_of_tables (s := s) (t := s.setWalker w) rfl b left i

/-- A pass begins at the first non-EMPTY position from its start on. -/
theorem beginPass_of_some {s : State} {u b ret k r : Nat} (h : passFind s b 4 u = some (k, r)) :
    (beginPass u b ret s).walker =
      s.naming k { s.walker with pass := true, remaining := r, ret := some ret, score := 0 } := by
  rw [beginPass, passAt, passFind_setWalker, h]
  rfl

/-- A pass that finds its block EMPTY ends as it begins, at the return index. -/
theorem beginPass_of_none {s : State} {u b ret : Nat} (h : passFind s b 4 u = none) :
    (beginPass u b ret s).walker =
      s.naming ret { s.walker with pass := false, remaining := 0, ret := some ret, score := 0 } := by
  rw [beginPass, passAt, passFind_setWalker, h]
  rfl

/-- Under the walker's law a phase with an untangle block begins a pass. -/
theorem endTangled_of_block {s : State} {i u : Nat} (hlaw : s.walkerLaw) (hindex : s.walker.index = some i)
    (hrecord : s.cycle.record.untangle = some u) :
    endTangled s = beginPass u (untangleBase u) (s.nextMain i) s := by
  have hblock : s.walker.untangle = some (untangleBase u) := by rw [hlaw.1, hrecord]; rfl
  simp only [endTangled, hindex, hblock, hrecord]

/-- A phase without an untangle block goes on with the next main entry. -/
theorem endTangled_of_noBlock {s : State} {i : Nat} (hindex : s.walker.index = some i)
    (hrecord : s.cycle.record.untangle = none) : endTangled s = nameEntry (s.nextMain i) s := by
  cases hblock : s.walker.untangle <;> simp only [endTangled, hindex, hblock, hrecord]

/-- What the walker names at the end of a tangled segment, once the drum has taken it. -/
theorem endsTangled_of_endTangled {s t : State} {i : Nat} (hlaw : s.walkerLaw) (hpass : s.walker.pass = false)
    (hindex : s.walker.index = some i) (hwalker : t.walker = (endTangled s).walker)
    (hwinner : t.drum.winner = (endTangled s).segmentDemand)
    (hstate : t.drum.state = turningTakes s.drum.dir s.drum.target (endTangled s).segmentDemand) :
    s.endsTangled i t := by
  have hnames : ∀ {j w}, (endTangled s).walker = s.naming j w → t.walker = s.naming j w ∧
      t.walker.standsAt s j ∧ t.drum.winner = (s.patternAt j).demand ∧
      t.drum.state = turningTakes s.drum.dir s.drum.target (s.patternAt j).demand := fun {j w} h => by
    rw [segmentDemand_of_naming h] at hwinner hstate
    rw [h] at hwalker
    exact ⟨hwalker, hwalker ▸ naming_standsAt s j w, hwinner, hstate⟩
  unfold State.endsTangled
  cases hrecord : s.cycle.record.untangle with
  | none =>
    obtain ⟨hnamed, hstands, hdemand, htakes⟩ := hnames (congrArg State.walker (endTangled_of_noBlock hindex hrecord))
    exact ⟨_, hstands, hdemand, htakes, rfl, by rw [hnamed]; exact hpass⟩
  | some u =>
    have hbegins := congrArg State.walker (endTangled_of_block hlaw hindex hrecord)
    cases hfind : passFind s (untangleBase u) 4 u with
    | none =>
      obtain ⟨hnamed, hstands, hdemand, htakes⟩ := hnames (hbegins.trans (beginPass_of_none hfind))
      exact ⟨_, hstands, hdemand, htakes, by dsimp only; rw [hfind, hnamed]; exact ⟨rfl, rfl⟩⟩
    | some f =>
      obtain ⟨k, r⟩ := f
      obtain ⟨hnamed, hstands, hdemand, htakes⟩ := hnames (hbegins.trans (beginPass_of_some hfind))
      exact ⟨_, hstands, hdemand, htakes, by dsimp only; rw [hfind, hnamed]; exact ⟨rfl, rfl, rfl, rfl, rfl⟩⟩

/-- The end of a tangled segment is told of the tables, the walk, the phase record and the drum's motion alone. -/
theorem endsTangled_of_same {s c t : State} {i : Nat} (htables : c.tables = s.tables)
    (hmain : c.walker.main = s.walker.main) (hrecord : c.cycle.record = s.cycle.record)
    (hdir : c.drum.dir = s.drum.dir) (htarget : c.drum.target = s.drum.target) (h : c.endsTangled i t) :
    s.endsTangled i t := by
  simp only [State.endsTangled, Walker.standsAt, patternAt_of_tables htables, nextMain_of_same htables hmain,
    passFind_of_tables htables, hrecord, hdir, htarget] at h ⊢
  exact h

theorem tenthFrame_refresh {s t : State} : s.tenthFrame t.refresh ↔ s.tenthFrame t := Iff.rfl

theorem endsTangled_refresh {s t : State} {i : Nat} : s.endsTangled i t.refresh ↔ s.endsTangled i t := Iff.rfl

/-! ### The walker's turn, the first of a quiet tenth (06 R107) -/

/-- After the walker's turn the others are calm, when no count of the drum has run: walker and drum stand. -/
theorem runTenth_walkerFirst {s u : State} (hlaw : s.paramLaw) (hquiet : s.quietTenth)
    (hturn : tenthBlock s.secondNext .walker (beginTenth s.dropChoice) = u)
    (hkeeps : KeepsQuiet (beginTenth s.dropChoice) u) (hfresh : u.drum.fresh) :
    TenthBlock.walker.sees u (runTenth [.walker] s) := by
  obtain ⟨rest, hnodup, hnot, heq⟩ := runTenth_first .walker s
  obtain ⟨hkeepalive, hcycle⟩ := hkeeps.calm hquiet
  have htables : u.tables = s.tables := hkeeps.tables.trans (by rw [beginTenth_eq]; rfl)
  have hlaw' : u.paramLaw := by
    unfold State.paramLaw State.param at hlaw ⊢
    rw [htables]
    exact hlaw
  rw [heq, hturn]
  refine (tenthBlocks_calm hnodup fun b hb => ?_).2 .walker hnot
  cases b with
  | keepalive => exact hkeepalive
  | drum => exact drum_calm_of_fresh hlaw' hfresh _
  | moisture => trivial
  | walker => exact absurd hb hnot
  | cycle => exact hcycle
  | report => trivial

/-- A TURNING drum under the walker takes at once what the walker has named, and a count that it begins has not run. -/
structure Takes (v t : State) : Prop where
  walker : t.walker = v.walker
  winner : t.drum.winner = v.segmentDemand
  state  : t.drum.state = turningTakes v.drum.dir v.drum.target v.segmentDemand
  fresh  : t.drum.fresh

theorem reselect_takes {v : State} (hturning : v.drum.state = .turning) (hholds : v.holds = true)
    (hturn : v.walkerTurn = true) (hready : v.aux.drumDeferred = false) : Takes v (reselect true v) := by
  have hstate : (v.setDrum { v.drum with winner := v.segmentDemand }).drum.state = .turning := hturning
  obtain ⟨htakes, hfresh⟩ := actOn_turning (w := v.segmentDemand) hstate
  rw [reselect_naming hholds hturn hready]
  exact ⟨actOn_walker _ _, actOn_winner _ _, htakes, hfresh⟩

/-- A tangled segment, of a drum that is TURNING under the walker, has had MIN_TURN with the coming tenth (06 R107). -/
structure State.endsEarly (s : State) : Prop where
  turning : s.drum.state = .turning
  holds   : s.holds = true
  turn    : s.walkerTurn = true
  early   : s.walker.early = true
  least   : s.param .minTurn ≤ satSucc 2550 s.walker.turning

namespace State.endsEarly

variable {s : State}

theorem dropChoice (h : s.endsEarly) : s.dropChoice.endsEarly := ⟨h.turning, h.holds, h.turn, h.early, h.least⟩

/-- While an early end is pending the walker's counting is calm work: no second detects a tangle (06 R105). -/
theorem counted_calmWork (h : s.endsEarly) : CalmWork .walker (beginTenth s) s.walkerCounted :=
  walkerCounted_calmWork fun hsecond => by
    have hnext := tangleNext_of_short (s := s) (.inr (.inr (.inr (.inr (.inl h.early)))))
    rwa [hsecond, Bool.true_and] at hnext

theorem due (h : s.endsEarly) : s.walkerCounted.earlyDue = true := by
  obtain ⟨htimed, hcount⟩ := walkerCounted_timed h.turning h.holds
  have hmoves := h.counted_calmWork.moves
  have hearly : s.walkerCounted.walker.early = true := by
    rw [hmoves, beginTenth_walker]
    exact h.early
  have hleast : s.walkerCounted.param .minTurn = s.param .minTurn := by
    rw [← beginTenth_param s, hmoves]
    rfl
  simp [State.earlyDue, htimed, hearly, hleast, hcount, h.least]

/-- Once this tenth is counted, nothing of the drum has moved but the second's extremes. -/
theorem counted_drum (h : s.endsEarly) :
    s.walkerCounted.drum.state = .turning ∧ s.walkerCounted.drum.dir = s.drum.dir ∧
      s.walkerCounted.drum.target = s.drum.target ∧ s.walkerCounted.drum.winner = s.drum.winner := by
  have hdrum := h.counted_calmWork.moves.drum_eq
  rw [beginTenth_drum] at hdrum
  rw [hdrum]
  exact ⟨h.turning, rfl, rfl, rfl⟩

theorem counted_tables (h : s.endsEarly) : s.walkerCounted.tables = s.tables := by
  rw [h.counted_calmWork.moves, beginTenth_eq]
  rfl

theorem counted_record (h : s.endsEarly) : s.walkerCounted.cycle.record = s.cycle.record := by
  rw [h.counted_calmWork.moves, beginTenth_cycle]

theorem counted_walker (h : s.endsEarly) :
    s.walkerCounted.walker =
      { s.walker with turning := s.walkerCounted.walker.turning, score := s.walkerCounted.walker.score } := by
  have hwalker := h.counted_calmWork.moves.walker_eq
  rwa [beginTenth_walker] at hwalker

theorem counted_walkerLaw (h : s.endsEarly) (hlaw : s.walkerLaw) : s.walkerCounted.walkerLaw := by
  rw [State.walkerLaw, h.counted_record, h.counted_walker]
  exact hlaw

/-- What the walker names is the winner, and the drum takes it at once (05 R78; 06 R99). -/
theorem walkerTenth_eq (h : s.endsEarly) :
    tenthBlock s.secondNext .walker (beginTenth s) = reselect true (endTangled s.walkerCounted) := by
  show (if s.walkerCounted.earlyDue then reselect true (endTangled s.walkerCounted)
    else if s.walkerCounted.segmentDue then reselect true (advanceWalker s.walkerCounted) else s.walkerCounted) = _
  rw [if_pos h.due]

theorem ended_keepsQuiet (h : s.endsEarly) : KeepsQuiet (beginTenth s) (reselect true (endTangled s.walkerCounted)) :=
  (h.counted_calmWork.keepsQuiet.trans (endTangled_moves _).drum.keepsQuiet).trans (reselect_moves _ _).keepsQuiet

/-- The drum takes what the walker names at the end of the tangled segment. -/
theorem ended_takes (h : s.endsEarly) (hready : s.aux.drumDeferred = false) :
    Takes (endTangled s.walkerCounted) (reselect true (endTangled s.walkerCounted)) := by
  have hdrum : (endTangled s.walkerCounted).drum = s.walkerCounted.drum := by rw [endTangled_moves s.walkerCounted]
  obtain ⟨hturning, -, -, hwinner⟩ := h.counted_drum
  refine reselect_takes (by rw [hdrum, hturning]) ?_ ?_ ?_
  · rw [State.holds, hdrum, hwinner]
    exact h.holds
  · rw [endTangled_moves s.walkerCounted, h.counted_calmWork.moves, beginTenth_eq]
    exact h.turn
  · rw [endTangled_moves s.walkerCounted, h.counted_calmWork.moves, beginTenth_eq]
    exact hready

end State.endsEarly

/-- The tangled segment ends at the walker's turn, which is the first. -/
theorem runTenth_endsTangled {s : State} {i : Nat} (h : s.endsEarly) (hlaw : s.paramLaw) (hwalker : s.walkerLaw)
    (hquiet : s.quietTenth) (hready : s.aux.drumDeferred = false) (hpass : s.walker.pass = false)
    (hindex : s.walker.index = some i) : s.endsTangled i (runTenth [.walker] s) := by
  have h' := h.dropChoice
  have hended := h'.ended_takes hready
  obtain ⟨hstands, hdrum⟩ := runTenth_walkerFirst hlaw hquiet h'.walkerTenth_eq h'.ended_keepsQuiet hended.fresh
  obtain ⟨-, hdir, htarget, -⟩ := h'.counted_drum
  have hcounted := h'.counted_walker
  have hkept : (endTangled s.dropChoice.walkerCounted).drum = s.dropChoice.walkerCounted.drum := by
    rw [endTangled_moves s.dropChoice.walkerCounted]
  have hends : s.dropChoice.walkerCounted.endsTangled i (runTenth [.walker] s) := by
    refine endsTangled_of_endTangled (h'.counted_walkerLaw hwalker) (by rw [hcounted]; exact hpass)
      (by rw [hcounted]; exact hindex) (hstands.trans hended.walker) (by rw [hdrum]; exact hended.winner) ?_
    rw [hdrum, ← hkept]
    exact hended.state
  exact endsTangled_of_same h'.counted_tables (by rw [hcounted]; rfl) h'.counted_record hdir htarget hends

/-- Settles O24: the segment ends at the walker's turn, which is the first; the walker ends it as a tangled one, and the
drum takes what it names. -/
theorem earlyEndRunsAnUntanglePass : Obligations.EarlyEndRunsAnUntanglePass := by
  intro s i hlaw hdrum hwalker hquiet hturning hholds hturn hindex hearly hleast
  have h : s.endsEarly := ⟨hturning, hholds, hturn, hearly, hleast⟩
  obtain ⟨-, -, hready, -, -⟩ := hdrum
  have hpass : s.walker.pass = false := Bool.eq_false_iff.mpr fun hpass =>
    Bool.false_ne_true ((hwalker.2 hpass).2.2.symm.trans hearly)
  exact ⟨_, done_dueTenth_of_due h.due .walker s, tenthFrame_refresh.mpr (runTenth_tenthFrame _ s),
    endsTangled_refresh.mpr (runTenth_endsTangled h hlaw hwalker hquiet hready hpass hindex)⟩

end Sys2Proof.Machine

/-! # A tangle at a tenth that ends the phase (06 R104 to R106, R111; 05 R88; 07 R126, R129) -/

namespace Sys2Proof.Machine

/-- An ACTIVE cycle that turns with the door open, at the second expiry that detects a tangle in a segment that has had
MIN_TURN. The duration span of the phase is over but for an effective action COOL_RUN that no record holds, and
COAST_LIMIT is 0: two things that the laws of a good state leave out (09 R159; 10 R174). -/
def staleCoolRun : State :=
  { State.reset with
    path := { resetPath with timeBase := 99 }
    drum :=
      { resetDrum with
        state := .turning, dir := .cw, setpoint := 450, target := 450, winner := .walkerRun .cw 450,
        turningEntry := some 0, currentMin := some 100, currentMax := some 1000 }
    walker := { resetWalker with turning := 39, score := 2 }
    cycle := { resetCycle with state := .active, record := strayPhase, elapsed := 59 }
    faults := { resetFaults with effective := .coolRun }
    tables :=
      { resetTables with
        program := (resetTables.program.set 0 strayPhase).set 1 strayPhase
        params := resetTables.params.set Param.coastLimit.row.index 0 } }

theorem staleCoolRun_quietTenth : staleCoolRun.quietTenth := by
  unfold State.quietTenth
  decide +kernel

/-- The tangled segment ends under the stop demand of the door, the DECEL begins at its limit, DRUM_OVERRUN arises, and
the effective action worked out anew lets the phase end at this second: the next phase begins with the count at 0. -/
theorem staleCoolRun_tangle : ∃ t, exec .tangle staleCoolRun = .next t ∧ t.present .drumOverrun = true ∧
    t.faults.effective = .note ∧ t.cycle.phase = 1 ∧ t.walker.count = 0 :=
  ⟨_, rfl, by decide +kernel, by decide +kernel, by decide +kernel, by decide +kernel⟩

/-- Refutes O25: without the laws of the parameters and of the effective action the end of the segment can begin a DECEL
that is at its limit, and the action of that arising a phase, which clears the count just raised. -/
theorem not_tangleIsCountedAndEndsTheSegment : ¬ Obligations.TangleIsCountedAndEndsTheSegment := by
  intro htangle
  obtain ⟨u, hcleared, -, -, -, hzero⟩ := staleCoolRun_tangle
  obtain ⟨t, hexec, -, -, hcount, -⟩ := htangle staleCoolRun 0 100 1000 staleCoolRun_quietTenth (by decide +kernel) rfl
    rfl rfl rfl rfl rfl (by decide +kernel) rfl rfl (by decide +kernel) (by decide +kernel)
  obtain rfl : u = t := Host.Outcome.next.inj (hcleared.symm.trans hexec)
  exact absurd (hzero.symm.trans hcount) (by decide)

end Sys2Proof.Machine
